-- ==== Sys2Proof/Word.lean ====
section
/-!
DEFINITION. The words of the KRL7512: bytes, 32-bit register words, 64-bit registers and the byte-order readings of R12.
-/
namespace Sys2Proof

/-- One byte of a frame, of a structure in memory or of an image. -/
abbrev Byte := BitVec 8

/-- One 32-bit register word (R460). -/
abbrev Word := BitVec 32

/-- One 64-bit register (R460). -/
abbrev Word64 := BitVec 64

/-- A sparse store: (key, value) pairs in one canonical form, keys strictly rising, no entry equal to what an
unlisted key reads as. -/
abbrev Map (α : Type) := List (Nat × α)

end Sys2Proof
end

