-- ==== Sys2Proof/Syntax.lean ====
section
/-!
DEFINITION. The commands of the block.
-/
namespace Sys2Proof

/-- Who makes an access of the register bus (R459, R463). -/
inductive Requester where
  | pf0 (id : BitVec 16)
  | vf (n : Fin 64) (id : BitVec 16)
  | gaffer (core : Fin 16)
  | image
  | punty
  | jarlis (dev : Fin 4096)
  deriving DecidableEq, Repr

/-- Where a table command comes from (R192): a host queue, the internal queue of the firmware, Cast-On, or the peer. -/
inductive TblSrc where
  | host (sq : Fin 512)
  | firmware (core : Fin 16)
  | image
  | punty
  deriving DecidableEq, Repr

/-- What may go wrong in a Cast-On step beside the checks the device makes on what it holds (R44, R63): a PLL that does not lock, a
fuse word, the ledger, a memory instance of the start-up BIST, a flash address that does not read. -/
inductive StepFault where
  | pll (n : Fin 144)
  | fuse (word : Fin 256)
  | ledger
  | memory (inst : Fin 256)
  | flashRead (addr : Fin 268435456)
  deriving DecidableEq, Repr

/-- A technology that a Clause 73 base page advertises (R82): the rows of R104, and beside them those of IEEE 802.3 that share one of the
six lane rates, and those that share none (R107). -/
inductive Tech where
  | kx1000 | kr10g | kr25g | kr25gS | kr50g | kr4x100g | kr2x100g | kr1x100g | kr4x200g | kr2x200g | kr1x200g
  | kr4x400g | kr2x400g | kr8x800g | kr4x800g | kr8x1600g
  | kr4x40g | cr4x40g | cr10x100g | cr4x100g
  | kx2500 | kr5g | kx4x10g | kp4x100g
  deriving DecidableEq, Repr

/-- What a table command brings to the engine (R193, R206): its 64 bytes, unless a queue holds them, and the slots that its reads find in
error: uncorrectable or not, and the index. -/
structure TblCmd where
  entry : List Byte
  ecc : List (Bool × Fin 1056768) := []
  deriving DecidableEq, Repr

/-- The data bytes that come with a Gather block (R137), and the FEC codewords decoded meanwhile: the symbols corrected, 15 for 15 or
more, none where uncorrectable (R110). -/
structure RxBlock where
  bytes : List Byte
  cw : List (Option (BitVec 4)) := []
  deriving DecidableEq, Repr

/-- What the PCS shows at a frame's end (R136): a code error in it, and the FEC codewords decoded meanwhile. -/
structure PcsEnd where
  codeErr : Bool
  cw : List (Option (BitVec 4)) := []
  deriving DecidableEq, Repr

/-- A LANE_WIDTH set as received (R118, R333): the new width, and the lanes of the port, from its lowest, that no longer carry data. -/
structure WidthSet where
  width : BitVec 4
  dark : BitVec 8
  deriving DecidableEq, Repr

/-- The body of a Punty message that holds records (R372, R375), or a frame whose TYPE is reserved. -/
inductive PuntyBody where
  | records (body : List Byte)
  | reserved (type : BitVec 8)
  deriving DecidableEq, Repr

/-- What made a condition of R114 hold: no energy, loss of CDR lock, the PCS, the FEC, or a remote fault. -/
inductive LinkCause where
  | signal | cdr | pcs | fec | remote
  deriving DecidableEq, Repr

/-- A condition of R114 that holds at a port: what made it, and the lane of the port on which it holds. -/
structure LinkFault where
  port : Fin 512
  cause : LinkCause
  lane : Fin 8
  deriving DecidableEq, Repr

/-- The commands of the block: one constructor per row of the opcode table, in its order. -/
inductive Instr where
  /-- SYS_RST_N_ASSERT (R41). -/
  | sysRstNAssert
  /-- SYS_RST_N_RELEASE (R42): the straps BOOT_RETRY, XSPI_SINGLE, UNIT_PAIR and UNIT_SLOT, and whether UNIT_PEER_ACT_N and UNIT_PEER_RELQ_N are low. -/
  | sysRstNRelease (retry single pair slot peerActLow peerRelqLow : Bool)
  /-- PERST_N_ASSERT (R583). -/
  | perstNAssert
  /-- PCIE_POWER_DOWN (R583). -/
  | pciePowerDown
  /-- PERST_N_RELEASE (R59). -/
  | perstNRelease
  /-- CAST_ON_STEP_DONE (R58): what went wrong in the step, if anything did. -/
  | castOnStepDone (fault : Option StepFault)
  /-- CLASS_E_RECHECK (R60): `last` says that 2 s have passed. -/
  | classERecheck (last : Bool)
  /-- CAST_ON_WATCHDOG (R61). -/
  | castOnWatchdog
  /-- CONFIG_RECORD (R57). -/
  | configRecord
  /-- WAIT_FIELD_TIMEOUT (R53). -/
  | waitFieldTimeout
  /-- FIRMWARE_READY (R534): the ROLE of cores 0, 1, 2, …, 0 for one that is not started. -/
  | firmwareReady (roles : List (BitVec 8))
  /-- FIRMWARE_START_TIMEOUT (R534). -/
  | firmwareStartTimeout
  /-- RECAST (R68): SLOT and CLR_FAILS of the pair. -/
  | recast (rq : Requester) (slot : Fin 4) (clr : Bool)
  /-- ENTER_SELVEDGE (R68): CLR_FAILS of the pair. -/
  | enterSelvedge (rq : Requester) (clr : Bool)
  /-- SET_PREF (R68): SLOT and CLR_FAILS of the pair. -/
  | setPref (rq : Requester) (slot : Fin 4) (clr : Bool)
  /-- LOCK_SET (R72). -/
  | lockSet (rq : Requester)
  /-- LOCK_RELEASE (R73). -/
  | lockRelease (rq : Requester)
  /-- FLASH_WE_WRITE (R74): A_EN and B_EN. -/
  | flashWeWrite (rq : Requester) (a b : Bool)
  /-- RAIL_SAMPLE (R76): the readings of sensors 0, 1, 2, … in mV. -/
  | railSample (mvs : List (BitVec 16))
  /-- TEMP_SAMPLE (R76): the readings of sensors 0, 1, 2, … in quarters of a degree, two's complement. -/
  | tempSample (temps : List (BitVec 16))
  /-- SUPPLY_WINDOW_CROSS (R77): sensor, and whether it rose above HI_MV. -/
  | supplyWindowCross (n : Fin 32) (up : Bool)
  /-- THERMAL_SHUTDOWN (R584). -/
  | thermalShutdown
  /-- SURVEY_LANES (R88): SRV_CTRL is written with START 1 and SCOPE 0. -/
  | surveyLanes (rq : Requester) (first last : Fin 512) (resolve auto : Bool)
  /-- SURVEY_MODULES (R88): SRV_CTRL is written with START 1 and SCOPE 1, its other fields as they stand. -/
  | surveyModules (rq : Requester)
  /-- LANE_SURVEY_DONE (R79): A lane's channel survey completes: state (0 measured, 1 absent, 2 failed), the loss, the round-trip times to the termination and to the largest other reflection in ps, its magnitude, whether a base page of the partner came, and if so its technologies and the next pages. -/
  | laneSurveyDone (lane : Fin 512) (state : Fin 3) (extrap sat : Bool) (il : BitVec 10) (len pos : BitVec 32) (rho : BitVec 8) (an : Bool) (techs : List Tech) (pages : List (BitVec 48))
  /-- MODULE_SURVEY_DONE (R83): The reads of a master's channels complete: no value when a transfer failed, [] when nothing answered, else bytes 0, 1 and 2 and page 00h bytes 200 and 201. -/
  | moduleSurveyDone (master : Fin 16) (channels : List (Option (List Byte)))
  /-- MODULE_PRESENCE_POLL (R84): Byte 0 of a channel is polled, with what a survey of it would read. -/
  | modulePresencePoll (channel : Fin 128) (read : Option (List Byte))
  /-- AUTO_RESURVEY (R87): Energy for 100 ms on every lane of a port that awaits a partner. -/
  | autoResurvey (p : Fin 512)
  /-- PORT_ENABLE (R102): TILE_PORT_CFG is written with EN 1. -/
  | portEnable (rq : Requester) (p : Fin 512) (cfg : BitVec 32)
  /-- PORT_CHANGE (R102): the word written to TILE_PORT_CFG. -/
  | portChange (rq : Requester) (p : Fin 512) (cfg : BitVec 32)
  /-- PORT_DELETE (R102): TILE_PORT_CFG is written with EN 0. -/
  | portDelete (rq : Requester) (p : Fin 512) (cfg : BitVec 32)
  /-- PORT_OPTION_CHANGE (R102): POLICY, SHED_EN, SLEEP_EN and PROBE_S are written, the other fields as they stand. -/
  | portOptionChange (rq : Requester) (p : Fin 512) (policy shed sleep : Bool) (probe : BitVec 8)
  /-- STALE_DRAIN_DONE (R31). -/
  | staleDrainDone (p : Fin 512)
  /-- PLL_LOCK (R99): PLL `j` of tile `t`. -/
  | pllLock (t : Fin 64) (j : Fin 2)
  /-- PLL_LOSS (R100): the PLL by its number of R587: 0 to 4, or 16 + 2 × tile + PLL. -/
  | pllLoss (n : Fin 144)
  /-- REFCLK_LOSS (R588): 0 to 15 SerDes, 16 AON, 17 PCIe. -/
  | refclkLoss (i : Fin 18)
  /-- TXMAP_WRITE (R108). -/
  | txmapWrite (rq : Requester) (t : Fin 64) (data : BitVec 32)
  /-- LANE_CTRL_WRITE (R133). -/
  | laneCtrlWrite (rq : Requester) (lane : Fin 512) (data : BitVec 32)
  /-- AN_PAGE_EXCHANGE_DONE (R111): the technologies that the partner's base page advertises. -/
  | anPageExchangeDone (p : Fin 512) (techs : List Tech)
  /-- PARALLEL_DETECT (R111). -/
  | parallelDetect (p : Fin 512)
  /-- TRAINING_COMPLETE (R111). -/
  | trainingComplete (p : Fin 512)
  /-- JARLIS_PAGES_RECEIVED (R113): JVER 0 stands for no Jarlis page. -/
  | jarlisPagesReceived (p : Fin 512) (jver : BitVec 4) (domain : BitVec 12) (devid : BitVec 12) (shed : Bool)
  /-- NOT_JARLIS_RETRY (R113). -/
  | notJarlisRetry (p : Fin 512)
  /-- LINK_DOWN (R114). -/
  | linkDown (x : LinkFault)
  /-- LINK_REACQUIRED (R114). -/
  | linkReacquired (p : Fin 512)
  /-- REACQUIRE_TIMEOUT (R114). -/
  | reacquireTimeout (p : Fin 512)
  /-- SHED_WINDOW_END (R116). -/
  | shedWindowEnd (p : Fin 512)
  /-- OCCUPANCY_RESTORE (R116). -/
  | occupancyRestore (p : Fin 512)
  /-- SHED_DONE (R118). -/
  | shedDone (p : Fin 512)
  /-- LANE_WIDTH_RECEIVED (R333). -/
  | laneWidthReceived (p : Fin 512) (w : WidthSet)
  /-- SHED_LANES_LOCKED (R119). -/
  | shedLanesLocked (p : Fin 512)
  /-- LANE_READY_RECEIVED (R119). -/
  | laneReadyReceived (p : Fin 512) (width : BitVec 4)
  /-- RESTORE_TIMEOUT (R120). -/
  | restoreTimeout (p : Fin 512)
  /-- SLEEP_ENTER (R122). -/
  | sleepEnter (p : Fin 512)
  /-- SLEEP_WAKE (R123). -/
  | sleepWake (p : Fin 512)
  /-- WAKE_PROBE (R124). -/
  | wakeProbe (p : Fin 512)
  /-- WAKE_PROBE_END (R124). -/
  | wakeProbeEnd (p : Fin 512) (energy : Bool)
  /-- RX_FRAME_START (R135): a start-of-frame delimiter arrives at port `p`. -/
  | rxFrameStart (p : Fin 512)
  /-- RX_ADDRESS_COMPLETE (R139): the first 14 bytes of the frame, on a Jarlis port those and the 16 of its header. -/
  | rxAddressComplete (p : Fin 512) (bytes : List Byte)
  /-- RX_GATHER_BLOCK (R137). -/
  | rxGatherBlock (p : Fin 512) (x : RxBlock)
  /-- RX_FRAME_END (R136): the last data bytes, and what the FCS and the PCS show. -/
  | rxFrameEnd (p : Fin 512) (bytes : List Byte) (fcsOk : Bool) (pcs : PcsEnd)
  /-- MAX_LEN_WRITE (R138): MAC_CFG is written, its other fields as they stand. -/
  | maxLenWrite (rq : Requester) (p : Fin 512) (len : BitVec 14)
  /-- RX_PAUSE_FRAME (R142). -/
  | rxPauseFrame (p : Fin 512)
  /-- RX_PFC_FRAME (R142). -/
  | rxPfcFrame (p : Fin 512)
  /-- PAUSE_TIMER_EXPIRE (R142): the timer of a priority, or 0 for the port, runs out. -/
  | pauseTimerExpire (p : Fin 512) (target : Fin 8)
  /-- XOFF_ASSERT (R143). -/
  | xoffAssert (p : Fin 512)
  /-- XOFF_REFRESH (R143). -/
  | xoffRefresh (p : Fin 512)
  /-- XOFF_RELEASE (R143). -/
  | xoffRelease (p : Fin 512)
  /-- FC_MODE_WRITE (R145): MAC_CFG is written, its other fields as they stand. -/
  | fcModeWrite (rq : Requester) (p : Fin 512) (mode : BitVec 2)
  /-- PFC_MAP_WRITE (R145). -/
  | pfcMapWrite (rq : Requester) (p : Fin 512) (prio : Fin 8) (data : BitVec 32)
  /-- PAUSE_WD_TRIP (R146). -/
  | pauseWdTrip (p : Fin 512) (target : Fin 8)
  /-- PAUSE_WD_BREAK_END (R146). -/
  | pauseWdBreakEnd (p : Fin 512) (target : Fin 8)
  /-- PIPELINE_TAKE (R22): one clock of the arbitration of slice `s`. -/
  | pipelineTake (s : Fin 16)
  /-- FRAME_PARSE (R160): the parser of slice `s` reads the oldest frame taken. -/
  | frameParse (s : Fin 16)
  /-- FRAME_LOOKUP (R170): `ecc` is a Marver slot that the reads found in error: uncorrectable or not, and its index. -/
  | frameLookup (s : Fin 16) (ecc : Option (Bool × Fin 1056768))
  /-- METER_UPDATE (R229): `ecc` says that the meter's state was in error, and whether uncorrectably. -/
  | meterUpdate (s : Fin 16) (ecc : Option Bool)
  /-- FRAME_EDIT (R25). -/
  | frameEdit (s : Fin 16)
  /-- HEADER_CAPTURE (R27). -/
  | headerCapture (s : Fin 16)
  /-- ADMISSION (R252). -/
  | admission (s : Fin 16)
  /-- YOKE_CELL (R278): one cell time of a plane. -/
  | yokeCell (plane : Fin 4)
  /-- STITCH_ARRIVE (R281): the oldest stitch in transit on a plane arrives at tile `t`, with the bits of its header that were flipped on the way, and whether parity and ECC are good. -/
  | stitchArrive (t : Fin 64) (plane : Fin 4) (err : BitVec 128) (parityOk : Bool) (eccOk : Bool)
  /-- MC_COPY_EXPAND (R286): tile `t` reads one member record. -/
  | mcCopyExpand (t : Fin 64)
  /-- OLD_VERSION_DRAINED (R284): group `g`. -/
  | oldVersionDrained (g : Fin 65536)
  /-- SHAPER_TICK (R310): every 5 ns. -/
  | shaperTick
  /-- SELECT (R307): physical port `x` requests a selection. -/
  | select (x : Fin 516)
  /-- TX_FRAME_START (R33): the egress MAC of port `x` starts the frame selected for it. -/
  | txFrameStart (x : Fin 512)
  /-- TX_FRAME_END (R147): the egress MAC of port `x` finishes its frame. -/
  | txFrameEnd (x : Fin 512)
  /-- RULE_WORD_WRITE (R171): word w of rule r through the window of slice s: ADDR is written, then DATA. -/
  | ruleWordWrite (rq : Requester) (s : Fin 16) (r : Fin 65536) (w : Fin 44) (data : BitVec 32)
  /-- RULE_COMMIT (R169). -/
  | ruleCommit (rq : Requester) (s : Fin 16) (r : Fin 65536)
  /-- RULE_INVALIDATE (R171). -/
  | ruleInvalidate (rq : Requester) (s : Fin 16) (r : Fin 65536)
  /-- RULE_SCRUB (R174): the scrub reads the copy of rule `r` in slice `s`. -/
  | ruleScrub (s : Fin 16) (r : Fin 65536) (ecc : Option Bool)
  /-- INSERT (R194): a table command. -/
  | insert (src : TblSrc) (cmd : TblCmd)
  /-- DELETE (R194). -/
  | delete (src : TblSrc) (cmd : TblCmd)
  /-- SEARCH (R194): `memOk` says that the output could be written. -/
  | search (src : TblSrc) (cmd : TblCmd) (memOk : Bool)
  /-- NEXT (R194). -/
  | next (src : TblSrc) (cmd : TblCmd) (memOk : Bool)
  /-- FLUSH_PORT (R194). -/
  | flushPort (src : TblSrc) (cmd : TblCmd)
  /-- BULK (R194): `arr` is the array as read, none when the read failed. -/
  | bulk (src : TblSrc) (cmd : TblCmd) (arr : Option (List Byte))
  /-- SEED_WRITE (R187). -/
  | seedWrite (rq : Requester) (v : BitVec 32)
  /-- SEED_CLEAR_DONE (R187). -/
  | seedClearDone
  /-- AGE_TICK (R203). -/
  | ageTick
  /-- AGE_SWEEP_VISIT (R204). -/
  | ageSweepVisit
  /-- LEARN_TOKEN_REFILL (R201). -/
  | learnTokenRefill
  /-- LEARN_NOTIFY_DELIVER (R202). -/
  | learnNotifyDeliver
  /-- SCRUB_PASS_START (R207). -/
  | scrubPassStart
  /-- SCRUB_REGION_DONE (R207). -/
  | scrubRegionDone
  /-- AUDIT_BATCH_CLOSE (R208). -/
  | auditBatchClose
  /-- METER_SWEEP (R230): the sweep visits meter `m` of slice `s`. -/
  | meterSweep (s : Fin 16) (m : Fin 16384) (ecc : Option Bool)
  /-- METER_STAGE_WRITE (R234). -/
  | meterStageWrite (rq : Requester) (s : Fin 16) (m : Fin 16384) (w : Fin 3) (data : BitVec 32)
  /-- METER_COMMIT (R234): word 3. -/
  | meterCommit (rq : Requester) (s : Fin 16) (m : Fin 16384) (data : BitVec 32)
  /-- METER_FIELD_LOAD (R234): hwClock: hardware updates the field in the clock of the write. -/
  | meterFieldLoad (rq : Requester) (s : Fin 16) (m : Fin 16384) (w : Fin 32) (data : BitVec 32) (hwClock : Bool)
  /-- RECOMPUTE_START (R255). -/
  | recomputeStart
  /-- RECOMPUTE_DONE (R254). -/
  | recomputeDone
  /-- BUF_QUEUE_WRITE (R271). -/
  | bufQueueWrite (rq : Requester) (q : Fin 8256) (w : Fin 16) (data : BitVec 32)
  /-- SPILL_WRITE_DONE (R258): the VOQ of slice `s` and queue `q` whose oldest frame in write staging is written. -/
  | spillWriteDone (s : Fin 16) (q : Fin 8256)
  /-- READBACK_START (R259). -/
  | readbackStart (s : Fin 16) (q : Fin 8256)
  /-- READBACK_DONE (R259): an error of a burst, uncorrectable or not, and the stitch it lies in. -/
  | readbackDone (s : Fin 16) (q : Fin 8256) (ecc : Option (Bool × Fin 65))
  /-- SPILL_EXIT (R260). -/
  | spillExit (q : Fin 8256)
  /-- DROP_CAPTURE_REFILL (R263). -/
  | dropCaptureRefill
  /-- GROUP_VERSION_WRITE (R284): the address of R298 through the window of slice s. -/
  | groupVersionWrite (rq : Requester) (s : Fin 16) (a : BitVec 20) (data : BitVec 32)
  /-- GROUP_COMMIT (R284). -/
  | groupCommit (rq : Requester) (s : Fin 16) (g : Fin 65536)
  /-- MIRROR_SESSION_WRITE (R293): word w of session n. -/
  | mirrorSessionWrite (rq : Requester) (n : Fin 16) (w : Fin 32) (data : BitVec 32)
  /-- EGRESS_CFG_WRITE (R319): word w of the window of logical port l. -/
  | egressCfgWrite (rq : Requester) (l : Fin 516) (w : Fin 256) (data : BitVec 32)
  /-- JARLIS_ID_WRITE (R328). -/
  | jarlisIdWrite (rq : Requester) (domain devid : BitVec 12)
  /-- IDENT_SEND (R328). -/
  | identSend (p : Fin 512)
  /-- IDENT_RECEIVED (R327): IDENT_B where `identB` holds, else IDENT_A; bits [19:0] of the ordered set. -/
  | identReceived (p : Fin 512) (identB : Bool) (payload : BitVec 20)
  /-- IDENT_RETRY (R327). -/
  | identRetry (p : Fin 512)
  /-- ORDERED_SET_UNKNOWN (R333). -/
  | orderedSetUnknown (p : Fin 512)
  /-- LINK_DOWN_OS_SEND (R333). -/
  | linkDownOsSend (p : Fin 512)
  /-- CREDIT_SEND (R335). -/
  | creditSend (p : Fin 512) (k : Fin 16)
  /-- CREDIT_RECEIVED (R335). -/
  | creditReceived (p : Fin 512) (k : Fin 16) (freed : BitVec 16)
  /-- RESEQ_RELEASE (R342). -/
  | reseqRelease (s : Fin 16)
  /-- RESEQ_TIMEOUT (R343). -/
  | reseqTimeout (t : Fin 256) (k : Fin 16)
  /-- TRUNK_ENABLE (R355). -/
  | trunkEnable (rq : Requester) (t : Fin 256) (slice : Fin 16) (window : BitVec 11)
  /-- TRUNK_DISABLE (R347). -/
  | trunkDisable (rq : Requester) (t : Fin 256)
  /-- TRUNK_MEMBERS_WRITE (R337). -/
  | trunkMembersWrite (rq : Requester) (t : Fin 256) (members : BitVec 32)
  /-- EPOCH_CHANGE_START (R344). -/
  | epochChangeStart (t : Fin 256)
  /-- EPOCH_MARKER_SEND (R345). -/
  | epochMarkerSend (t : Fin 256)
  /-- EPOCH_CHANGE_END (R344). -/
  | epochChangeEnd (t : Fin 256)
  /-- EPOCH_MARKER_RECEIVED (R346): the port on which the marker waits. -/
  | epochMarkerReceived (p : Fin 512)
  /-- TRUNK_DETACH_TIMEOUT (R346). -/
  | trunkDetachTimeout (p : Fin 512)
  /-- MGMT_FRAME_DELIVER (R350). -/
  | mgmtFrameDeliver
  /-- MGMT_REQUEST_EXECUTE (R352): R352: the management agent executes the oldest accepted request. -/
  | mgmtRequestExecute
  /-- MGMT_RESPONSE_RECEIVED (R350): R350, R538: a response reaches the device that asked. -/
  | mgmtResponseReceived
  /-- PRT_BIND_WRITE (R362). -/
  | prtBindWrite (rq : Requester) (p : Fin 512) (data : BitVec 32)
  /-- PRT_GRP_WRITE (R362). -/
  | prtGrpWrite (rq : Requester) (g : Fin 4096) (data : BitVec 32)
  /-- HOLDOFF_EXPIRE (R363): the member P where `prot` holds, else W. -/
  | holdoffExpire (g : Fin 4096) (prot : Bool)
  /-- WTR_EXPIRE (R364). -/
  | wtrExpire (g : Fin 4096)
  /-- NOPATH_TIMEOUT (R365). -/
  | nopathTimeout (p : Fin 512)
  /-- LOCKOUT (R366): hwClock: hardware selects again for the group in the clock of the write. -/
  | lockout (rq : Requester) (g : Fin 4096) (hwClock : Bool)
  /-- FORCE (R366): hwClock: hardware selects again for the group in the clock of the write. -/
  | force (rq : Requester) (g : Fin 4096) (hwClock : Bool)
  /-- MANUAL (R366): hwClock: hardware selects again for the group in the clock of the write. -/
  | manual (rq : Requester) (g : Fin 4096) (hwClock : Bool)
  /-- CLEAR (R366): hwClock: hardware selects again for the group in the clock of the write. -/
  | clearRequest (rq : Requester) (g : Fin 4096) (hwClock : Bool)
  /-- SF_W_SET (R366): hwClock: hardware selects again for the group in the clock of the write. -/
  | sfWSet (rq : Requester) (g : Fin 4096) (hwClock : Bool)
  /-- SF_W_CLR (R366): hwClock: hardware selects again for the group in the clock of the write. -/
  | sfWClr (rq : Requester) (g : Fin 4096) (hwClock : Bool)
  /-- SF_P_SET (R366): hwClock: hardware selects again for the group in the clock of the write. -/
  | sfPSet (rq : Requester) (g : Fin 4096) (hwClock : Bool)
  /-- SF_P_CLR (R366): hwClock: hardware selects again for the group in the clock of the write. -/
  | sfPClr (rq : Requester) (g : Fin 4096) (hwClock : Bool)
  /-- ROLE_WAIT_TIMEOUT (R370). -/
  | roleWaitTimeout
  /-- PEER_ACT_FALL (R371): `together` says that this unit's own UNIT_ACT_N fell within the same 1 µs. -/
  | peerActFall (together : Bool)
  /-- PEER_RELQ_LOW (R382). -/
  | peerRelqLow
  /-- MUTE_GUARD_END (R382). -/
  | muteGuardEnd
  /-- FAILED_REACTIVATE (R381). -/
  | failedReactivate
  /-- CRITICAL_FAULT (R381). -/
  | criticalFault (cause : BitVec 4) (detail : BitVec 12)
  /-- SLICE_WATCHDOG (R380). -/
  | sliceWatchdog (s : Fin 16)
  /-- HEARTBEAT_SEND (R372). -/
  | heartbeatSend
  /-- HEARTBEAT_RECEIVED (R373): TX_NS of the Punty header and the body of R373. -/
  | heartbeatReceived (tx : BitVec 32) (body : List Byte)
  /-- HEARTBEAT_SLOT_END (R373): the levels of the peer's pins. -/
  | heartbeatSlotEnd (actLow : Bool) (relqLow : Bool)
  /-- PUNTY_LINK_UP (R378). -/
  | puntyLinkUp
  /-- PUNTY_LINK_DOWN (R372). -/
  | puntyLinkDown
  /-- PUNTY_CFG_WRITE (R397). -/
  | puntyCfgWrite (rq : Requester) (data : BitVec 32)
  /-- REPLICATE_RECEIVED (R376): PSEQ and body of a REPLICATE message; a frame of a reserved TYPE comes by this row too. -/
  | replicateReceived (pseq : BitVec 32) (body : PuntyBody)
  /-- NAK_RECEIVED (R376). -/
  | nakReceived (pseq : BitVec 32)
  /-- SYNC_RECEIVED (R378): R378: PSEQ and body of a SYNC message, and M with the last. -/
  | syncReceived (pseq : BitVec 32) (body : List Byte) (last : Option (BitVec 32))
  /-- RESYNC_DONE (R378). -/
  | resyncDone
  /-- TAKEOVER_RECEIVED (R372). -/
  | takeoverReceived
  /-- RESYNC (R378): hwClock: hardware changes the role in the clock of the write. -/
  | resync (rq : Requester) (hwClock : Bool)
  /-- RELINQUISH (R395): hwClock: hardware changes the role in the clock of the write. -/
  | relinquish (rq : Requester) (hwClock : Bool)
  /-- BIND_OFF (R383): hwClock: hardware changes the role in the clock of the write. -/
  | bindOff (rq : Requester) (hwClock : Bool)
  /-- BIND_REQ_RECEIVED (R384). -/
  | bindReqReceived (cut : BitVec 32)
  /-- BIND_READY_RECEIVED (R384). -/
  | bindReadyReceived
  /-- BIND_CUT (R384). -/
  | bindCut
  /-- BIND_QUEUE_RELEASE (R384). -/
  | bindQueueRelease (q : Fin 8192)
  /-- BIND_RELEASE_RECEIVED (R385): bytes 4 onward of the BIND body. -/
  | bindReleaseReceived (body : List Byte)
  /-- BIND_MAX_TIMEOUT (R384). -/
  | bindMaxTimeout
  /-- BIND_DONE_RECEIVED (R384). -/
  | bindDoneReceived
  /-- BIND_READY_TIMEOUT (R385). -/
  | bindReadyTimeout
  /-- BIND_ABORT_RECEIVED (R385). -/
  | bindAbortReceived
  /-- TENSION_INTERVAL_CLOSE (R386). -/
  | tensionIntervalClose (n : Fin 4000)
  /-- DIGEST_RECEIVED (R388). -/
  | digestReceived (body : List Byte)
  /-- HEALTH_SEND (R391). -/
  | healthSend
  /-- HEALTH_RECEIVED (R391). -/
  | healthReceived (body : List Byte)
  /-- BIST_TEST_DONE (R390): 0 a Skein stitch, 1 a departure slot, 2 a deep-store slot; its number; whether it passed and ended a coverage pass. -/
  | bistTestDone (kind : Fin 3) (i : Fin 268435456) (ok : Bool) (lastOfPass : Bool)
  /-- TOD_STEP (R409): the four words of TIM_SET, word 3 last. -/
  | todStep (rq : Requester) (sec : BitVec 64) (ns : BitVec 30) (frac : BitVec 16)
  /-- OFFSET_WRITE (R417). -/
  | offsetWrite (rq : Requester) (offset : BitVec 48)
  /-- HOLDOVER_TIMEOUT (R418). -/
  | holdoverTimeout
  /-- HOLD (R418). -/
  | hold (rq : Requester)
  /-- ACQUIRE (R418). -/
  | acquire (rq : Requester)
  /-- PPS_OUT_EDGE (R422). -/
  | ppsOutEdge
  /-- PPS_OUT_FALL (R422). -/
  | ppsOutFall
  /-- PPS_IN_EDGE (R422). -/
  | ppsInEdge
  /-- TOD_MESSAGE_SEND (R423). -/
  | todMessageSend
  /-- TOD_MESSAGE_RECEIVED (R423). -/
  | todMessageReceived (bytes : List Byte)
  /-- SYNCE_SQUELCH (R421). -/
  | synceSquelch (k : Fin 2)
  /-- SYNCE_RETURN (R421). -/
  | synceReturn (k : Fin 2)
  /-- HBM_CHECK_DONE (R438). -/
  | hbmCheckDone (k : Fin 4) (pass : Bool)
  /-- DRAM_COMMAND_SLOT (R439). -/
  | dramCommandSlot (k : Fin 4) (pc : Fin 32)
  /-- ROW_IDLE_CLOSE (R440). -/
  | rowIdleClose (k : Fin 4) (pc : Fin 32) (b : Fin 64)
  /-- BANK_REFRESH (R442). -/
  | bankRefresh (k : Fin 4) (pc : Fin 32) (b : Fin 64)
  /-- STACK_FAILURE (R447): a cause of R446. -/
  | stackFailure (k : Fin 4) (cause : Fin 7)
  /-- STACK_POWER_DOWN (R447). -/
  | stackPowerDown (k : Fin 4)
  /-- OFFLINE (R452). -/
  | offline (rq : Requester) (k : Fin 4)
  /-- TEST (R452). -/
  | stackTest (rq : Requester) (k : Fin 4)
  /-- RECOVER (R448). -/
  | recover (rq : Requester) (k : Fin 4)
  /-- POWER_OFF (R452). -/
  | powerOff (rq : Requester) (k : Fin 4)
  /-- DST_DLY_WRITE (R437): word w of the delay registers of stack k. -/
  | dstDlyWrite (rq : Requester) (k : Fin 4) (w : Fin 256) (data : BitVec 32)
  /-- DST_TEST_WRITE (R450): word w of a slot; word 63 writes the slot. -/
  | dstTestWrite (rq : Requester) (slot : BitVec 28) (w : Fin 64) (data : BitVec 32)
  /-- REGISTER_WRITE (R463): size in bytes; full: every byte enable is set. -/
  | registerWrite (rq : Requester) (off : BitVec 28) (size : BitVec 4) (full : Bool) (data : BitVec 64)
  /-- REGISTER_READ_ERROR (R461): a read; where nothing makes it an error it gives its data. -/
  | registerReadError (rq : Requester) (off : BitVec 28) (size : BitVec 4) (full : Bool)
  /-- INDIRECT_READ (R470): a read of a DATA register; ecc: what the check bits of the memory show (a corrected or an uncorrectable error). -/
  | indirectRead (rq : Requester) (off : BitVec 28) (ecc : Option Bool)
  /-- CPW_FIRST_HALF (R468): a 32-bit write of V to A. -/
  | cpwFirstHalf (rq : Requester) (off : BitVec 28) (v : BitVec 32)
  /-- CPW_SECOND_HALF (R468): a 32-bit write to A + 4; hwClock: hardware acts on the same state in the clock of the write (R465). -/
  | cpwSecondHalf (rq : Requester) (off : BitVec 28) (v : BitVec 32) (hwClock : Bool)
  /-- CPW_TIMEOUT (R468): the row of R458. -/
  | cpwTimeout (block : Fin 21)
  /-- ALIAS_WRITE (R469): the word that stands for bit b of the control word at 4 × word. -/
  | bitWordWrite (rq : Requester) (word : Fin 8192) (b : Fin 32) (data : BitVec 32)
  /-- SNAPSHOT (R472). -/
  | snapshot (rq : Requester) (sets : BitVec 8)
  /-- SNAPSHOT_DONE (R472). -/
  | snapshotDone
  /-- DEVICE_RESET (R474): the pulse ends with SYS_RST_N_RELEASE. -/
  | deviceReset (rq : Requester)
  /-- TILE_RESET (R475). -/
  | tileReset (rq : Requester) (t : Fin 64)
  /-- GAFFER_CORE_RESET (R475). -/
  | gafferCoreReset (rq : Requester) (n : Fin 16)
  /-- PMC_RESET (R475). -/
  | pmcReset (rq : Requester)
  /-- BLOCK_RESET_DONE (R475). -/
  | blockResetDone
  /-- HQ_OWNER_WRITE (R485). -/
  | hqOwnerWrite (rq : Requester) (n : Fin 512) (data : BitVec 32)
  /-- CQ_ENABLE (R485): HQ_CQ_CFG is written with EN 1. -/
  | cqEnable (rq : Requester) (n : Fin 512) (data : BitVec 32)
  /-- SQ_ENABLE (R485): HQ_SQ_CFG is written with EN 1. -/
  | sqEnable (rq : Requester) (n : Fin 512) (data : BitVec 32)
  /-- SQ_DOORBELL (R486). -/
  | sqDoorbell (rq : Requester) (n : Fin 512) (tail : BitVec 32)
  /-- CQ_DOORBELL (R487). -/
  | cqDoorbell (rq : Requester) (n : Fin 512) (data : BitVec 32)
  /-- SQ_FETCH (R488): R488: the entries of one read request as read from host memory, none where the read failed. -/
  | sqFetch (entries : List (Option (List Byte)))
  /-- COMPLETION_WRITE (R493). -/
  | completionWrite (cq : Fin 512)
  /-- MSIX_SIGNAL (R494): `masked` says that the vector is masked. -/
  | msixSignal (cq : Fin 512) (masked : Bool)
  /-- CQ_TIMER_EXPIRE (R494). -/
  | cqTimerExpire (cq : Fin 512) (masked : Bool)
  /-- INJECT_PIPELINE (R497): R497: the frame as read from host memory, none when the read failed. -/
  | injectPipeline (frame : Option (List Byte))
  /-- INJECT_FIXED (R497). -/
  | injectFixed (frame : Option (List Byte))
  /-- POST (R498). -/
  | post (sq : Fin 512)
  /-- PUNT_DELIVER (R499): R499: the delivery of a frame, or of a transmit stamp. -/
  | puntDeliver (stamp : Bool)
  /-- BUFFER_FLUSH_TIMEOUT (R498). -/
  | bufferFlushTimeout (sq : Fin 512)
  /-- STAMP_TIMEOUT (R500). -/
  | stampTimeout
  /-- FLR (R501): R501: of a function, or with `vfDisable` the clearing of VF Enable. -/
  | flr (func : Fin 64) (vfDisable : Bool)
  /-- BUS_MASTER_CHANGE (R483). -/
  | busMasterChange (func : Fin 64) (bme d3hot : Bool)
  /-- COPY (R518): R518: a descriptor-mode channel takes the next entry of its queue. -/
  | copy (channel : Fin 32)
  /-- FILL (R518). -/
  | fill (channel : Fin 32)
  /-- BURST_START (R513). -/
  | burstStart
  /-- BURST_DONE (R512): `host` are the bytes that reads of host memory returned, fewer than asked for when a read failed. -/
  | burstDone (channel : Fin 32) (host : List Byte)
  /-- REQUEST_WITHDRAW (R514). -/
  | requestWithdraw (line : Fin 64)
  /-- POOL_ALLOC (R521). -/
  | poolAlloc (rq : Requester) (o : Fin 80) (size : BitVec 15)
  /-- POOL_FREE (R522). -/
  | poolFree (rq : Requester) (o : Fin 80) (handle : BitVec 32)
  /-- VERSION (R537): R537: the firmware takes the head command of mailbox queue `sq`, as in the rows below. -/
  | version (sq : Fin 512)
  /-- PTP_CLOCK_SET (R537). -/
  | ptpClockSet (sq : Fin 512)
  /-- PTP_PORT_SET (R537). -/
  | ptpPortSet (sq : Fin 512)
  /-- PTP_STATUS (R537). -/
  | ptpStatus (sq : Fin 512)
  /-- MEP_CREATE (R540): R540: the MEG ID as read from host memory, none when the read failed. -/
  | mepCreate (sq : Fin 512) (meg : Option (List Byte))
  /-- MEP_DELETE (R537). -/
  | mepDelete (sq : Fin 512)
  /-- MEP_STATUS (R537). -/
  | mepStatus (sq : Fin 512)
  /-- APS_LINEAR_SET (R541). -/
  | apsLinearSet (sq : Fin 512)
  /-- APS_RING_SET (R541). -/
  | apsRingSet (sq : Fin 512)
  /-- APS_STATUS (R537). -/
  | apsStatus (sq : Fin 512)
  /-- LEARN_STATUS (R537). -/
  | learnStatus (sq : Fin 512)
  /-- SURVEY (R537). -/
  | survey (sq : Fin 512)
  /-- I2C_READ (R537): what the module gave, none for an I²C error. -/
  | i2cRead (sq : Fin 512) (read : Option (List Byte))
  /-- I2C_WRITE (R537): the bytes as read from host memory, and whether the module acknowledged. -/
  | i2cWrite (sq : Fin 512) (data : Option (List Byte)) (ack : Bool)
  /-- LEDGER_READ (R537). -/
  | ledgerRead (sq : Fin 512)
  /-- FLASH_VERIFY (R537). -/
  | flashVerify (sq : Fin 512)
  /-- FLASH_WRITE (R537): the bytes as read from host memory. -/
  | flashWrite (sq : Fin 512) (data : Option (List Byte))
  /-- FLASH_ERASE (R537). -/
  | flashErase (sq : Fin 512)
  /-- JMGMT (R538): R538: the operation records as read from host memory. -/
  | jmgmt (sq : Fin 512) (ops : Option (List Byte))
  /-- JMGMT_TIMEOUT (R538). -/
  | jmgmtTimeout
  /-- CCM_TRANSMIT (R539). -/
  | ccmTransmit (mep : Fin 16384)
  /-- CCM_RECEIVE (R539): what a CCM that reaches the MEP carries. -/
  | ccmReceive (mep : Fin 16384) (meg : List Byte) (level : Fin 8) (mepid : Fin 8192) (period : Fin 8) (rdi : Bool)
  /-- LOC_CHECK (R539). -/
  | locCheck (mep : Fin 16384)
  /-- SERVICE_FRAME_SEND (R542): R542: the descriptor. -/
  | serviceFrameSend (desc : List Byte)
  /-- GAFFER_WATCHDOG (R544). -/
  | gafferWatchdog (core : Fin 16)
  /-- AUDIT_STREAM_WRITE (R554). -/
  | auditStreamWrite (rq : Requester) (stream : Bool)
  /-- AUDIT_RECORD_STREAMED (R554). -/
  | auditRecordStreamed
  /-- SUMMARY_CLOSE (R557). -/
  | summaryClose
  /-- CHECKPOINT (R560): R560: the firmware's deltas (offset in the slot, count), if they have come. -/
  | checkpoint (deltas : Option (List (Nat × Nat)))
  /-- CHECKPOINT_NOW (R560). -/
  | checkpointNow (rq : Requester)
  /-- LEDGER_ERASE (R565). -/
  | ledgerErase (rq : Requester) (v : BitVec 32)
  /-- LEDGER_ERASE_DONE (R565). -/
  | ledgerEraseDone
  /-- PMC_SEL_WRITE (R569). -/
  | pmcSelWrite (rq : Requester) (n : Fin 256) (data : BitVec 32)
  /-- TELEMETRY_SAMPLE (R570). -/
  | telemetrySample (set : Fin 4)
  /-- FUSE_WRITE_KEYHASH (R574). -/
  | fuseWriteKeyhash (rq : Requester) (slot : Fin 2)
  /-- FUSE_REVOKE_KEY (R574). -/
  | fuseRevokeKey (rq : Requester) (slot : Fin 2)
  /-- FUSE_BURN_SVN (R574). -/
  | fuseBurnSvn (rq : Requester) (slot : Fin 2)
  /-- FUSE_PROGRAM_DONE (R574): `err` says that a bit failed to verify. -/
  | fuseProgramDone (err : Bool)
  /-- DOMAIN_AWAKE (R579). -/
  | domainAwake (n : Fin 116)
  /-- DOMAIN_WAKE_TIMEOUT (R579). -/
  | domainWakeTimeout (n : Fin 116)
  /-- TILE_POWER_DOWN (R581). -/
  | tilePowerDown (t : Fin 64)
  /-- AVS_TRANSFER (R606). -/
  | avsTransfer
  /-- AVS_ACK (R606). -/
  | avsAck
  /-- AVS_WINDOW_NARROW (R606). -/
  | avsWindowNarrow
  /-- AVS_TIMEOUT (R606). -/
  | avsTimeout
  /-- SUPPLY_WINDOW_RETURN (R77). -/
  | supplyWindowReturn (n : Fin 32)
  /-- REFCLK_RETURN (R588): as REFCLK_LOSS. -/
  | refclkReturn (i : Fin 18)
  /-- POWER_LOSS (R609). -/
  | powerLoss
  /-- AVS_RETRY (R606). -/
  | avsRetry
  /-- CHECKPOINT_DELTA_TIMEOUT (R560). -/
  | checkpointDeltaTimeout
  /-- DEFERRED_CHECKPOINT (R560). -/
  | deferredCheckpoint
  /-- FLASH_WORK_DONE (R535). -/
  | flashWorkDone
  /-- MEMORY_SPACE_ENABLE_CHANGE (R483). -/
  | memorySpaceEnableChange (func : Fin 64) (en : Bool)
  /-- VF_ENABLE (R65). -/
  | vfEnable
  deriving DecidableEq, Repr

end Sys2Proof
end

