-- ==== Sys2Proof/Config.lean ====
section
/-!
DEFINITION. What one part fixes (fuses, straps) and the values the spec leaves open. An opaque constant has no body:
nothing can prove a value of it, so a statement about it holds for every value.
-/
namespace Sys2Proof.Config

/-- A value the spec leaves open, fresh at each draw: applied to the draw counter of the state. -/
opaque freeNat : Nat → Nat

/-- The Marver slots in which a read of the table finds a bit error, uncorrectable or not (R206): the spec leaves open when one comes. Fresh
at each draw, as `freeNat` is. -/
opaque freeSlots : Nat → List (Bool × Fin 1056768)

/-- The ECC check bits of a Marver slot (R188: a fixed function of the slot that the spec does not give). -/
opaque slotEcc : List Byte → BitVec 32

/-- SHA-384 (R50, R533): 48 bytes of it are used. The spec names the standard function and does not lay it out, so the
model leaves it uninterpreted. -/
opaque sha384 : List Byte → List Byte

/-- ECDSA P-384 verification (R50, R533) of a digest by public key and signature, uninterpreted as `sha384` is. -/
opaque ecdsaOk : List Byte → List Byte → List Byte → Bool

/-- The Holhar public keys 0 and 1 in the mask ROM (R533). -/
opaque holharKey : Nat → List Byte

/-- The subsystem vendor ID and subsystem ID as fused (R481): the spec gives no value. -/
opaque fuseSubsystem : BitVec 32

/-- GLB_ID.GRADE as fused (R2, R473). DESIGN CHOICE: the commercial grade, 0b01; unsafe. -/
def fuseGrade : Nat := 1

/-- GLB_SERIAL as fused (R473). DESIGN CHOICE: serial 0; unsafe. -/
def fuseSerial : Nat := 0

/-- The fused AVS target in mV (R606, R607: 700 to 850 in steps of 5). DESIGN CHOICE: 800; unsafe. -/
def fuseAvsMv : Nat := 800

end Sys2Proof.Config
end

