-- ==== Sys2Proof/Machine/Regs.lean ====
section
/-!
DEFINITION. The register map of BAR0 (R458): every register of the spec's tables with its offset, its fields, the
access code of each bit (R15) and its reset value. Reserved bits are in no mask, so they read 0 and ignore writes (R16).
-/
namespace Sys2Proof.Machine

/-- A register field: bits [hi:lo] of the register at BAR0 offset `off`. -/
structure Field where
  off : Nat
  hi : Nat
  lo : Nat
  deriving DecidableEq, Repr

/-- The reset domain of a register (R41, R62, PCIe chapter). -/
inductive Dom where
  | aon
  | core
  | pcie
  deriving DecidableEq, Repr

/-- One register, or one array of registers, of the map. `dims` gives stride and count of each index, outermost
first. The masks say which bits carry each access code of R15; `ctr` marks counter bits (R466). `rst a b c` is the
reset value, with `a`, `b`, `c` the indices. -/
structure RegRow where
  base : Nat
  dims : List (Nat × Nat)
  w64 : Bool
  rw : Nat
  rwl : Nat
  w1c : Nat
  w1s : Nat
  wo : Nat
  cpw : Nat
  ctr : Nat
  dom : Dom
  rst : Nat → Nat → Nat → Nat

/-- Upper window limit of sensor `n` in mV at reset (R93 note, R604). VDD_CORE's window is its target at reset, 800 mV,
plus 40 mV (R606, R607). -/
def railHi (n : Nat) : Nat :=
  if n < 4 ∨ n = 22 then 840 else if n = 4 ∨ n = 23 then 900 else if n = 5 then 850 else if n < 10 then 790
  else if n < 14 then 1260 else if n < 18 then 1155 else if n = 18 then 425 else if n = 19 then 790
  else if n = 20 then 1260 else if n = 21 then 790 else 0xFFFF

/-- Lower window limit of sensor `n` in mV at reset (R93 note, R604, R606). -/
def railLo (n : Nat) : Nat :=
  if n < 4 ∨ n = 22 then 760 else if n = 4 ∨ n = 23 then 800 else if n = 5 then 750 else if n < 10 then 710
  else if n < 14 then 1140 else if n < 18 then 1045 else if n = 18 then 375 else if n = 19 then 710
  else if n = 20 then 1140 else if n = 21 then 710 else 0

/-- The reset channel of request line `l` (R524 note). -/
def dmaLineChan (l : Nat) : Nat :=
  if l < 16 then 24 else if l < 32 then 25 else if l < 34 then 26 else if l = 34 then 27 else if l = 35 then 28
  else if l < 40 then 29 else 0

namespace Reg

/-- GLB_ID (R473). -/
def GLB_ID : Nat := 0x0
def GLB_ID_PART : Field := ⟨GLB_ID, 31, 16⟩
def GLB_ID_REV : Field := ⟨GLB_ID, 15, 8⟩
def GLB_ID_GRADE : Field := ⟨GLB_ID, 1, 0⟩
/-- GLB_SERIAL (R473). -/
def GLB_SERIAL : Nat := 0x8
def GLB_SERIAL_SERIAL : Field := ⟨GLB_SERIAL, 63, 0⟩
/-- GLB_SCRATCH (R473). -/
def GLB_SCRATCH : Nat := 0x10
def GLB_SCRATCH_VALUE : Field := ⟨GLB_SCRATCH, 31, 0⟩
/-- GLB_RST_CTRL (R474). -/
def GLB_RST_CTRL : Nat := 0x20
def GLB_RST_CTRL_CMD : Field := ⟨GLB_RST_CTRL, 3, 0⟩
/-- GLB_BLK_RST (R475). -/
def GLB_BLK_RST : Nat := 0x28
def GLB_BLK_RST_RESET : Field := ⟨GLB_BLK_RST, 31, 31⟩
def GLB_BLK_RST_TARGET : Field := ⟨GLB_BLK_RST, 7, 0⟩
/-- GLB_BLK_RST_STATUS (R475). -/
def GLB_BLK_RST_STATUS : Nat := 0x30
def GLB_BLK_RST_STATUS_BUSY : Field := ⟨GLB_BLK_RST_STATUS, 31, 31⟩
def GLB_BLK_RST_STATUS_TARGET : Field := ⟨GLB_BLK_RST_STATUS, 7, 0⟩
/-- GLB_SNAP_CMD (R476). -/
def GLB_SNAP_CMD : Nat := 0x40
def GLB_SNAP_CMD_SETS : Field := ⟨GLB_SNAP_CMD, 7, 0⟩
/-- GLB_SNAP_EPOCH (R476). -/
def GLB_SNAP_EPOCH : Nat := 0x44
def GLB_SNAP_EPOCH_BUSY : Field := ⟨GLB_SNAP_EPOCH, 31, 31⟩
def GLB_SNAP_EPOCH_SNAP_LOST : Field := ⟨GLB_SNAP_EPOCH, 30, 30⟩
def GLB_SNAP_EPOCH_SETS : Field := ⟨GLB_SNAP_EPOCH, 23, 16⟩
def GLB_SNAP_EPOCH_EPOCH : Field := ⟨GLB_SNAP_EPOCH, 15, 0⟩
/-- GLB_SNAP_TS (R476). -/
def GLB_SNAP_TS (w : Nat) : Nat := 0x48 + 0x4 * w
def GLB_SNAP_TS_TS (w : Nat) : Field := ⟨GLB_SNAP_TS w, 31, 0⟩
/-- GLB_BUS_ERR_ADDR (R477). -/
def GLB_BUS_ERR_ADDR : Nat := 0x60
def GLB_BUS_ERR_ADDR_OFFSET : Field := ⟨GLB_BUS_ERR_ADDR, 27, 0⟩
/-- GLB_BUS_ERR_SRC (R477). -/
def GLB_BUS_ERR_SRC : Nat := 0x64
def GLB_BUS_ERR_SRC_VALID : Field := ⟨GLB_BUS_ERR_SRC, 31, 31⟩
def GLB_BUS_ERR_SRC_OVERFLOW : Field := ⟨GLB_BUS_ERR_SRC, 30, 30⟩
def GLB_BUS_ERR_SRC_WRITE : Field := ⟨GLB_BUS_ERR_SRC, 29, 29⟩
def GLB_BUS_ERR_SRC_SIZE : Field := ⟨GLB_BUS_ERR_SRC, 28, 27⟩
def GLB_BUS_ERR_SRC_REASON : Field := ⟨GLB_BUS_ERR_SRC, 26, 23⟩
def GLB_BUS_ERR_SRC_ORIGIN : Field := ⟨GLB_BUS_ERR_SRC, 22, 20⟩
def GLB_BUS_ERR_SRC_ID : Field := ⟨GLB_BUS_ERR_SRC, 15, 0⟩
/-- GLB_CPW_STATUS (R478). -/
def GLB_CPW_STATUS : Nat := 0x68
def GLB_CPW_STATUS_REJ : Field := ⟨GLB_CPW_STATUS, 31, 31⟩
def GLB_CPW_STATUS_REASON : Field := ⟨GLB_CPW_STATUS, 27, 24⟩
def GLB_CPW_STATUS_ORIGIN : Field := ⟨GLB_CPW_STATUS, 23, 21⟩
def GLB_CPW_STATUS_ID : Field := ⟨GLB_CPW_STATUS, 15, 0⟩
/-- GLB_CPW_ADDR (R478). -/
def GLB_CPW_ADDR : Nat := 0x6C
def GLB_CPW_ADDR_OFFSET : Field := ⟨GLB_CPW_ADDR, 27, 0⟩
/-- GLB_BOOT_STATUS (R67). -/
def GLB_BOOT_STATUS : Nat := 0x100
def GLB_BOOT_STATUS_STATE : Field := ⟨GLB_BOOT_STATUS, 31, 28⟩
def GLB_BOOT_STATUS_SLOT : Field := ⟨GLB_BOOT_STATUS, 27, 26⟩
def GLB_BOOT_STATUS_FAILS : Field := ⟨GLB_BOOT_STATUS, 25, 24⟩
def GLB_BOOT_STATUS_REASON : Field := ⟨GLB_BOOT_STATUS, 23, 16⟩
def GLB_BOOT_STATUS_DETAIL : Field := ⟨GLB_BOOT_STATUS, 15, 0⟩
/-- GLB_BOOT_CTRL (R68). -/
def GLB_BOOT_CTRL : Nat := 0x108
def GLB_BOOT_CTRL_CLR_FAILS : Field := ⟨GLB_BOOT_CTRL, 8, 8⟩
def GLB_BOOT_CTRL_SLOT : Field := ⟨GLB_BOOT_CTRL, 5, 4⟩
def GLB_BOOT_CTRL_CMD : Field := ⟨GLB_BOOT_CTRL, 3, 0⟩
/-- GLB_LOCK (R72). -/
def GLB_LOCK : Nat := 0x110
def GLB_LOCK_LOCKED : Field := ⟨GLB_LOCK, 0, 0⟩
/-- GLB_LOCK_REL (R73). -/
def GLB_LOCK_REL : Nat := 0x118
def GLB_LOCK_REL_RELEASE : Field := ⟨GLB_LOCK_REL, 0, 0⟩
/-- GLB_FLASH_WE (R74). -/
def GLB_FLASH_WE : Nat := 0x120
def GLB_FLASH_WE_B_EN : Field := ⟨GLB_FLASH_WE, 1, 1⟩
def GLB_FLASH_WE_A_EN : Field := ⟨GLB_FLASH_WE, 0, 0⟩
/-- GLB_BOOT_HIST (R69). -/
def GLB_BOOT_HIST : Nat := 0x128
def GLB_BOOT_HIST_SLOT_1 : Field := ⟨GLB_BOOT_HIST, 29, 28⟩
def GLB_BOOT_HIST_SLOT_2 : Field := ⟨GLB_BOOT_HIST, 27, 26⟩
def GLB_BOOT_HIST_SLOT_3 : Field := ⟨GLB_BOOT_HIST, 25, 24⟩
def GLB_BOOT_HIST_REASON_1 : Field := ⟨GLB_BOOT_HIST, 23, 16⟩
def GLB_BOOT_HIST_REASON_2 : Field := ⟨GLB_BOOT_HIST, 15, 8⟩
def GLB_BOOT_HIST_REASON_3 : Field := ⟨GLB_BOOT_HIST, 7, 0⟩
/-- GLB_BOOT_WARN (R70). -/
def GLB_BOOT_WARN : Nat := 0x12C
def GLB_BOOT_WARN_REFCLK_MISSING : Field := ⟨GLB_BOOT_WARN, 31, 16⟩
def GLB_BOOT_WARN_NO_RATE : Field := ⟨GLB_BOOT_WARN, 6, 6⟩
def GLB_BOOT_WARN_SURVEY_PARTIAL : Field := ⟨GLB_BOOT_WARN, 5, 5⟩
def GLB_BOOT_WARN_OPT_SKIPPED : Field := ⟨GLB_BOOT_WARN, 4, 4⟩
def GLB_BOOT_WARN_HBM_OFF : Field := ⟨GLB_BOOT_WARN, 3, 0⟩
/-- GLB_BOOT_TIME (R71). -/
def GLB_BOOT_TIME : Nat := 0x130
def GLB_BOOT_TIME_MS : Field := ⟨GLB_BOOT_TIME, 31, 0⟩
/-- GLB_STAT (R479). -/
def GLB_STAT (i : Nat) : Nat := 0x8000 + 0x8 * i
def GLB_STAT_COUNT (i : Nat) : Field := ⟨GLB_STAT i, 47, 0⟩
/-- GLB_STAT_HC (R479). -/
def GLB_STAT_HC (i : Nat) : Nat := 0x8080 + 0x8 * i
def GLB_STAT_HC_COUNT (i : Nat) : Field := ⟨GLB_STAT_HC i, 47, 0⟩
/-- AUD_CFG (R572). -/
def AUD_CFG : Nat := 0x10000
def AUD_CFG_STREAM : Field := ⟨AUD_CFG, 31, 31⟩
/-- AUD_STATUS (R572). -/
def AUD_STATUS : Nat := 0x10004
def AUD_STATUS_FULL : Field := ⟨AUD_STATUS, 31, 31⟩
def AUD_STATUS_HW_LOW : Field := ⟨AUD_STATUS, 30, 30⟩
def AUD_STATUS_HW_OVF : Field := ⟨AUD_STATUS, 29, 29⟩
def AUD_STATUS_USED : Field := ⟨AUD_STATUS, 16, 0⟩
/-- AUD_WP (R572). -/
def AUD_WP : Nat := 0x10008
def AUD_WP_ASEQ : Field := ⟨AUD_WP, 31, 0⟩
/-- AUD_RP (R572). -/
def AUD_RP : Nat := 0x1000C
def AUD_RP_ASEQ : Field := ⟨AUD_RP, 31, 0⟩
/-- AUD_IND_CTRL (R573). -/
def AUD_IND_CTRL : Nat := 0x10040
def AUD_IND_CTRL_STRIDE : Field := ⟨AUD_IND_CTRL, 2, 0⟩
/-- AUD_IND_ADDR (R573). -/
def AUD_IND_ADDR : Nat := 0x10044
def AUD_IND_ADDR_ADDR : Field := ⟨AUD_IND_ADDR, 18, 0⟩
/-- AUD_IND_DATA (R573). -/
def AUD_IND_DATA : Nat := 0x10048
def AUD_IND_DATA_DATA : Field := ⟨AUD_IND_DATA, 31, 0⟩
/-- AUD_STAT (R574). -/
def AUD_STAT (i : Nat) : Nat := 0x10100 + 0x8 * i
def AUD_STAT_COUNT (i : Nat) : Field := ⟨AUD_STAT i, 47, 0⟩
/-- AUD_FUSE_STAGE (R574). -/
def AUD_FUSE_STAGE (w : Nat) : Nat := 0x10200 + 0x4 * w
def AUD_FUSE_STAGE_BYTES (w : Nat) : Field := ⟨AUD_FUSE_STAGE w, 31, 0⟩
/-- AUD_FUSE_PROG (R574). -/
def AUD_FUSE_PROG : Nat := 0x10240
def AUD_FUSE_PROG_SLOT : Field := ⟨AUD_FUSE_PROG, 5, 5⟩
def AUD_FUSE_PROG_BUSY : Field := ⟨AUD_FUSE_PROG, 4, 4⟩
def AUD_FUSE_PROG_CMD : Field := ⟨AUD_FUSE_PROG, 3, 0⟩
/-- AUD_FUSE_STATUS (R574). -/
def AUD_FUSE_STATUS : Nat := 0x10248
def AUD_FUSE_STATUS_BUSY : Field := ⟨AUD_FUSE_STATUS, 31, 31⟩
def AUD_FUSE_STATUS_ERR : Field := ⟨AUD_FUSE_STATUS, 30, 30⟩
def AUD_FUSE_STATUS_SVN : Field := ⟨AUD_FUSE_STATUS, 6, 0⟩
/-- PWR_CFG (R592). -/
def PWR_CFG : Nat := 0x20000
def PWR_CFG_TILE_AUTO : Field := ⟨PWR_CFG, 31, 31⟩
/-- PWR_THERM (R592). -/
def PWR_THERM : Nat := 0x20004
def PWR_THERM_SHUT_C : Field := ⟨PWR_THERM, 15, 8⟩
def PWR_THERM_WARN_C : Field := ⟨PWR_THERM, 7, 0⟩
/-- PWR_STATUS (R593). -/
def PWR_STATUS : Nat := 0x20008
def PWR_STATUS_THERM_WARN : Field := ⟨PWR_STATUS, 31, 31⟩
def PWR_STATUS_THERM_SEEN : Field := ⟨PWR_STATUS, 30, 30⟩
def PWR_STATUS_WAKE_FAIL : Field := ⟨PWR_STATUS, 29, 29⟩
def PWR_STATUS_DOMAIN : Field := ⟨PWR_STATUS, 6, 0⟩
/-- PWR_DOM_STATUS (R594). -/
def PWR_DOM_STATUS (w : Nat) : Nat := 0x20010 + 0x4 * w
def PWR_DOM_STATUS_ON (w : Nat) : Field := ⟨PWR_DOM_STATUS w, 31, 0⟩
/-- PWR_CLK_STATUS (R595). -/
def PWR_CLK_STATUS : Nat := 0x20020
def PWR_CLK_STATUS_SERDES_REF : Field := ⟨PWR_CLK_STATUS, 31, 16⟩
def PWR_CLK_STATUS_PCIE_REF : Field := ⟨PWR_CLK_STATUS, 6, 6⟩
def PWR_CLK_STATUS_AON_REF : Field := ⟨PWR_CLK_STATUS, 5, 5⟩
def PWR_CLK_STATUS_LOCK : Field := ⟨PWR_CLK_STATUS, 4, 0⟩
/-- PWR_AVS (R607). -/
def PWR_AVS : Nat := 0x20030
def PWR_AVS_ACK : Field := ⟨PWR_AVS, 31, 31⟩
def PWR_AVS_ERR : Field := ⟨PWR_AVS, 30, 30⟩
def PWR_AVS_COLD : Field := ⟨PWR_AVS, 29, 29⟩
def PWR_AVS_FUSED_MV : Field := ⟨PWR_AVS, 19, 10⟩
def PWR_AVS_TARGET_MV : Field := ⟨PWR_AVS, 9, 0⟩
/-- SRV_CTRL (R90). -/
def SRV_CTRL : Nat := 0x30000
def SRV_CTRL_START : Field := ⟨SRV_CTRL, 31, 31⟩
def SRV_CTRL_AUTO_RESURVEY : Field := ⟨SRV_CTRL, 30, 30⟩
def SRV_CTRL_RESOLVE : Field := ⟨SRV_CTRL, 29, 29⟩
def SRV_CTRL_SCOPE : Field := ⟨SRV_CTRL, 25, 24⟩
def SRV_CTRL_LAST_LANE : Field := ⟨SRV_CTRL, 17, 9⟩
def SRV_CTRL_FIRST_LANE : Field := ⟨SRV_CTRL, 8, 0⟩
/-- SRV_STATUS (R91). -/
def SRV_STATUS : Nat := 0x30004
def SRV_STATUS_BUSY : Field := ⟨SRV_STATUS, 31, 31⟩
def SRV_STATUS_CMD_LOST : Field := ⟨SRV_STATUS, 30, 30⟩
def SRV_STATUS_MOD_CHANGE : Field := ⟨SRV_STATUS, 29, 29⟩
def SRV_STATUS_LANE_DONE : Field := ⟨SRV_STATUS, 28, 28⟩
def SRV_STATUS_SEQ : Field := ⟨SRV_STATUS, 15, 0⟩
/-- SRV_BOARD (R92). -/
def SRV_BOARD : Nat := 0x30008
def SRV_BOARD_VELOCITY : Field := ⟨SRV_BOARD, 7, 0⟩
/-- SRV_RAIL (R93). -/
def SRV_RAIL (n : Nat) : Nat := 0x30100 + 0x8 * n
def SRV_RAIL_OUT (n : Nat) : Field := ⟨SRV_RAIL n, 31, 31⟩
def SRV_RAIL_LIVE_OUT (n : Nat) : Field := ⟨SRV_RAIL n, 30, 30⟩
def SRV_RAIL_MV (n : Nat) : Field := ⟨SRV_RAIL n, 15, 0⟩
/-- SRV_RAIL_LIM (R93). -/
def SRV_RAIL_LIM (n : Nat) : Nat := 0x30104 + 0x8 * n
def SRV_RAIL_LIM_HI_MV (n : Nat) : Field := ⟨SRV_RAIL_LIM n, 31, 16⟩
def SRV_RAIL_LIM_LO_MV (n : Nat) : Field := ⟨SRV_RAIL_LIM n, 15, 0⟩
/-- SRV_TEMP (R94). -/
def SRV_TEMP (n : Nat) : Nat := 0x30200 + 0x4 * n
def SRV_TEMP_TEMP (n : Nat) : Field := ⟨SRV_TEMP n, 15, 0⟩
/-- SRV_TEMP_MAX (R94). -/
def SRV_TEMP_MAX : Nat := 0x30300
def SRV_TEMP_MAX_SENSOR : Field := ⟨SRV_TEMP_MAX, 21, 16⟩
def SRV_TEMP_MAX_TEMP : Field := ⟨SRV_TEMP_MAX, 15, 0⟩
/-- SRV_MODULE (R95). -/
def SRV_MODULE (c : Nat) : Nat := 0x34000 + 0x8 * c
def SRV_MODULE_STATE (c : Nat) : Field := ⟨SRV_MODULE c, 31, 30⟩
def SRV_MODULE_IDENT (c : Nat) : Field := ⟨SRV_MODULE c, 23, 16⟩
def SRV_MODULE_REV (c : Nat) : Field := ⟨SRV_MODULE c, 15, 8⟩
def SRV_MODULE_FLAT (c : Nat) : Field := ⟨SRV_MODULE c, 7, 7⟩
def SRV_MODULE_PCLASS (c : Nat) : Field := ⟨SRV_MODULE c, 2, 0⟩
def SRV_MODULE_MAXPWR (c : Nat) : Field := ⟨SRV_MODULE c, 39, 32⟩
/-- SRV_LANE_LO (R96). -/
def SRV_LANE_LO (n : Nat) : Nat := 0x38000 + 0x10 * n
def SRV_LANE_LO_STATE (n : Nat) : Field := ⟨SRV_LANE_LO n, 31, 30⟩
def SRV_LANE_LO_EXTRAP (n : Nat) : Field := ⟨SRV_LANE_LO n, 29, 29⟩
def SRV_LANE_LO_SAT (n : Nat) : Field := ⟨SRV_LANE_LO n, 28, 28⟩
def SRV_LANE_LO_NO_RATE (n : Nat) : Field := ⟨SRV_LANE_LO n, 27, 27⟩
def SRV_LANE_LO_HIGHEST (n : Nat) : Field := ⟨SRV_LANE_LO n, 26, 24⟩
def SRV_LANE_LO_IL_NYQ (n : Nat) : Field := ⟨SRV_LANE_LO n, 9, 0⟩
def SRV_LANE_LO_REFL_POS_MM (n : Nat) : Field := ⟨SRV_LANE_LO n, 63, 48⟩
def SRV_LANE_LO_LENGTH_MM (n : Nat) : Field := ⟨SRV_LANE_LO n, 47, 32⟩
/-- SRV_LANE_HI (R96). -/
def SRV_LANE_HI (n : Nat) : Nat := 0x38008 + 0x10 * n
def SRV_LANE_HI_PARTNER_ABIL (n : Nat) : Field := ⟨SRV_LANE_HI n, 29, 24⟩
def SRV_LANE_HI_PARTNER_KIND (n : Nat) : Field := ⟨SRV_LANE_HI n, 23, 22⟩
def SRV_LANE_HI_REFL_RHO (n : Nat) : Field := ⟨SRV_LANE_HI n, 19, 12⟩
def SRV_LANE_HI_PARTNER_DEVID (n : Nat) : Field := ⟨SRV_LANE_HI n, 11, 0⟩
def SRV_LANE_HI_SEQ (n : Nat) : Field := ⟨SRV_LANE_HI n, 47, 32⟩
/-- LDG_CFG (R575). -/
def LDG_CFG : Nat := 0x40000
def LDG_CFG_INTERVAL_S : Field := ⟨LDG_CFG, 15, 0⟩
/-- LDG_STATUS (R575). -/
def LDG_STATUS : Nat := 0x40004
def LDG_STATUS_BUSY : Field := ⟨LDG_STATUS, 31, 31⟩
def LDG_STATUS_LIFE_BAD : Field := ⟨LDG_STATUS, 30, 30⟩
def LDG_STATUS_NEW_LIFE : Field := ⟨LDG_STATUS, 29, 29⟩
def LDG_STATUS_WRITE_ERR : Field := ⟨LDG_STATUS, 28, 28⟩
def LDG_STATUS_LAST_SLOT : Field := ⟨LDG_STATUS, 2, 0⟩
/-- LDG_CSEQ (R575). -/
def LDG_CSEQ : Nat := 0x40008
def LDG_CSEQ_CSEQ : Field := ⟨LDG_CSEQ, 63, 0⟩
/-- LDG_ERASE (R575). -/
def LDG_ERASE : Nat := 0x40010
def LDG_ERASE_V : Field := ⟨LDG_ERASE, 31, 0⟩
/-- LDG_CTRL (R575). -/
def LDG_CTRL : Nat := 0x40018
def LDG_CTRL_CHECKPOINT_NOW : Field := ⟨LDG_CTRL, 31, 31⟩
/-- LDG_IND_CTRL (R575). -/
def LDG_IND_CTRL : Nat := 0x40040
def LDG_IND_CTRL_STRIDE : Field := ⟨LDG_IND_CTRL, 2, 0⟩
/-- LDG_IND_ADDR (R575). -/
def LDG_IND_ADDR : Nat := 0x40044
def LDG_IND_ADDR_WORD : Field := ⟨LDG_IND_ADDR, 19, 0⟩
/-- LDG_IND_DATA (R575). -/
def LDG_IND_DATA : Nat := 0x40048
def LDG_IND_DATA_DATA : Field := ⟨LDG_IND_DATA, 31, 0⟩
/-- PMC_SEL (R576). -/
def PMC_SEL (n : Nat) : Nat := 0x50000 + 0x4 * n
def PMC_SEL_EN (n : Nat) : Field := ⟨PMC_SEL n, 31, 31⟩
def PMC_SEL_MODE (n : Nat) : Field := ⟨PMC_SEL n, 30, 30⟩
def PMC_SEL_EVENT (n : Nat) : Field := ⟨PMC_SEL n, 29, 22⟩
def PMC_SEL_INSTANCE (n : Nat) : Field := ⟨PMC_SEL n, 21, 8⟩
/-- PMC_THR (R576). -/
def PMC_THR (n : Nat) : Nat := 0x50400 + 0x4 * n
def PMC_THR_THRESH (n : Nat) : Field := ⟨PMC_THR n, 31, 0⟩
/-- PMC_CNT (R576). -/
def PMC_CNT (n : Nat) : Nat := 0x50800 + 0x8 * n
def PMC_CNT_COUNT (n : Nat) : Field := ⟨PMC_CNT n, 47, 0⟩
/-- PMC_CNT_HC (R576). -/
def PMC_CNT_HC (n : Nat) : Nat := 0x51000 + 0x8 * n
def PMC_CNT_HC_COUNT (n : Nat) : Field := ⟨PMC_CNT_HC n, 47, 0⟩
/-- PMC_OVF (R576). -/
def PMC_OVF (w : Nat) : Nat := 0x51800 + 0x4 * w
def PMC_OVF_OVF (w : Nat) : Field := ⟨PMC_OVF w, 31, 0⟩
/-- PMC_TEL_CFG (R576). -/
def PMC_TEL_CFG (k : Nat) : Nat := 0x52000 + 0x20 * k
def PMC_TEL_CFG_EN (k : Nat) : Field := ⟨PMC_TEL_CFG k, 31, 31⟩
def PMC_TEL_CFG_COUNT (k : Nat) : Field := ⟨PMC_TEL_CFG k, 30, 26⟩
def PMC_TEL_CFG_FIRST (k : Nat) : Field := ⟨PMC_TEL_CFG k, 25, 18⟩
def PMC_TEL_CFG_LOG2_N (k : Nat) : Field := ⟨PMC_TEL_CFG k, 17, 14⟩
/-- PMC_TEL_PERIOD (R576). -/
def PMC_TEL_PERIOD (k : Nat) : Nat := 0x52004 + 0x20 * k
def PMC_TEL_PERIOD_PERIOD_US (k : Nat) : Field := ⟨PMC_TEL_PERIOD k, 31, 0⟩
/-- PMC_TEL_BASE (R576). -/
def PMC_TEL_BASE (k : Nat) : Nat := 0x52008 + 0x20 * k
def PMC_TEL_BASE_ADDR (k : Nat) : Field := ⟨PMC_TEL_BASE k, 63, 8⟩
/-- PMC_TEL_WIDX (R576). -/
def PMC_TEL_WIDX (k : Nat) : Nat := 0x52010 + 0x20 * k
def PMC_TEL_WIDX_WIDX (k : Nat) : Field := ⟨PMC_TEL_WIDX k, 15, 0⟩
/-- PMC_TEL_RIDX (R576). -/
def PMC_TEL_RIDX (k : Nat) : Nat := 0x52014 + 0x20 * k
def PMC_TEL_RIDX_RIDX (k : Nat) : Field := ⟨PMC_TEL_RIDX k, 15, 0⟩
/-- PMC_TEL_SKIPPED (R576). -/
def PMC_TEL_SKIPPED (k : Nat) : Nat := 0x52018 + 0x20 * k
def PMC_TEL_SKIPPED_COUNT (k : Nat) : Field := ⟨PMC_TEL_SKIPPED k, 31, 0⟩
/-- TIM_CFG (R426). -/
def TIM_CFG : Nat := 0x60000
def TIM_CFG_OFFSET_SRC : Field := ⟨TIM_CFG, 31, 30⟩
def TIM_CFG_AVG_SH : Field := ⟨TIM_CFG, 28, 24⟩
def TIM_CFG_FMAX_PPM : Field := ⟨TIM_CFG, 23, 16⟩
def TIM_CFG_HOLD_MS : Field := ⟨TIM_CFG, 15, 0⟩
/-- TIM_CTRL (R426). -/
def TIM_CTRL : Nat := 0x60004
def TIM_CTRL_HOLD : Field := ⟨TIM_CTRL, 31, 31⟩
def TIM_CTRL_ACQUIRE : Field := ⟨TIM_CTRL, 30, 30⟩
/-- TIM_STATUS (R426). -/
def TIM_STATUS : Nat := 0x60008
def TIM_STATUS_STATE : Field := ⟨TIM_STATUS, 31, 30⟩
def TIM_STATUS_CORE_CLK : Field := ⟨TIM_STATUS, 29, 29⟩
def TIM_STATUS_STEPPED : Field := ⟨TIM_STATUS, 28, 28⟩
def TIM_STATUS_LOCK_CNT : Field := ⟨TIM_STATUS, 15, 8⟩
def TIM_STATUS_PPS_IN_CNT : Field := ⟨TIM_STATUS, 7, 0⟩
/-- TIM_NOW_W0 (R427). -/
def TIM_NOW_W0 : Nat := 0x60010
def TIM_NOW_W0_FRAC : Field := ⟨TIM_NOW_W0, 15, 0⟩
/-- TIM_NOW_W1 (R427). -/
def TIM_NOW_W1 : Nat := 0x60014
def TIM_NOW_W1_NS : Field := ⟨TIM_NOW_W1, 29, 0⟩
/-- TIM_NOW_W2 (R427). -/
def TIM_NOW_W2 : Nat := 0x60018
def TIM_NOW_W2_SEC_LO : Field := ⟨TIM_NOW_W2, 31, 0⟩
/-- TIM_NOW_W3 (R427). -/
def TIM_NOW_W3 : Nat := 0x6001C
def TIM_NOW_W3_SEC_HI : Field := ⟨TIM_NOW_W3, 31, 0⟩
/-- TIM_SET_W0 (R427). -/
def TIM_SET_W0 : Nat := 0x60020
def TIM_SET_W0_FRAC : Field := ⟨TIM_SET_W0, 15, 0⟩
/-- TIM_SET_W1 (R427). -/
def TIM_SET_W1 : Nat := 0x60024
def TIM_SET_W1_NS : Field := ⟨TIM_SET_W1, 29, 0⟩
/-- TIM_SET_W2 (R427). -/
def TIM_SET_W2 : Nat := 0x60028
def TIM_SET_W2_SEC_LO : Field := ⟨TIM_SET_W2, 31, 0⟩
/-- TIM_SET_W3 (R427). -/
def TIM_SET_W3 : Nat := 0x6002C
def TIM_SET_W3_SEC_HI : Field := ⟨TIM_SET_W3, 31, 0⟩
/-- TIM_FT_W0 (R427). -/
def TIM_FT_W0 : Nat := 0x60030
def TIM_FT_W0_FRAC : Field := ⟨TIM_FT_W0, 15, 0⟩
/-- TIM_FT_W1 (R427). -/
def TIM_FT_W1 : Nat := 0x60034
def TIM_FT_W1_NS : Field := ⟨TIM_FT_W1, 29, 0⟩
/-- TIM_FT_W2 (R427). -/
def TIM_FT_W2 : Nat := 0x60038
def TIM_FT_W2_SEC_LO : Field := ⟨TIM_FT_W2, 31, 0⟩
/-- TIM_FT_W3 (R427). -/
def TIM_FT_W3 : Nat := 0x6003C
def TIM_FT_W3_SEC_HI : Field := ⟨TIM_FT_W3, 31, 0⟩
/-- TIM_OFFSET (R428). -/
def TIM_OFFSET : Nat := 0x60040
def TIM_OFFSET_OFFSET : Field := ⟨TIM_OFFSET, 47, 0⟩
/-- TIM_FREQ (R428). -/
def TIM_FREQ : Nat := 0x60048
def TIM_FREQ_F : Field := ⟨TIM_FREQ, 31, 0⟩
/-- TIM_HOLD_FREQ (R428). -/
def TIM_HOLD_FREQ : Nat := 0x6004C
def TIM_HOLD_FREQ_AVG : Field := ⟨TIM_HOLD_FREQ, 31, 0⟩
/-- TIM_GAIN_ACQ (R428). -/
def TIM_GAIN_ACQ : Nat := 0x60050
def TIM_GAIN_ACQ_KP : Field := ⟨TIM_GAIN_ACQ, 31, 16⟩
def TIM_GAIN_ACQ_KI : Field := ⟨TIM_GAIN_ACQ, 15, 0⟩
/-- TIM_GAIN_TRK (R428). -/
def TIM_GAIN_TRK : Nat := 0x60054
def TIM_GAIN_TRK_KP : Field := ⟨TIM_GAIN_TRK, 31, 16⟩
def TIM_GAIN_TRK_KI : Field := ⟨TIM_GAIN_TRK, 15, 0⟩
/-- TIM_LOCK (R428). -/
def TIM_LOCK : Nat := 0x60058
def TIM_LOCK_STEP_US : Field := ⟨TIM_LOCK, 31, 16⟩
def TIM_LOCK_LOCK_N : Field := ⟨TIM_LOCK, 15, 8⟩
def TIM_LOCK_LOCK_NS : Field := ⟨TIM_LOCK, 7, 0⟩
/-- TIM_PPS_IN_TS (R429). -/
def TIM_PPS_IN_TS (w : Nat) : Nat := 0x60060 + 0x4 * w
def TIM_PPS_IN_TS_TS (w : Nat) : Field := ⟨TIM_PPS_IN_TS w, 31, 0⟩
/-- TIM_PPS_OUT (R429). -/
def TIM_PPS_OUT : Nat := 0x60070
def TIM_PPS_OUT_EN : Field := ⟨TIM_PPS_OUT, 31, 31⟩
def TIM_PPS_OUT_WIDTH_MS : Field := ⟨TIM_PPS_OUT, 30, 23⟩
def TIM_PPS_OUT_OUT_ADJ_NS : Field := ⟨TIM_PPS_OUT, 15, 0⟩
/-- TIM_TOD_CFG (R429). -/
def TIM_TOD_CFG : Nat := 0x60074
def TIM_TOD_CFG_TX_EN : Field := ⟨TIM_TOD_CFG, 31, 31⟩
def TIM_TOD_CFG_RX_EN : Field := ⟨TIM_TOD_CFG, 30, 30⟩
def TIM_TOD_CFG_RX_APPLY : Field := ⟨TIM_TOD_CFG, 29, 29⟩
def TIM_TOD_CFG_BAUD : Field := ⟨TIM_TOD_CFG, 28, 27⟩
def TIM_TOD_CFG_UTC_OFF : Field := ⟨TIM_TOD_CFG, 15, 0⟩
/-- TIM_PPS_IN (R429). -/
def TIM_PPS_IN : Nat := 0x60078
def TIM_PPS_IN_EN : Field := ⟨TIM_PPS_IN, 31, 31⟩
def TIM_PPS_IN_ADJ_NS : Field := ⟨TIM_PPS_IN, 15, 0⟩
/-- TIM_TOD_RX (R429). -/
def TIM_TOD_RX (w : Nat) : Nat := 0x60080 + 0x4 * w
def TIM_TOD_RX_BYTES (w : Nat) : Field := ⟨TIM_TOD_RX w, 31, 0⟩
/-- TIM_SYNCE (R430). -/
def TIM_SYNCE (k : Nat) : Nat := 0x60090 + 0x4 * k
def TIM_SYNCE_FREQ (k : Nat) : Field := ⟨TIM_SYNCE k, 31, 30⟩
def TIM_SYNCE_SQUELCH (k : Nat) : Field := ⟨TIM_SYNCE k, 29, 29⟩
def TIM_SYNCE_ON_BACKUP (k : Nat) : Field := ⟨TIM_SYNCE k, 28, 28⟩
def TIM_SYNCE_BACKUP_EN (k : Nat) : Field := ⟨TIM_SYNCE k, 27, 27⟩
def TIM_SYNCE_BACKUP (k : Nat) : Field := ⟨TIM_SYNCE k, 17, 9⟩
def TIM_SYNCE_PRIMARY (k : Nat) : Field := ⟨TIM_SYNCE k, 8, 0⟩
/-- TIM_STAT (R432). -/
def TIM_STAT (i : Nat) : Nat := 0x60100 + 0x8 * i
def TIM_STAT_COUNT (i : Nat) : Field := ⟨TIM_STAT i, 47, 0⟩
/-- TIM_STAT_HC (R432). -/
def TIM_STAT_HC (i : Nat) : Nat := 0x60180 + 0x8 * i
def TIM_STAT_HC_COUNT (i : Nat) : Field := ⟨TIM_STAT_HC i, 47, 0⟩
/-- TIM_PORT_DLY (R431). -/
def TIM_PORT_DLY (p : Nat) : Nat := 0x61000 + 0x8 * p
def TIM_PORT_DLY_TC_MODE (p : Nat) : Field := ⟨TIM_PORT_DLY p, 31, 30⟩
def TIM_PORT_DLY_LINK_DELAY (p : Nat) : Field := ⟨TIM_PORT_DLY p, 29, 0⟩
/-- TIM_PORT_ADJ (R431). -/
def TIM_PORT_ADJ (p : Nat) : Nat := 0x61004 + 0x8 * p
def TIM_PORT_ADJ_TX_ADJ (p : Nat) : Field := ⟨TIM_PORT_ADJ p, 31, 16⟩
def TIM_PORT_ADJ_RX_ADJ (p : Nat) : Field := ⟨TIM_PORT_ADJ p, 15, 0⟩
/-- UNT_CFG (R393). -/
def UNT_CFG : Nat := 0x70000
def UNT_CFG_TAKE_UNSYNCED : Field := ⟨UNT_CFG, 31, 31⟩
def UNT_CFG_BIST_EN : Field := ⟨UNT_CFG, 30, 30⟩
def UNT_CFG_BIND_GUARD : Field := ⟨UNT_CFG, 23, 16⟩
def UNT_CFG_BIND_MAX_MS : Field := ⟨UNT_CFG, 15, 8⟩
/-- UNT_STATUS (R394). -/
def UNT_STATUS : Nat := 0x70004
def UNT_STATUS_ROLE : Field := ⟨UNT_STATUS, 31, 28⟩
def UNT_STATUS_PAIR : Field := ⟨UNT_STATUS, 27, 27⟩
def UNT_STATUS_SLOT : Field := ⟨UNT_STATUS, 26, 26⟩
def UNT_STATUS_PEER_ACT : Field := ⟨UNT_STATUS, 25, 25⟩
def UNT_STATUS_PEER_RELQ : Field := ⟨UNT_STATUS, 24, 24⟩
def UNT_STATUS_PUNTY_UP : Field := ⟨UNT_STATUS, 23, 23⟩
def UNT_STATUS_SYNCED : Field := ⟨UNT_STATUS, 22, 22⟩
def UNT_STATUS_PEER_LOST : Field := ⟨UNT_STATUS, 21, 21⟩
def UNT_STATUS_OVERRIDE_LOST : Field := ⟨UNT_STATUS, 20, 20⟩
def UNT_STATUS_LAST_CHANGE : Field := ⟨UNT_STATUS, 19, 16⟩
def UNT_STATUS_CRIT_CAUSE : Field := ⟨UNT_STATUS, 15, 12⟩
def UNT_STATUS_CRIT_DETAIL : Field := ⟨UNT_STATUS, 11, 0⟩
/-- UNT_ROLE_CMD (R395). -/
def UNT_ROLE_CMD : Nat := 0x70008
def UNT_ROLE_CMD_CMD : Field := ⟨UNT_ROLE_CMD, 3, 0⟩
/-- UNT_HEALTH (R396). -/
def UNT_HEALTH : Nat := 0x70010
def UNT_HEALTH_FAIL : Field := ⟨UNT_HEALTH, 31, 31⟩
def UNT_HEALTH_DIVERGED : Field := ⟨UNT_HEALTH, 30, 30⟩
def UNT_HEALTH_DRIFT_PERSIST : Field := ⟨UNT_HEALTH, 29, 29⟩
def UNT_HEALTH_BIST_ERR : Field := ⟨UNT_HEALTH, 28, 28⟩
def UNT_HEALTH_SYNCED : Field := ⟨UNT_HEALTH, 27, 27⟩
def UNT_HEALTH_CRIT : Field := ⟨UNT_HEALTH, 26, 26⟩
def UNT_HEALTH_DIVERGED_PORTS : Field := ⟨UNT_HEALTH, 15, 0⟩
/-- UNT_PEER_HEALTH (R396). -/
def UNT_PEER_HEALTH : Nat := 0x70014
def UNT_PEER_HEALTH_FAIL : Field := ⟨UNT_PEER_HEALTH, 31, 31⟩
def UNT_PEER_HEALTH_DIVERGED : Field := ⟨UNT_PEER_HEALTH, 30, 30⟩
def UNT_PEER_HEALTH_DRIFT_PERSIST : Field := ⟨UNT_PEER_HEALTH, 29, 29⟩
def UNT_PEER_HEALTH_BIST_ERR : Field := ⟨UNT_PEER_HEALTH, 28, 28⟩
def UNT_PEER_HEALTH_SYNCED : Field := ⟨UNT_PEER_HEALTH, 27, 27⟩
def UNT_PEER_HEALTH_CRIT : Field := ⟨UNT_PEER_HEALTH, 26, 26⟩
def UNT_PEER_HEALTH_DIVERGED_PORTS : Field := ⟨UNT_PEER_HEALTH, 15, 0⟩
/-- UNT_PUNTY_CFG (R397). -/
def UNT_PUNTY_CFG : Nat := 0x70018
def UNT_PUNTY_CFG_RX_INV : Field := ⟨UNT_PUNTY_CFG, 7, 4⟩
def UNT_PUNTY_CFG_TX_INV : Field := ⟨UNT_PUNTY_CFG, 3, 0⟩
/-- UNT_PUNTY_STATUS (R397). -/
def UNT_PUNTY_STATUS : Nat := 0x7001C
def UNT_PUNTY_STATUS_LINK : Field := ⟨UNT_PUNTY_STATUS, 31, 31⟩
def UNT_PUNTY_STATUS_LOCK : Field := ⟨UNT_PUNTY_STATUS, 30, 27⟩
def UNT_PUNTY_STATUS_LINK_LOSS : Field := ⟨UNT_PUNTY_STATUS, 15, 0⟩
/-- UNT_TENSION_CFG (R398). -/
def UNT_TENSION_CFG : Nat := 0x70020
def UNT_TENSION_CFG_GUARD : Field := ⟨UNT_TENSION_CFG, 31, 24⟩
def UNT_TENSION_CFG_CLOSE_MS : Field := ⟨UNT_TENSION_CFG, 23, 16⟩
def UNT_TENSION_CFG_FLAG_N : Field := ⟨UNT_TENSION_CFG, 6, 0⟩
/-- UNT_BIND (R398). -/
def UNT_BIND : Nat := 0x70024
def UNT_BIND_STATE : Field := ⟨UNT_BIND, 31, 28⟩
def UNT_BIND_RESULT : Field := ⟨UNT_BIND, 27, 24⟩
def UNT_BIND_QUEUES_LEFT : Field := ⟨UNT_BIND, 13, 0⟩
/-- UNT_PSEQ_SENT (R399). -/
def UNT_PSEQ_SENT : Nat := 0x70028
def UNT_PSEQ_SENT_PSEQ : Field := ⟨UNT_PSEQ_SENT, 31, 0⟩
/-- UNT_PSEQ_APPLIED (R399). -/
def UNT_PSEQ_APPLIED : Nat := 0x7002C
def UNT_PSEQ_APPLIED_PSEQ : Field := ⟨UNT_PSEQ_APPLIED, 31, 0⟩
/-- UNT_PAIR_OFFSET (R399). -/
def UNT_PAIR_OFFSET : Nat := 0x70030
def UNT_PAIR_OFFSET_NS : Field := ⟨UNT_PAIR_OFFSET, 31, 0⟩
/-- UNT_DIVERGED (R400). -/
def UNT_DIVERGED (w : Nat) : Nat := 0x70100 + 0x4 * w
def UNT_DIVERGED_PORTS (w : Nat) : Field := ⟨UNT_DIVERGED w, 31, 0⟩
/-- UNT_DRIFT (R400). -/
def UNT_DRIFT (w : Nat) : Nat := 0x70140 + 0x4 * w
def UNT_DRIFT_PORTS (w : Nat) : Field := ⟨UNT_DRIFT w, 31, 0⟩
/-- UNT_STAT (R401). -/
def UNT_STAT (i : Nat) : Nat := 0x70200 + 0x8 * i
def UNT_STAT_COUNT (i : Nat) : Field := ⟨UNT_STAT i, 47, 0⟩
/-- UNT_STAT_HC (R401). -/
def UNT_STAT_HC (i : Nat) : Nat := 0x70280 + 0x8 * i
def UNT_STAT_HC_COUNT (i : Nat) : Field := ⟨UNT_STAT_HC i, 47, 0⟩
/-- PRT_BIND (R402). -/
def PRT_BIND (p : Nat) : Nat := 0x71000 + 0x4 * p
def PRT_BIND_KIND (p : Nat) : Field := ⟨PRT_BIND p, 31, 30⟩
def PRT_BIND_INDEX (p : Nat) : Field := ⟨PRT_BIND p, 11, 0⟩
/-- PRT_CFG (R403). -/
def PRT_CFG : Nat := 0x72000
def PRT_CFG_NOPATH_MS : Field := ⟨PRT_CFG, 15, 0⟩
/-- PRT_STATUS (R403). -/
def PRT_STATUS : Nat := 0x72004
def PRT_STATUS_OVERRIDE_LOST : Field := ⟨PRT_STATUS, 31, 31⟩
def PRT_STATUS_BAD_BIND : Field := ⟨PRT_STATUS, 30, 30⟩
def PRT_STATUS_REASON : Field := ⟨PRT_STATUS, 29, 27⟩
def PRT_STATUS_INDEX : Field := ⟨PRT_STATUS, 11, 0⟩
/-- PRT_GRP_CMD (R404). -/
def PRT_GRP_CMD : Nat := 0x72008
def PRT_GRP_CMD_GROUP : Field := ⟨PRT_GRP_CMD, 27, 16⟩
def PRT_GRP_CMD_CMD : Field := ⟨PRT_GRP_CMD, 3, 0⟩
/-- PRT_STAT (R405). -/
def PRT_STAT (i : Nat) : Nat := 0x72100 + 0x8 * i
def PRT_STAT_COUNT (i : Nat) : Field := ⟨PRT_STAT i, 47, 0⟩
/-- PRT_STAT_HC (R405). -/
def PRT_STAT_HC (i : Nat) : Nat := 0x72180 + 0x8 * i
def PRT_STAT_HC_COUNT (i : Nat) : Field := ⟨PRT_STAT_HC i, 47, 0⟩
/-- PRT_GRP_CFG (R406). -/
def PRT_GRP_CFG (g : Nat) : Nat := 0x78000 + 0x8 * g
def PRT_GRP_CFG_EN (g : Nat) : Field := ⟨PRT_GRP_CFG g, 31, 31⟩
def PRT_GRP_CFG_REVERT (g : Nat) : Field := ⟨PRT_GRP_CFG g, 30, 30⟩
def PRT_GRP_CFG_W (g : Nat) : Field := ⟨PRT_GRP_CFG g, 29, 20⟩
def PRT_GRP_CFG_P (g : Nat) : Field := ⟨PRT_GRP_CFG g, 19, 10⟩
def PRT_GRP_CFG_HOLDOFF_US (g : Nat) : Field := ⟨PRT_GRP_CFG g, 9, 0⟩
/-- PRT_GRP_STATE (R406). -/
def PRT_GRP_STATE (g : Nat) : Nat := 0x78004 + 0x8 * g
def PRT_GRP_STATE_WTR_S (g : Nat) : Field := ⟨PRT_GRP_STATE g, 31, 16⟩
def PRT_GRP_STATE_REQ (g : Nat) : Field := ⟨PRT_GRP_STATE g, 15, 14⟩
def PRT_GRP_STATE_ACT (g : Nat) : Field := ⟨PRT_GRP_STATE g, 13, 13⟩
def PRT_GRP_STATE_NOPATH (g : Nat) : Field := ⟨PRT_GRP_STATE g, 12, 12⟩
def PRT_GRP_STATE_SF_W (g : Nat) : Field := ⟨PRT_GRP_STATE g, 11, 11⟩
def PRT_GRP_STATE_SF_P (g : Nat) : Field := ⟨PRT_GRP_STATE g, 10, 10⟩
def PRT_GRP_STATE_W_OK (g : Nat) : Field := ⟨PRT_GRP_STATE g, 9, 9⟩
def PRT_GRP_STATE_P_OK (g : Nat) : Field := ⟨PRT_GRP_STATE g, 8, 8⟩
def PRT_GRP_STATE_WTR_RUN (g : Nat) : Field := ⟨PRT_GRP_STATE g, 7, 7⟩
/-- HQ_SQ_BASE (R503). -/
def HQ_SQ_BASE (n : Nat) : Nat := 0x200000 + 0x1000 * n
def HQ_SQ_BASE_ADDR (n : Nat) : Field := ⟨HQ_SQ_BASE n, 63, 6⟩
/-- HQ_SQ_CFG (R504). -/
def HQ_SQ_CFG (n : Nat) : Nat := 0x200008 + 0x1000 * n
def HQ_SQ_CFG_EN (n : Nat) : Field := ⟨HQ_SQ_CFG n, 31, 31⟩
def HQ_SQ_CFG_TYPE (n : Nat) : Field := ⟨HQ_SQ_CFG n, 30, 28⟩
def HQ_SQ_CFG_LOG2_N (n : Nat) : Field := ⟨HQ_SQ_CFG n, 27, 23⟩
def HQ_SQ_CFG_FLUSH_US (n : Nat) : Field := ⟨HQ_SQ_CFG n, 22, 13⟩
def HQ_SQ_CFG_CQ (n : Nat) : Field := ⟨HQ_SQ_CFG n, 8, 0⟩
/-- HQ_SQ_TAIL (R504). -/
def HQ_SQ_TAIL (n : Nat) : Nat := 0x200010 + 0x1000 * n
def HQ_SQ_TAIL_TAIL (n : Nat) : Field := ⟨HQ_SQ_TAIL n, 15, 0⟩
/-- HQ_SQ_HEAD (R504). -/
def HQ_SQ_HEAD (n : Nat) : Nat := 0x200014 + 0x1000 * n
def HQ_SQ_HEAD_HEAD (n : Nat) : Field := ⟨HQ_SQ_HEAD n, 15, 0⟩
/-- HQ_CQ_BASE (R503). -/
def HQ_CQ_BASE (n : Nat) : Nat := 0x200020 + 0x1000 * n
def HQ_CQ_BASE_ADDR (n : Nat) : Field := ⟨HQ_CQ_BASE n, 63, 6⟩
/-- HQ_CQ_CFG (R505). -/
def HQ_CQ_CFG (n : Nat) : Nat := 0x200028 + 0x1000 * n
def HQ_CQ_CFG_EN (n : Nat) : Field := ⟨HQ_CQ_CFG n, 31, 31⟩
def HQ_CQ_CFG_INT_EN (n : Nat) : Field := ⟨HQ_CQ_CFG n, 30, 30⟩
def HQ_CQ_CFG_LOG2_N (n : Nat) : Field := ⟨HQ_CQ_CFG n, 29, 25⟩
def HQ_CQ_CFG_VECTOR (n : Nat) : Field := ⟨HQ_CQ_CFG n, 21, 11⟩
/-- HQ_CQ_DB (R505). -/
def HQ_CQ_DB (n : Nat) : Nat := 0x200030 + 0x1000 * n
def HQ_CQ_DB_PHASE (n : Nat) : Field := ⟨HQ_CQ_DB n, 31, 31⟩
def HQ_CQ_DB_HEAD (n : Nat) : Field := ⟨HQ_CQ_DB n, 15, 0⟩
/-- HQ_CQ_STATUS (R505). -/
def HQ_CQ_STATUS (n : Nat) : Nat := 0x200034 + 0x1000 * n
def HQ_CQ_STATUS_PHASE (n : Nat) : Field := ⟨HQ_CQ_STATUS n, 31, 31⟩
def HQ_CQ_STATUS_FULL (n : Nat) : Field := ⟨HQ_CQ_STATUS n, 30, 30⟩
def HQ_CQ_STATUS_HELD (n : Nat) : Field := ⟨HQ_CQ_STATUS n, 29, 24⟩
def HQ_CQ_STATUS_WIDX (n : Nat) : Field := ⟨HQ_CQ_STATUS n, 15, 0⟩
/-- HQ_CQ_MOD (R505). -/
def HQ_CQ_MOD (n : Nat) : Nat := 0x200038 + 0x1000 * n
def HQ_CQ_MOD_TIMER_US (n : Nat) : Field := ⟨HQ_CQ_MOD n, 31, 16⟩
def HQ_CQ_MOD_COUNT (n : Nat) : Field := ⟨HQ_CQ_MOD n, 15, 0⟩
/-- HQ_OWNER (R506). -/
def HQ_OWNER (n : Nat) : Nat := 0x200040 + 0x1000 * n
def HQ_OWNER_FUNC (n : Nat) : Field := ⟨HQ_OWNER n, 6, 0⟩
/-- HQ_STAT (R507). -/
def HQ_STAT (n i : Nat) : Nat := 0x200080 + 0x1000 * n + 0x8 * i
def HQ_STAT_COUNT (n i : Nat) : Field := ⟨HQ_STAT n i, 47, 0⟩
/-- HQ_GLB_CFG (R508). -/
def HQ_GLB_CFG : Nat := 0x200800
def HQ_GLB_CFG_LEARN_QV : Field := ⟨HQ_GLB_CFG, 31, 31⟩
def HQ_GLB_CFG_AUDIT_QV : Field := ⟨HQ_GLB_CFG, 30, 30⟩
def HQ_GLB_CFG_AUDIT_Q : Field := ⟨HQ_GLB_CFG, 24, 16⟩
def HQ_GLB_CFG_LEARN_Q : Field := ⟨HQ_GLB_CFG, 8, 0⟩
/-- HQ_GLB_STATUS (R508). -/
def HQ_GLB_STATUS : Nat := 0x200804
def HQ_GLB_STATUS_INFLIGHT : Field := ⟨HQ_GLB_STATUS, 13, 0⟩
/-- HQ_GLB_STAT (R508). -/
def HQ_GLB_STAT : Nat := 0x200808
def HQ_GLB_STAT_STAMP_LOST : Field := ⟨HQ_GLB_STAT, 47, 0⟩
/-- HQ_PUNT_MAP (R509). -/
def HQ_PUNT_MAP (j : Nat) : Nat := 0x200900 + 0x4 * j
def HQ_PUNT_MAP_VALID (j : Nat) : Field := ⟨HQ_PUNT_MAP j, 31, 31⟩
def HQ_PUNT_MAP_DROP_FULL (j : Nat) : Field := ⟨HQ_PUNT_MAP j, 30, 30⟩
def HQ_PUNT_MAP_QUEUE (j : Nat) : Field := ⟨HQ_PUNT_MAP j, 8, 0⟩
/-- HQ_VF (R509). -/
def HQ_VF (v : Nat) : Nat := 0x200A00 + 0x4 * v
def HQ_VF_MGMT (v : Nat) : Field := ⟨HQ_VF v, 31, 31⟩
def HQ_VF_FIXED_EN (v : Nat) : Field := ⟨HQ_VF v, 30, 30⟩
/-- DMA_CHAN (R523). -/
def DMA_CHAN (c : Nat) : Nat := 0x400100 + 0x4 * c
def DMA_CHAN_EN (c : Nat) : Field := ⟨DMA_CHAN c, 31, 31⟩
def DMA_CHAN_MODE (c : Nat) : Field := ⟨DMA_CHAN c, 30, 30⟩
def DMA_CHAN_PRIO (c : Nat) : Field := ⟨DMA_CHAN c, 29, 28⟩
def DMA_CHAN_SQ (c : Nat) : Field := ⟨DMA_CHAN c, 8, 0⟩
/-- DMA_LINE (R524). -/
def DMA_LINE (l : Nat) : Nat := 0x400200 + 0x4 * l
def DMA_LINE_EN (l : Nat) : Field := ⟨DMA_LINE l, 31, 31⟩
def DMA_LINE_CHAN (l : Nat) : Field := ⟨DMA_LINE l, 4, 0⟩
/-- DMA_CHAN_STATUS (R525). -/
def DMA_CHAN_STATUS (c : Nat) : Nat := 0x400300 + 0x4 * c
def DMA_CHAN_STATUS_BUSY (c : Nat) : Field := ⟨DMA_CHAN_STATUS c, 31, 31⟩
def DMA_CHAN_STATUS_PENDING (c : Nat) : Field := ⟨DMA_CHAN_STATUS c, 30, 30⟩
def DMA_CHAN_STATUS_LINE (c : Nat) : Field := ⟨DMA_CHAN_STATUS c, 29, 24⟩
def DMA_CHAN_STATUS_BURST_LEFT (c : Nat) : Field := ⟨DMA_CHAN_STATUS c, 12, 0⟩
/-- DMA_STAT (R526). -/
def DMA_STAT (i : Nat) : Nat := 0x401000 + 0x8 * i
def DMA_STAT_COUNT (i : Nat) : Field := ⟨DMA_STAT i, 47, 0⟩
/-- POOL_CLASS (R527). -/
def POOL_CLASS (k : Nat) : Nat := 0x410000 + 0x4 * k
def POOL_CLASS_FALLBACK (k : Nat) : Field := ⟨POOL_CLASS k, 31, 16⟩
def POOL_CLASS_FREE (k : Nat) : Field := ⟨POOL_CLASS k, 12, 0⟩
/-- POOL_STATUS (R527). -/
def POOL_STATUS : Nat := 0x410010
def POOL_STATUS_DOUBLE_FREE : Field := ⟨POOL_STATUS, 31, 31⟩
def POOL_STATUS_DFREE : Field := ⟨POOL_STATUS, 30, 16⟩
/-- POOL_DFREE_HANDLE (R527). -/
def POOL_DFREE_HANDLE : Nat := 0x410014
def POOL_DFREE_HANDLE_HANDLE : Field := ⟨POOL_DFREE_HANDLE, 31, 0⟩
/-- POOL_RESV (R528). -/
def POOL_RESV (o k : Nat) : Nat := 0x411000 + 0x10 * o + 0x4 * k
def POOL_RESV_HELD (o k : Nat) : Field := ⟨POOL_RESV o k, 28, 16⟩
def POOL_RESV_RESV (o k : Nat) : Field := ⟨POOL_RESV o k, 12, 0⟩
/-- POOL_ALLOC (R529). -/
def POOL_ALLOC (o : Nat) : Nat := 0x414000 + 0x10 * o
def POOL_ALLOC_SIZE (o : Nat) : Field := ⟨POOL_ALLOC o, 14, 0⟩
/-- POOL_FREE (R529). -/
def POOL_FREE (o : Nat) : Nat := 0x414004 + 0x10 * o
def POOL_FREE_HANDLE (o : Nat) : Field := ⟨POOL_FREE o, 31, 0⟩
/-- POOL_RESULT (R529). -/
def POOL_RESULT (o : Nat) : Nat := 0x414008 + 0x10 * o
def POOL_RESULT_HANDLE (o : Nat) : Field := ⟨POOL_RESULT o, 31, 0⟩
/-- POOL_OSTAT (R529). -/
def POOL_OSTAT (o : Nat) : Nat := 0x41400C + 0x10 * o
def POOL_OSTAT_LAST (o : Nat) : Field := ⟨POOL_OSTAT o, 31, 28⟩
def POOL_OSTAT_FAILS (o : Nat) : Field := ⟨POOL_OSTAT o, 15, 0⟩
/-- SVC_STATUS (R545). -/
def SVC_STATUS : Nat := 0x420000
def SVC_STATUS_READY : Field := ⟨SVC_STATUS, 31, 31⟩
def SVC_STATUS_SELVEDGE_FW : Field := ⟨SVC_STATUS, 30, 30⟩
def SVC_STATUS_CORE_FAILED : Field := ⟨SVC_STATUS, 15, 0⟩
/-- SVC_WDG_CFG (R545). -/
def SVC_WDG_CFG : Nat := 0x420004
def SVC_WDG_CFG_TIMEOUT_MS : Field := ⟨SVC_WDG_CFG, 15, 0⟩
/-- SVC_RX_CFG (R545). -/
def SVC_RX_CFG : Nat := 0x420008
def SVC_RX_CFG_DROP_FULL : Field := ⟨SVC_RX_CFG, 15, 0⟩
/-- SVC_CORE (R546). -/
def SVC_CORE (n : Nat) : Nat := 0x420100 + 0x4 * n
def SVC_CORE_STATE (n : Nat) : Field := ⟨SVC_CORE n, 31, 29⟩
def SVC_CORE_ROLE (n : Nat) : Field := ⟨SVC_CORE n, 23, 16⟩
def SVC_CORE_RESTARTS (n : Nat) : Field := ⟨SVC_CORE n, 15, 0⟩
/-- SVC_STAT (R547). -/
def SVC_STAT (i : Nat) : Nat := 0x420200 + 0x8 * i
def SVC_STAT_COUNT (i : Nat) : Field := ⟨SVC_STAT i, 47, 0⟩
/-- SVC_STAT_HC (R547). -/
def SVC_STAT_HC (i : Nat) : Nat := 0x420280 + 0x8 * i
def SVC_STAT_HC_COUNT (i : Nat) : Field := ⟨SVC_STAT_HC i, 47, 0⟩
/-- DST_CFG (R451). -/
def DST_CFG : Nat := 0x430000
def DST_CFG_HIT_CAP : Field := ⟨DST_CFG, 31, 24⟩
def DST_CFG_IDLE_NS : Field := ⟨DST_CFG, 15, 0⟩
/-- DST_STATUS (R451). -/
def DST_STATUS : Nat := 0x430004
def DST_STATUS_TEST_REJ : Field := ⟨DST_STATUS, 31, 31⟩
def DST_STATUS_UNC_ERR : Field := ⟨DST_STATUS, 30, 30⟩
def DST_STATUS_RETIRE : Field := ⟨DST_STATUS, 29, 29⟩
def DST_STATUS_CMD_REJ : Field := ⟨DST_STATUS, 28, 28⟩
def DST_STATUS_STACK_FAIL : Field := ⟨DST_STATUS, 3, 0⟩
/-- DST_STACK (R453). -/
def DST_STACK (s : Nat) : Nat := 0x430010 + 0x4 * s
def DST_STACK_STATE (s : Nat) : Field := ⟨DST_STACK s, 31, 29⟩
def DST_STACK_CAUSE (s : Nat) : Field := ⟨DST_STACK s, 28, 25⟩
def DST_STACK_ROTATE (s : Nat) : Field := ⟨DST_STACK s, 24, 24⟩
def DST_STACK_TEMP (s : Nat) : Field := ⟨DST_STACK s, 23, 16⟩
/-- DST_STACK_CMD (R452). -/
def DST_STACK_CMD : Nat := 0x430020
def DST_STACK_CMD_STACK : Field := ⟨DST_STACK_CMD, 5, 4⟩
def DST_STACK_CMD_CMD : Field := ⟨DST_STACK_CMD, 3, 0⟩
/-- DST_IND_CTRL (R455). -/
def DST_IND_CTRL : Nat := 0x430040
def DST_IND_CTRL_STRIDE : Field := ⟨DST_IND_CTRL, 2, 0⟩
/-- DST_IND_DATA (R455). -/
def DST_IND_DATA : Nat := 0x430044
def DST_IND_DATA_DATA : Field := ⟨DST_IND_DATA, 31, 0⟩
/-- DST_IND_ADDR (R455). -/
def DST_IND_ADDR : Nat := 0x430048
def DST_IND_ADDR_SLOT : Field := ⟨DST_IND_ADDR, 33, 6⟩
def DST_IND_ADDR_WORD : Field := ⟨DST_IND_ADDR, 5, 0⟩
/-- DST_ERR (R454). -/
def DST_ERR : Nat := 0x430050
def DST_ERR_STACK : Field := ⟨DST_ERR, 31, 30⟩
def DST_ERR_PC : Field := ⟨DST_ERR, 29, 25⟩
def DST_ERR_BANK : Field := ⟨DST_ERR, 24, 19⟩
def DST_ERR_ROW : Field := ⟨DST_ERR, 18, 6⟩
/-- DST_STAT (R457). -/
def DST_STAT (i : Nat) : Nat := 0x430100 + 0x8 * i
def DST_STAT_COUNT (i : Nat) : Field := ⟨DST_STAT i, 47, 0⟩
/-- DST_STAT_HC (R457). -/
def DST_STAT_HC (i : Nat) : Nat := 0x430180 + 0x8 * i
def DST_STAT_HC_COUNT (i : Nat) : Field := ⟨DST_STAT_HC i, 47, 0⟩
/-- DST_DLY_CH (R456). -/
def DST_DLY_CH (s c : Nat) : Nat := 0x431000 + 0x400 * s + 0x10 * c
def DST_DLY_CH_CK (s c : Nat) : Field := ⟨DST_DLY_CH s c, 13, 8⟩
def DST_DLY_CH_CA (s c : Nat) : Field := ⟨DST_DLY_CH s c, 5, 0⟩
/-- DST_DLY_BL (R456). -/
def DST_DLY_BL (s w : Nat) : Nat := 0x431100 + 0x400 * s + 0x4 * w
def DST_DLY_BL_RDQS (s w : Nat) : Field := ⟨DST_DLY_BL s w, 13, 8⟩
def DST_DLY_BL_WDQS (s w : Nat) : Field := ⟨DST_DLY_BL s w, 5, 0⟩
/-- TILE_PLL_STATUS (R125). -/
def TILE_PLL_STATUS (t : Nat) : Nat := 0x800000 + 0x10000 * t
def TILE_PLL_STATUS_PLL1_LOCK (t : Nat) : Field := ⟨TILE_PLL_STATUS t, 31, 31⟩
def TILE_PLL_STATUS_PLL1_ON (t : Nat) : Field := ⟨TILE_PLL_STATUS t, 30, 30⟩
def TILE_PLL_STATUS_PLL1_FAM (t : Nat) : Field := ⟨TILE_PLL_STATUS t, 29, 28⟩
def TILE_PLL_STATUS_PLL1_LANES (t : Nat) : Field := ⟨TILE_PLL_STATUS t, 27, 20⟩
def TILE_PLL_STATUS_PLL0_LOCK (t : Nat) : Field := ⟨TILE_PLL_STATUS t, 15, 15⟩
def TILE_PLL_STATUS_PLL0_ON (t : Nat) : Field := ⟨TILE_PLL_STATUS t, 14, 14⟩
def TILE_PLL_STATUS_PLL0_FAM (t : Nat) : Field := ⟨TILE_PLL_STATUS t, 13, 12⟩
def TILE_PLL_STATUS_PLL0_LANES (t : Nat) : Field := ⟨TILE_PLL_STATUS t, 11, 4⟩
/-- TILE_CFG_ERR (R126). -/
def TILE_CFG_ERR (t : Nat) : Nat := 0x800004 + 0x10000 * t
def TILE_CFG_ERR_REASON (t : Nat) : Field := ⟨TILE_CFG_ERR t, 31, 28⟩
def TILE_CFG_ERR_LANE (t : Nat) : Field := ⟨TILE_CFG_ERR t, 18, 16⟩
def TILE_CFG_ERR_COUNT (t : Nat) : Field := ⟨TILE_CFG_ERR t, 15, 0⟩
/-- TILE_TXMAP (R127). -/
def TILE_TXMAP (t : Nat) : Nat := 0x800008 + 0x10000 * t
def TILE_TXMAP_POS (t : Nat) : Field := ⟨TILE_TXMAP t, 23, 0⟩
/-- TILE_PORT_CFG (R128). -/
def TILE_PORT_CFG (t k : Nat) : Nat := 0x800100 + 0x10000 * t + 0x4 * k
def TILE_PORT_CFG_EN (t k : Nat) : Field := ⟨TILE_PORT_CFG t k, 31, 31⟩
def TILE_PORT_CFG_WIDTH (t k : Nat) : Field := ⟨TILE_PORT_CFG t k, 27, 24⟩
def TILE_PORT_CFG_RATE (t k : Nat) : Field := ⟨TILE_PORT_CFG t k, 23, 20⟩
def TILE_PORT_CFG_FEC (t k : Nat) : Field := ⟨TILE_PORT_CFG t k, 19, 16⟩
def TILE_PORT_CFG_AN (t k : Nat) : Field := ⟨TILE_PORT_CFG t k, 15, 14⟩
def TILE_PORT_CFG_KIND (t k : Nat) : Field := ⟨TILE_PORT_CFG t k, 13, 13⟩
def TILE_PORT_CFG_POLICY (t k : Nat) : Field := ⟨TILE_PORT_CFG t k, 12, 12⟩
def TILE_PORT_CFG_SHED_EN (t k : Nat) : Field := ⟨TILE_PORT_CFG t k, 11, 11⟩
def TILE_PORT_CFG_SLEEP_EN (t k : Nat) : Field := ⟨TILE_PORT_CFG t k, 10, 10⟩
def TILE_PORT_CFG_PROBE_S (t k : Nat) : Field := ⟨TILE_PORT_CFG t k, 7, 0⟩
/-- TILE_PORT_STATUS (R129). -/
def TILE_PORT_STATUS (t k : Nat) : Nat := 0x800120 + 0x10000 * t + 0x4 * k
def TILE_PORT_STATUS_LINK (t k : Nat) : Field := ⟨TILE_PORT_STATUS t k, 31, 31⟩
def TILE_PORT_STATUS_ASLEEP (t k : Nat) : Field := ⟨TILE_PORT_STATUS t k, 30, 30⟩
def TILE_PORT_STATUS_STALE_WAIT (t k : Nat) : Field := ⟨TILE_PORT_STATUS t k, 29, 29⟩
def TILE_PORT_STATUS_JARLIS_OK (t k : Nat) : Field := ⟨TILE_PORT_STATUS t k, 28, 28⟩
def TILE_PORT_STATUS_STATE (t k : Nat) : Field := ⟨TILE_PORT_STATUS t k, 27, 24⟩
def TILE_PORT_STATUS_RATE_ACT (t k : Nat) : Field := ⟨TILE_PORT_STATUS t k, 23, 20⟩
def TILE_PORT_STATUS_FEC_ACT (t k : Nat) : Field := ⟨TILE_PORT_STATUS t k, 19, 16⟩
def TILE_PORT_STATUS_LINK_LOSS (t k : Nat) : Field := ⟨TILE_PORT_STATUS t k, 15, 0⟩
/-- TILE_SHED_CFG (R130). -/
def TILE_SHED_CFG (t k : Nat) : Nat := 0x800140 + 0x10000 * t + 0x4 * k
def TILE_SHED_CFG_HI_PCT (t k : Nat) : Field := ⟨TILE_SHED_CFG t k, 31, 24⟩
def TILE_SHED_CFG_LO_PCT (t k : Nat) : Field := ⟨TILE_SHED_CFG t k, 23, 16⟩
def TILE_SHED_CFG_WINDOW_MS (t k : Nat) : Field := ⟨TILE_SHED_CFG t k, 15, 8⟩
def TILE_SHED_CFG_MIN_LANES (t k : Nat) : Field := ⟨TILE_SHED_CFG t k, 7, 6⟩
def TILE_SHED_CFG_WAKE_KST (t k : Nat) : Field := ⟨TILE_SHED_CFG t k, 5, 0⟩
/-- TILE_SHED_STATUS (R131). -/
def TILE_SHED_STATUS (t k : Nat) : Nat := 0x800160 + 0x10000 * t + 0x4 * k
def TILE_SHED_STATUS_TX_LANES (t k : Nat) : Field := ⟨TILE_SHED_STATUS t k, 31, 28⟩
def TILE_SHED_STATUS_RX_LANES (t k : Nat) : Field := ⟨TILE_SHED_STATUS t k, 27, 24⟩
def TILE_SHED_STATUS_CFG_BAD (t k : Nat) : Field := ⟨TILE_SHED_STATUS t k, 23, 23⟩
def TILE_SHED_STATUS_SHED_OFF (t k : Nat) : Field := ⟨TILE_SHED_STATUS t k, 22, 22⟩
def TILE_SHED_STATUS_LANE_EPOCH (t k : Nat) : Field := ⟨TILE_SHED_STATUS t k, 21, 20⟩
def TILE_SHED_STATUS_WAKE_FAIL (t k : Nat) : Field := ⟨TILE_SHED_STATUS t k, 19, 16⟩
def TILE_SHED_STATUS_CHANGES (t k : Nat) : Field := ⟨TILE_SHED_STATUS t k, 15, 0⟩
/-- TILE_FEC_CORR (R132). -/
def TILE_FEC_CORR (t k : Nat) : Nat := 0x800200 + 0x10000 * t + 0x8 * k
def TILE_FEC_CORR_COUNT (t k : Nat) : Field := ⟨TILE_FEC_CORR t k, 47, 0⟩
/-- TILE_FEC_UNCORR (R132). -/
def TILE_FEC_UNCORR (t k : Nat) : Nat := 0x800240 + 0x10000 * t + 0x8 * k
def TILE_FEC_UNCORR_COUNT (t k : Nat) : Field := ⟨TILE_FEC_UNCORR t k, 47, 0⟩
/-- TILE_FEC_HIST (R132). -/
def TILE_FEC_HIST (t k b : Nat) : Nat := 0x800400 + 0x10000 * t + 0x80 * k + 0x8 * b
def TILE_FEC_HIST_COUNT (t k b : Nat) : Field := ⟨TILE_FEC_HIST t k b, 47, 0⟩
/-- LANE_CTRL (R133). -/
def LANE_CTRL (t k : Nat) : Nat := 0x801000 + 0x10000 * t + 0x100 * k
def LANE_CTRL_PRBS_CHK (t k : Nat) : Field := ⟨LANE_CTRL t k, 5, 4⟩
def LANE_CTRL_PRBS_GEN (t k : Nat) : Field := ⟨LANE_CTRL t k, 3, 2⟩
def LANE_CTRL_RX_INV (t k : Nat) : Field := ⟨LANE_CTRL t k, 1, 1⟩
def LANE_CTRL_TX_INV (t k : Nat) : Field := ⟨LANE_CTRL t k, 0, 0⟩
/-- LANE_STATUS (R134). -/
def LANE_STATUS (t k : Nat) : Nat := 0x801004 + 0x10000 * t + 0x100 * k
def LANE_STATUS_SIG_DET (t k : Nat) : Field := ⟨LANE_STATUS t k, 31, 31⟩
def LANE_STATUS_CDR_LOCK (t k : Nat) : Field := ⟨LANE_STATUS t k, 30, 30⟩
def LANE_STATUS_ASLEEP (t k : Nat) : Field := ⟨LANE_STATUS t k, 29, 29⟩
def LANE_STATUS_SHED (t k : Nat) : Field := ⟨LANE_STATUS t k, 28, 28⟩
def LANE_STATUS_PRBS_ERR (t k : Nat) : Field := ⟨LANE_STATUS t k, 23, 0⟩
/-- MAC_CFG (R148). -/
def MAC_CFG (t k : Nat) : Nat := 0x804000 + 0x10000 * t + 0x1000 * k
def MAC_CFG_FC_MODE (t k : Nat) : Field := ⟨MAC_CFG t k, 31, 30⟩
def MAC_CFG_MC_ALL (t k : Nat) : Field := ⟨MAC_CFG t k, 29, 29⟩
def MAC_CFG_IFG_EXTRA (t k : Nat) : Field := ⟨MAC_CFG t k, 25, 20⟩
def MAC_CFG_MAX_LEN (t k : Nat) : Field := ⟨MAC_CFG t k, 13, 0⟩
/-- MAC_ADDR (R149). -/
def MAC_ADDR (t k : Nat) : Nat := 0x804008 + 0x10000 * t + 0x1000 * k
def MAC_ADDR_ADDR (t k : Nat) : Field := ⟨MAC_ADDR t k, 47, 0⟩
/-- MAC_FC_TX (R150). -/
def MAC_FC_TX (t k : Nat) : Nat := 0x804010 + 0x10000 * t + 0x1000 * k
def MAC_FC_TX_QUANTA (t k : Nat) : Field := ⟨MAC_FC_TX t k, 31, 16⟩
def MAC_FC_TX_REFRESH (t k : Nat) : Field := ⟨MAC_FC_TX t k, 15, 0⟩
/-- MAC_FC_STATUS (R150). -/
def MAC_FC_STATUS (t k : Nat) : Nat := 0x804014 + 0x10000 * t + 0x1000 * k
def MAC_FC_STATUS_RX_PAUSED (t k : Nat) : Field := ⟨MAC_FC_STATUS t k, 31, 24⟩
def MAC_FC_STATUS_TX_XOFF (t k : Nat) : Field := ⟨MAC_FC_STATUS t k, 23, 16⟩
def MAC_FC_STATUS_WD_BREAK (t k : Nat) : Field := ⟨MAC_FC_STATUS t k, 15, 8⟩
def MAC_FC_STATUS_WD_TRIP (t k : Nat) : Field := ⟨MAC_FC_STATUS t k, 7, 0⟩
/-- MAC_PFC_MAP (R151). -/
def MAC_PFC_MAP (t k p : Nat) : Nat := 0x804020 + 0x10000 * t + 0x1000 * k + 0x4 * p
def MAC_PFC_MAP_QMASK (t k p : Nat) : Field := ⟨MAC_PFC_MAP t k p, 15, 0⟩
/-- MAC_WD (R152). -/
def MAC_WD (t k : Nat) : Nat := 0x804040 + 0x10000 * t + 0x1000 * k
def MAC_WD_RECOVER_MS (t k : Nat) : Field := ⟨MAC_WD t k, 23, 16⟩
def MAC_WD_WD_MS (t k : Nat) : Field := ⟨MAC_WD t k, 15, 8⟩
def MAC_WD_ACTION (t k : Nat) : Field := ⟨MAC_WD t k, 0, 0⟩
/-- MAC_MC_HASH (R153). -/
def MAC_MC_HASH (t k w : Nat) : Nat := 0x804400 + 0x10000 * t + 0x1000 * k + 0x4 * w
def MAC_MC_HASH_BITS (t k w : Nat) : Field := ⟨MAC_MC_HASH t k w, 31, 0⟩
/-- MAC_STAT (R155). -/
def MAC_STAT (t k i : Nat) : Nat := 0x804800 + 0x10000 * t + 0x1000 * k + 0x8 * i
def MAC_STAT_COUNT (t k i : Nat) : Field := ⟨MAC_STAT t k i, 63, 0⟩
/-- MAC_STAT_HC (R155). -/
def MAC_STAT_HC (t k i : Nat) : Nat := 0x804C00 + 0x10000 * t + 0x1000 * k + 0x8 * i
def MAC_STAT_HC_COUNT (t k i : Nat) : Field := ⟨MAC_STAT_HC t k i, 63, 0⟩
/-- MAC_GATHER_CFG (R154). -/
def MAC_GATHER_CFG (t : Nat) : Nat := 0x80C000 + 0x10000 * t
def MAC_GATHER_CFG_XOFF_BLK (t : Nat) : Field := ⟨MAC_GATHER_CFG t, 31, 16⟩
def MAC_GATHER_CFG_XON_BLK (t : Nat) : Field := ⟨MAC_GATHER_CFG t, 15, 0⟩
/-- MAC_GATHER_STATUS (R154). -/
def MAC_GATHER_STATUS (t : Nat) : Nat := 0x80C004 + 0x10000 * t
def MAC_GATHER_STATUS_PEAK_BLK (t : Nat) : Field := ⟨MAC_GATHER_STATUS t, 31, 16⟩
def MAC_GATHER_STATUS_USED_BLK (t : Nat) : Field := ⟨MAC_GATHER_STATUS t, 15, 0⟩
/-- PRS_CFG (R175). -/
def PRS_CFG (s : Nat) : Nat := 0xC00000 + 0x10000 * s
def PRS_CFG_TPID_X (s : Nat) : Field := ⟨PRS_CFG s, 31, 16⟩
def PRS_CFG_VXLAN_PORT2 (s : Nat) : Field := ⟨PRS_CFG s, 15, 0⟩
/-- PRS_OUTCOME_ACT (R175). -/
def PRS_OUTCOME_ACT (s : Nat) : Nat := 0xC00004 + 0x10000 * s
def PRS_OUTCOME_ACT_ACT (s : Nat) : Field := ⟨PRS_OUTCOME_ACT s, 31, 0⟩
/-- PRS_STAT (R176). -/
def PRS_STAT (s c : Nat) : Nat := 0xC00100 + 0x10000 * s + 0x8 * c
def PRS_STAT_COUNT (s c : Nat) : Field := ⟨PRS_STAT s c, 47, 0⟩
/-- CLS_BANK_MAP (R177). -/
def CLS_BANK_MAP (s : Nat) : Nat := 0xC01000 + 0x10000 * s
def CLS_BANK_MAP_MAP (s : Nat) : Field := ⟨CLS_BANK_MAP s, 31, 0⟩
/-- CLS_LOOKUP_CFG (R177). -/
def CLS_LOOKUP_CFG (s n : Nat) : Nat := 0xC01010 + 0x10000 * s + 0x4 * n
def CLS_LOOKUP_CFG_HDRSEL (s n : Nat) : Field := ⟨CLS_LOOKUP_CFG s n, 31, 31⟩
def CLS_LOOKUP_CFG_L_MPLS (s n : Nat) : Field := ⟨CLS_LOOKUP_CFG s n, 11, 9⟩
def CLS_LOOKUP_CFG_L_V6 (s n : Nat) : Field := ⟨CLS_LOOKUP_CFG s n, 8, 6⟩
def CLS_LOOKUP_CFG_L_V4 (s n : Nat) : Field := ⟨CLS_LOOKUP_CFG s n, 5, 3⟩
def CLS_LOOKUP_CFG_L_OTHER (s n : Nat) : Field := ⟨CLS_LOOKUP_CFG s n, 2, 0⟩
/-- CLS_IND_CTRL (R178). -/
def CLS_IND_CTRL (s : Nat) : Nat := 0xC01040 + 0x10000 * s
def CLS_IND_CTRL_STRIDE (s : Nat) : Field := ⟨CLS_IND_CTRL s, 2, 0⟩
/-- CLS_IND_ADDR (R178). -/
def CLS_IND_ADDR (s : Nat) : Nat := 0xC01044 + 0x10000 * s
def CLS_IND_ADDR_RULE (s : Nat) : Field := ⟨CLS_IND_ADDR s, 21, 6⟩
def CLS_IND_ADDR_WORD (s : Nat) : Field := ⟨CLS_IND_ADDR s, 5, 0⟩
/-- CLS_IND_DATA (R178). -/
def CLS_IND_DATA (s : Nat) : Nat := 0xC01048 + 0x10000 * s
def CLS_IND_DATA_DATA (s : Nat) : Field := ⟨CLS_IND_DATA s, 31, 0⟩
/-- CLS_STATUS (R179). -/
def CLS_STATUS (s : Nat) : Nat := 0xC0104C + 0x10000 * s
def CLS_STATUS_BAD_RULE (s : Nat) : Field := ⟨CLS_STATUS s, 31, 31⟩
def CLS_STATUS_ECC_ERR (s : Nat) : Field := ⟨CLS_STATUS s, 30, 30⟩
def CLS_STATUS_AUTO_INVAL (s : Nat) : Field := ⟨CLS_STATUS s, 29, 29⟩
def CLS_STATUS_ECC_RULE (s : Nat) : Field := ⟨CLS_STATUS s, 15, 0⟩
/-- CLS_PORT (R180). -/
def CLS_PORT (s j : Nat) : Nat := 0xC01100 + 0x10000 * s + 0x4 * j
def CLS_PORT_PORT_CLASS (s j : Nat) : Field := ⟨CLS_PORT s j, 31, 16⟩
def CLS_PORT_TRUST (s j : Nat) : Field := ⟨CLS_PORT s j, 15, 14⟩
def CLS_PORT_DSCP_MAP (s j : Nat) : Field := ⟨CLS_PORT s j, 13, 12⟩
def CLS_PORT_DEF_TC (s j : Nat) : Field := ⟨CLS_PORT s j, 11, 8⟩
/-- CLS_PORT_INT (R180). -/
def CLS_PORT_INT (j : Nat) : Nat := 0xC01180 + 0x4 * j
/-- CLS_PCP_MAP (R180). -/
def CLS_PCP_MAP (s j : Nat) : Nat := 0xC01200 + 0x10000 * s + 0x4 * j
def CLS_PCP_MAP_TC (s j : Nat) : Field := ⟨CLS_PCP_MAP s j, 31, 0⟩
/-- CLS_PCP_MAP_INT (R180). -/
def CLS_PCP_MAP_INT (j : Nat) : Nat := 0xC01280 + 0x4 * j
/-- CLS_DSCP_MAP (R181). -/
def CLS_DSCP_MAP (s m w : Nat) : Nat := 0xC01300 + 0x10000 * s + 0x20 * m + 0x4 * w
def CLS_DSCP_MAP_TC (s m w : Nat) : Field := ⟨CLS_DSCP_MAP s m w, 31, 0⟩
/-- MTR_PROF_CFG (R239). -/
def MTR_PROF_CFG (s n : Nat) : Nat := 0xC04000 + 0x10000 * s + 0x10 * n
def MTR_PROF_CFG_TYPE (s n : Nat) : Field := ⟨MTR_PROF_CFG s n, 31, 30⟩
def MTR_PROF_CFG_AWARE (s n : Nat) : Field := ⟨MTR_PROF_CFG s n, 29, 29⟩
def MTR_PROF_CFG_OVERHEAD (s n : Nat) : Field := ⟨MTR_PROF_CFG s n, 7, 0⟩
/-- MTR_PROF_ACT_G (R239). -/
def MTR_PROF_ACT_G (s n : Nat) : Nat := 0xC04004 + 0x10000 * s + 0x10 * n
def MTR_PROF_ACT_G_DROP (s n : Nat) : Field := ⟨MTR_PROF_ACT_G s n, 31, 31⟩
def MTR_PROF_ACT_G_DEI (s n : Nat) : Field := ⟨MTR_PROF_ACT_G s n, 30, 29⟩
def MTR_PROF_ACT_G_PCP_EN (s n : Nat) : Field := ⟨MTR_PROF_ACT_G s n, 28, 28⟩
def MTR_PROF_ACT_G_PCP (s n : Nat) : Field := ⟨MTR_PROF_ACT_G s n, 27, 25⟩
def MTR_PROF_ACT_G_DSCP_EN (s n : Nat) : Field := ⟨MTR_PROF_ACT_G s n, 24, 24⟩
def MTR_PROF_ACT_G_DSCP (s n : Nat) : Field := ⟨MTR_PROF_ACT_G s n, 23, 18⟩
/-- MTR_PROF_ACT_Y (R239). -/
def MTR_PROF_ACT_Y (s n : Nat) : Nat := 0xC04008 + 0x10000 * s + 0x10 * n
def MTR_PROF_ACT_Y_DROP (s n : Nat) : Field := ⟨MTR_PROF_ACT_Y s n, 31, 31⟩
def MTR_PROF_ACT_Y_DEI (s n : Nat) : Field := ⟨MTR_PROF_ACT_Y s n, 30, 29⟩
def MTR_PROF_ACT_Y_PCP_EN (s n : Nat) : Field := ⟨MTR_PROF_ACT_Y s n, 28, 28⟩
def MTR_PROF_ACT_Y_PCP (s n : Nat) : Field := ⟨MTR_PROF_ACT_Y s n, 27, 25⟩
def MTR_PROF_ACT_Y_DSCP_EN (s n : Nat) : Field := ⟨MTR_PROF_ACT_Y s n, 24, 24⟩
def MTR_PROF_ACT_Y_DSCP (s n : Nat) : Field := ⟨MTR_PROF_ACT_Y s n, 23, 18⟩
/-- MTR_PROF_ACT_R (R239). -/
def MTR_PROF_ACT_R (s n : Nat) : Nat := 0xC0400C + 0x10000 * s + 0x10 * n
def MTR_PROF_ACT_R_DROP (s n : Nat) : Field := ⟨MTR_PROF_ACT_R s n, 31, 31⟩
def MTR_PROF_ACT_R_DEI (s n : Nat) : Field := ⟨MTR_PROF_ACT_R s n, 30, 29⟩
def MTR_PROF_ACT_R_PCP_EN (s n : Nat) : Field := ⟨MTR_PROF_ACT_R s n, 28, 28⟩
def MTR_PROF_ACT_R_PCP (s n : Nat) : Field := ⟨MTR_PROF_ACT_R s n, 27, 25⟩
def MTR_PROF_ACT_R_DSCP_EN (s n : Nat) : Field := ⟨MTR_PROF_ACT_R s n, 24, 24⟩
def MTR_PROF_ACT_R_DSCP (s n : Nat) : Field := ⟨MTR_PROF_ACT_R s n, 23, 18⟩
/-- MTR_IND_CTRL (R240). -/
def MTR_IND_CTRL (s : Nat) : Nat := 0xC04400 + 0x10000 * s
def MTR_IND_CTRL_STRIDE (s : Nat) : Field := ⟨MTR_IND_CTRL s, 2, 0⟩
/-- MTR_IND_ADDR (R240). -/
def MTR_IND_ADDR (s : Nat) : Nat := 0xC04404 + 0x10000 * s
def MTR_IND_ADDR_METER (s : Nat) : Field := ⟨MTR_IND_ADDR s, 18, 5⟩
def MTR_IND_ADDR_WORD (s : Nat) : Field := ⟨MTR_IND_ADDR s, 4, 0⟩
/-- MTR_IND_DATA (R240). -/
def MTR_IND_DATA (s : Nat) : Nat := 0xC04408 + 0x10000 * s
def MTR_IND_DATA_DATA (s : Nat) : Field := ⟨MTR_IND_DATA s, 31, 0⟩
/-- MTR_STATUS (R241). -/
def MTR_STATUS (s : Nat) : Nat := 0xC0440C + 0x10000 * s
def MTR_STATUS_OVERRIDE_LOST (s : Nat) : Field := ⟨MTR_STATUS s, 31, 31⟩
def MTR_STATUS_ECC_ERR (s : Nat) : Field := ⟨MTR_STATUS s, 30, 30⟩
def MTR_STATUS_ECC_METER (s : Nat) : Field := ⟨MTR_STATUS s, 13, 0⟩
/-- MTR_STAT (R243). -/
def MTR_STAT (s i : Nat) : Nat := 0xC04500 + 0x10000 * s + 0x8 * i
def MTR_STAT_COUNT (s i : Nat) : Field := ⟨MTR_STAT s i, 47, 0⟩
/-- MTR_STAT_HC (R243). -/
def MTR_STAT_HC (s i : Nat) : Nat := 0xC04580 + 0x10000 * s + 0x8 * i
def MTR_STAT_HC_COUNT (s i : Nat) : Field := ⟨MTR_STAT_HC s i, 47, 0⟩
/-- MTR_PORT (R242). -/
def MTR_PORT (s j : Nat) : Nat := 0xC04800 + 0x10000 * s + 0x4 * j
def MTR_PORT_PRECOLOUR (s j : Nat) : Field := ⟨MTR_PORT s j, 17, 16⟩
def MTR_PORT_PCP_COLOUR (s j : Nat) : Field := ⟨MTR_PORT s j, 15, 0⟩
/-- MTR_PORT_INT (R242). -/
def MTR_PORT_INT (j : Nat) : Nat := 0xC04880 + 0x4 * j
/-- REP_IND_CTRL (R298). -/
def REP_IND_CTRL (s : Nat) : Nat := 0xC05000 + 0x10000 * s
def REP_IND_CTRL_STRIDE (s : Nat) : Field := ⟨REP_IND_CTRL s, 2, 0⟩
/-- REP_IND_ADDR (R298). -/
def REP_IND_ADDR (s : Nat) : Nat := 0xC05004 + 0x10000 * s
def REP_IND_ADDR_ADDR (s : Nat) : Field := ⟨REP_IND_ADDR s, 19, 0⟩
/-- REP_IND_DATA (R298). -/
def REP_IND_DATA (s : Nat) : Nat := 0xC05008 + 0x10000 * s
def REP_IND_DATA_DATA (s : Nat) : Field := ⟨REP_IND_DATA s, 31, 0⟩
/-- REP_GRP_CMD (R299). -/
def REP_GRP_CMD (s : Nat) : Nat := 0xC05010 + 0x10000 * s
def REP_GRP_CMD_COMMIT (s : Nat) : Field := ⟨REP_GRP_CMD s, 31, 31⟩
def REP_GRP_CMD_GROUP (s : Nat) : Field := ⟨REP_GRP_CMD s, 15, 0⟩
/-- REP_GRP_STATE (R299). -/
def REP_GRP_STATE (s : Nat) : Nat := 0xC05014 + 0x10000 * s
def REP_GRP_STATE_CUR (s : Nat) : Field := ⟨REP_GRP_STATE s, 31, 31⟩
def REP_GRP_STATE_OLD_BUSY (s : Nat) : Field := ⟨REP_GRP_STATE s, 30, 30⟩
def REP_GRP_STATE_SEL (s : Nat) : Field := ⟨REP_GRP_STATE s, 15, 0⟩
/-- REP_STATUS (R299). -/
def REP_STATUS (s : Nat) : Nat := 0xC05018 + 0x10000 * s
def REP_STATUS_BAD_WRITE (s : Nat) : Field := ⟨REP_STATUS s, 31, 31⟩
/-- REP_STATS (R300). -/
def REP_STATS (s i : Nat) : Nat := 0xC05100 + 0x10000 * s + 0x8 * i
def REP_STATS_COUNT (s i : Nat) : Field := ⟨REP_STATS s i, 47, 0⟩
/-- REP_STATS_HC (R300). -/
def REP_STATS_HC (s i : Nat) : Nat := 0xC05180 + 0x10000 * s + 0x8 * i
def REP_STATS_HC_COUNT (s i : Nat) : Field := ⟨REP_STATS_HC s i, 47, 0⟩
/-- XBR_CFG (R294). -/
def XBR_CFG : Nat := 0xD00000
def XBR_CFG_ITER : Field := ⟨XBR_CFG, 1, 0⟩
/-- XBR_DEP_CFG (R294). -/
def XBR_DEP_CFG : Nat := 0xD00004
def XBR_DEP_CFG_DEP_Q : Field := ⟨XBR_DEP_CFG, 15, 8⟩
def XBR_DEP_CFG_DEP_MC : Field := ⟨XBR_DEP_CFG, 7, 0⟩
/-- XBR_STATUS (R295). -/
def XBR_STATUS : Nat := 0xD00008
def XBR_STATUS_PARITY : Field := ⟨XBR_STATUS, 31, 31⟩
def XBR_STATUS_PLANE : Field := ⟨XBR_STATUS, 9, 8⟩
def XBR_STATUS_OUTPUT : Field := ⟨XBR_STATUS, 5, 0⟩
/-- XBR_STAT (R297). -/
def XBR_STAT (i : Nat) : Nat := 0xD00100 + 0x8 * i
def XBR_STAT_COUNT (i : Nat) : Field := ⟨XBR_STAT i, 47, 0⟩
/-- XBR_STAT_HC (R297). -/
def XBR_STAT_HC (i : Nat) : Nat := 0xD00180 + 0x8 * i
def XBR_STAT_HC_COUNT (i : Nat) : Field := ⟨XBR_STAT_HC i, 47, 0⟩
/-- XBR_DEP_USED (R296). -/
def XBR_DEP_USED (t : Nat) : Nat := 0xD00400 + 0x4 * t
def XBR_DEP_USED_RESERVED (t : Nat) : Field := ⟨XBR_DEP_USED t, 26, 16⟩
def XBR_DEP_USED_HELD (t : Nat) : Field := ⟨XBR_DEP_USED t, 10, 0⟩
/-- MIR_SESSION_W0 (R301). -/
def MIR_SESSION_W0 (n : Nat) : Nat := 0xD04000 + 0x80 * n
def MIR_SESSION_W0_KIND (n : Nat) : Field := ⟨MIR_SESSION_W0 n, 31, 30⟩
def MIR_SESSION_W0_DEST (n : Nat) : Field := ⟨MIR_SESSION_W0 n, 29, 20⟩
def MIR_SESSION_W0_QUEUE (n : Nat) : Field := ⟨MIR_SESSION_W0 n, 19, 16⟩
def MIR_SESSION_W0_COLOUR (n : Nat) : Field := ⟨MIR_SESSION_W0 n, 15, 14⟩
def MIR_SESSION_W0_SAMPLE (n : Nat) : Field := ⟨MIR_SESSION_W0 n, 13, 10⟩
def MIR_SESSION_W0_TRUNC (n : Nat) : Field := ⟨MIR_SESSION_W0 n, 9, 2⟩
/-- MIR_SESSION_W1 (R301). -/
def MIR_SESSION_W1 (n : Nat) : Nat := 0xD04004 + 0x80 * n
def MIR_SESSION_W1_TPL_LEN (n : Nat) : Field := ⟨MIR_SESSION_W1 n, 31, 25⟩
def MIR_SESSION_W1_IP4_FIX (n : Nat) : Field := ⟨MIR_SESSION_W1 n, 24, 24⟩
def MIR_SESSION_W1_IP6_FIX (n : Nat) : Field := ⟨MIR_SESSION_W1 n, 23, 23⟩
def MIR_SESSION_W1_UDP_FIX (n : Nat) : Field := ⟨MIR_SESSION_W1 n, 22, 22⟩
def MIR_SESSION_W1_IP_OFF (n : Nat) : Field := ⟨MIR_SESSION_W1 n, 21, 16⟩
def MIR_SESSION_W1_UDP_OFF (n : Nat) : Field := ⟨MIR_SESSION_W1 n, 15, 10⟩
/-- MIR_SESSION_RSV (R301). -/
def MIR_SESSION_RSV (n w : Nat) : Nat := 0xD04008 + 0x80 * n + 0x4 * w
def MIR_SESSION_RSV_RSV (n w : Nat) : Field := ⟨MIR_SESSION_RSV n w, 31, 0⟩
/-- MIR_SESSION_TPL (R301). -/
def MIR_SESSION_TPL (n w : Nat) : Nat := 0xD04040 + 0x80 * n + 0x4 * w
def MIR_SESSION_TPL_TEMPLATE (n w : Nat) : Field := ⟨MIR_SESSION_TPL n w, 31, 0⟩
/-- MIR_PORT (R302). -/
def MIR_PORT (p : Nat) : Nat := 0xD06000 + 0x4 * p
def MIR_PORT_ING_EN (p : Nat) : Field := ⟨MIR_PORT p, 31, 31⟩
def MIR_PORT_ING_SESSION (p : Nat) : Field := ⟨MIR_PORT p, 30, 27⟩
def MIR_PORT_EGR_EN (p : Nat) : Field := ⟨MIR_PORT p, 26, 26⟩
def MIR_PORT_EGR_SESSION (p : Nat) : Field := ⟨MIR_PORT p, 25, 22⟩
/-- MIR_STAT (R303). -/
def MIR_STAT (n i : Nat) : Nat := 0xD07000 + 0x20 * n + 0x8 * i
def MIR_STAT_COUNT (n i : Nat) : Field := ⟨MIR_STAT n i, 47, 0⟩
/-- MIR_STAT_HC (R303). -/
def MIR_STAT_HC (n i : Nat) : Nat := 0xD07400 + 0x20 * n + 0x8 * i
def MIR_STAT_HC_COUNT (n i : Nat) : Field := ⟨MIR_STAT_HC n i, 47, 0⟩
/-- BUF_CFG (R265). -/
def BUF_CFG : Nat := 0xD80000
def BUF_CFG_CTRL_RESV : Field := ⟨BUF_CFG, 16, 0⟩
/-- BUF_SPILL_CFG (R265). -/
def BUF_SPILL_CFG : Nat := 0xD80004
def BUF_SPILL_CFG_RB_LO : Field := ⟨BUF_SPILL_CFG, 15, 0⟩
/-- BUF_MC_CFG (R265). -/
def BUF_MC_CFG : Nat := 0xD80008
def BUF_MC_CFG_ALPHA : Field := ⟨BUF_MC_CFG, 31, 28⟩
/-- BUF_STATUS (R266). -/
def BUF_STATUS : Nat := 0xD80010
def BUF_STATUS_RESV_OVERCOMMIT : Field := ⟨BUF_STATUS, 31, 31⟩
def BUF_STATUS_OVC_DEEP : Field := ⟨BUF_STATUS, 30, 30⟩
def BUF_STATUS_OVC_SEEN : Field := ⟨BUF_STATUS, 29, 29⟩
def BUF_STATUS_DOUBLE_FREE : Field := ⟨BUF_STATUS, 28, 28⟩
def BUF_STATUS_RECALC : Field := ⟨BUF_STATUS, 27, 27⟩
def BUF_STATUS_SPILL_BUSY_SEEN : Field := ⟨BUF_STATUS, 26, 26⟩
def BUF_STATUS_DFREE_STITCH : Field := ⟨BUF_STATUS, 19, 0⟩
/-- BUF_SKEIN_EFF (R267). -/
def BUF_SKEIN_EFF : Nat := 0xD80020
def BUF_SKEIN_EFF_STITCHES : Field := ⟨BUF_SKEIN_EFF, 19, 0⟩
/-- BUF_PHYS_FREE (R267). -/
def BUF_PHYS_FREE : Nat := 0xD80024
def BUF_PHYS_FREE_STITCHES : Field := ⟨BUF_PHYS_FREE, 19, 0⟩
/-- BUF_SHARED_FREE (R267). -/
def BUF_SHARED_FREE : Nat := 0xD80028
def BUF_SHARED_FREE_F0 : Field := ⟨BUF_SHARED_FREE, 19, 0⟩
/-- BUF_CTRL_USED (R267). -/
def BUF_CTRL_USED : Nat := 0xD8002C
def BUF_CTRL_USED_STITCHES : Field := ⟨BUF_CTRL_USED, 16, 0⟩
/-- BUF_DEEP_EFF (R267). -/
def BUF_DEEP_EFF : Nat := 0xD80030
def BUF_DEEP_EFF_UNITS : Field := ⟨BUF_DEEP_EFF, 16, 0⟩
/-- BUF_DEEP_FREE (R267). -/
def BUF_DEEP_FREE : Nat := 0xD80034
def BUF_DEEP_FREE_F1 : Field := ⟨BUF_DEEP_FREE, 28, 0⟩
/-- BUF_DFREE_CNT (R267). -/
def BUF_DFREE_CNT : Nat := 0xD80038
def BUF_DFREE_CNT_COUNT : Field := ⟨BUF_DFREE_CNT, 31, 0⟩
/-- BUF_DMIR_CFG (R268). -/
def BUF_DMIR_CFG : Nat := 0xD80040
def BUF_DMIR_CFG_EN : Field := ⟨BUF_DMIR_CFG, 31, 31⟩
def BUF_DMIR_CFG_RATE : Field := ⟨BUF_DMIR_CFG, 15, 0⟩
/-- BUF_DMIR_MASK0 (R268). -/
def BUF_DMIR_MASK0 : Nat := 0xD80044
def BUF_DMIR_MASK0_REASONS : Field := ⟨BUF_DMIR_MASK0, 31, 0⟩
/-- BUF_DMIR_MASK1 (R268). -/
def BUF_DMIR_MASK1 : Nat := 0xD80048
def BUF_DMIR_MASK1_REASONS : Field := ⟨BUF_DMIR_MASK1, 15, 0⟩
/-- BUF_DMIR_SKIP (R268). -/
def BUF_DMIR_SKIP : Nat := 0xD8004C
def BUF_DMIR_SKIP_COUNT : Field := ⟨BUF_DMIR_SKIP, 31, 0⟩
/-- BUF_MC_USED (R269). -/
def BUF_MC_USED (s : Nat) : Nat := 0xD80100 + 0x4 * s
def BUF_MC_USED_STITCHES (s : Nat) : Field := ⟨BUF_MC_USED s, 19, 0⟩
/-- BUF_IND_CTRL (R270). -/
def BUF_IND_CTRL : Nat := 0xD80200
def BUF_IND_CTRL_STRIDE : Field := ⟨BUF_IND_CTRL, 2, 0⟩
/-- BUF_IND_ADDR (R270). -/
def BUF_IND_ADDR : Nat := 0xD80204
def BUF_IND_ADDR_QUEUE : Field := ⟨BUF_IND_ADDR, 17, 4⟩
def BUF_IND_ADDR_WORD : Field := ⟨BUF_IND_ADDR, 3, 0⟩
/-- BUF_IND_DATA (R270). -/
def BUF_IND_DATA : Nat := 0xD80208
def BUF_IND_DATA_DATA : Field := ⟨BUF_IND_DATA, 31, 0⟩
/-- BUF_CULLET_SLC (R272). -/
def BUF_CULLET_SLC (s r : Nat) : Nat := 0xD82000 + 0x180 * s + 0x8 * r
def BUF_CULLET_SLC_COUNT (s r : Nat) : Field := ⟨BUF_CULLET_SLC s r, 47, 0⟩
/-- BUF_CULLET_SLC_HC (R272). -/
def BUF_CULLET_SLC_HC (s r : Nat) : Nat := 0xD84000 + 0x180 * s + 0x8 * r
def BUF_CULLET_SLC_HC_COUNT (s r : Nat) : Field := ⟨BUF_CULLET_SLC_HC s r, 47, 0⟩
/-- BUF_CULLET_PORT_HC (R272). -/
def BUF_CULLET_PORT_HC (p r : Nat) : Nat := 0xD88000 + 0x180 * p + 0x8 * r
def BUF_CULLET_PORT_HC_COUNT (p r : Nat) : Field := ⟨BUF_CULLET_PORT_HC p r, 47, 0⟩
/-- BUF_CULLET_PORT (R272). -/
def BUF_CULLET_PORT (p r : Nat) : Nat := 0xDC0000 + 0x180 * p + 0x8 * r
def BUF_CULLET_PORT_COUNT (p r : Nat) : Field := ⟨BUF_CULLET_PORT p r, 47, 0⟩
/-- EGR_PORT_CFG (R320). -/
def EGR_PORT_CFG (p : Nat) : Nat := 0xE00000 + 0x400 * p
def EGR_PORT_CFG_GMODE (p : Nat) : Field := ⟨EGR_PORT_CFG p, 11, 8⟩
def EGR_PORT_CFG_LVL (p : Nat) : Field := ⟨EGR_PORT_CFG p, 7, 0⟩
/-- EGR_GRP_WT (R320). -/
def EGR_GRP_WT (p : Nat) : Nat := 0xE00004 + 0x400 * p
def EGR_GRP_WT_WT (p : Nat) : Field := ⟨EGR_GRP_WT p, 31, 0⟩
/-- EGR_Q_WT (R321). -/
def EGR_Q_WT (p g : Nat) : Nat := 0xE00010 + 0x400 * p + 0x4 * g
def EGR_Q_WT_WT (p g : Nat) : Field := ⟨EGR_Q_WT p g, 31, 0⟩
/-- SHP_RATE (R322). -/
def SHP_RATE (p n : Nat) : Nat := 0xE00100 + 0x400 * p + 0x8 * n
def SHP_RATE_EN (p n : Nat) : Field := ⟨SHP_RATE p n, 31, 31⟩
def SHP_RATE_RATE (p n : Nat) : Field := ⟨SHP_RATE p n, 27, 0⟩
/-- SHP_BURST (R322). -/
def SHP_BURST (p n : Nat) : Nat := 0xE00104 + 0x400 * p + 0x8 * n
def SHP_BURST_OVERHEAD (p n : Nat) : Field := ⟨SHP_BURST p n, 31, 24⟩
def SHP_BURST_BURST (p n : Nat) : Field := ⟨SHP_BURST p n, 23, 0⟩
/-- SHP_TOK (R323). -/
def SHP_TOK (p n : Nat) : Nat := 0xE00200 + 0x400 * p + 0x4 * n
def SHP_TOK_TOKENS (p n : Nat) : Field := ⟨SHP_TOK p n, 31, 0⟩
/-- EGR_PFC_THR (R324). -/
def EGR_PFC_THR (p k : Nat) : Nat := 0xE00300 + 0x400 * p + 0x4 * k
def EGR_PFC_THR_XOFF_ST (p k : Nat) : Field := ⟨EGR_PFC_THR p k, 31, 16⟩
def EGR_PFC_THR_XON_ST (p k : Nat) : Field := ⟨EGR_PFC_THR p k, 15, 0⟩
/-- EGR_PFC_HELD (R324). -/
def EGR_PFC_HELD (p k : Nat) : Nat := 0xE00340 + 0x400 * p + 0x4 * k
def EGR_PFC_HELD_HELD (p k : Nat) : Field := ⟨EGR_PFC_HELD p k, 19, 0⟩
/-- EGR_PORT_STATUS (R325). -/
def EGR_PORT_STATUS (p : Nat) : Nat := 0xE003C0 + 0x400 * p
def EGR_PORT_STATUS_PAUSED (p : Nat) : Field := ⟨EGR_PORT_STATUS p, 31, 16⟩
def EGR_PORT_STATUS_SHAPED (p : Nat) : Field := ⟨EGR_PORT_STATUS p, 15, 0⟩
/-- EGR_PORT_MAP (R325). -/
def EGR_PORT_MAP (p : Nat) : Nat := 0xE003C4 + 0x400 * p
def EGR_PORT_MAP_BOUND (p : Nat) : Field := ⟨EGR_PORT_MAP p, 31, 31⟩
def EGR_PORT_MAP_PHYS (p : Nat) : Field := ⟨EGR_PORT_MAP p, 9, 0⟩
/-- EGR_STAT (R326). -/
def EGR_STAT (i : Nat) : Nat := 0xEC0100 + 0x8 * i
def EGR_STAT_COUNT (i : Nat) : Field := ⟨EGR_STAT i, 47, 0⟩
/-- EGR_STAT_HC (R326). -/
def EGR_STAT_HC (i : Nat) : Nat := 0xEC0180 + 0x8 * i
def EGR_STAT_HC_COUNT (i : Nat) : Field := ⟨EGR_STAT_HC i, 47, 0⟩
/-- JFL_CFG (R353). -/
def JFL_CFG : Nat := 0xF00000
def JFL_CFG_HOP_INIT : Field := ⟨JFL_CFG, 29, 24⟩
def JFL_CFG_DOMAIN : Field := ⟨JFL_CFG, 23, 12⟩
def JFL_CFG_DEVID : Field := ⟨JFL_CFG, 11, 0⟩
/-- JFL_STATUS (R353). -/
def JFL_STATUS : Nat := 0xF00004
def JFL_STATUS_DUP_ID : Field := ⟨JFL_STATUS, 31, 31⟩
def JFL_STATUS_DUP_SEEN : Field := ⟨JFL_STATUS, 30, 30⟩
def JFL_STATUS_DOMAIN_MISMATCH : Field := ⟨JFL_STATUS, 29, 29⟩
def JFL_STATUS_OS_UNKNOWN : Field := ⟨JFL_STATUS, 28, 28⟩
def JFL_STATUS_PORT : Field := ⟨JFL_STATUS, 9, 0⟩
/-- JFL_MGMT_CFG (R354). -/
def JFL_MGMT_CFG : Nat := 0xF00008
def JFL_MGMT_CFG_EN : Field := ⟨JFL_MGMT_CFG, 31, 31⟩
def JFL_MGMT_CFG_WRITE_EN : Field := ⟨JFL_MGMT_CFG, 30, 30⟩
def JFL_MGMT_CFG_ANY_SRC : Field := ⟨JFL_MGMT_CFG, 29, 29⟩
def JFL_MGMT_CFG_SRC_DEV : Field := ⟨JFL_MGMT_CFG, 11, 0⟩
/-- JFL_MGMT_STATUS (R354). -/
def JFL_MGMT_STATUS : Nat := 0xF0000C
def JFL_MGMT_STATUS_REQUESTS : Field := ⟨JFL_MGMT_STATUS, 31, 16⟩
def JFL_MGMT_STATUS_REFUSED : Field := ⟨JFL_MGMT_STATUS, 15, 0⟩
/-- JFL_IND_CTRL (R358). -/
def JFL_IND_CTRL : Nat := 0xF00040
def JFL_IND_CTRL_STRIDE : Field := ⟨JFL_IND_CTRL, 2, 0⟩
/-- JFL_IND_ADDR (R358). -/
def JFL_IND_ADDR : Nat := 0xF00044
def JFL_IND_ADDR_ADDR : Field := ⟨JFL_IND_ADDR, 13, 0⟩
/-- JFL_IND_DATA (R358). -/
def JFL_IND_DATA : Nat := 0xF00048
def JFL_IND_DATA_DATA : Field := ⟨JFL_IND_DATA, 31, 0⟩
/-- JFL_STAT (R360). -/
def JFL_STAT (i : Nat) : Nat := 0xF00100 + 0x8 * i
def JFL_STAT_COUNT (i : Nat) : Field := ⟨JFL_STAT i, 47, 0⟩
/-- JFL_STAT_HC (R360). -/
def JFL_STAT_HC (i : Nat) : Nat := 0xF00180 + 0x8 * i
def JFL_STAT_HC_COUNT (i : Nat) : Field := ⟨JFL_STAT_HC i, 47, 0⟩
/-- JFL_DESC_USED (R359). -/
def JFL_DESC_USED (s : Nat) : Nat := 0xF00200 + 0x4 * s
def JFL_DESC_USED_USED (s : Nat) : Field := ⟨JFL_DESC_USED s, 16, 0⟩
/-- JFL_TRUNK_CFG (R355). -/
def JFL_TRUNK_CFG (t : Nat) : Nat := 0xF02000 + 0x10 * t
def JFL_TRUNK_CFG_EN (t : Nat) : Field := ⟨JFL_TRUNK_CFG t, 31, 31⟩
def JFL_TRUNK_CFG_SLICE (t : Nat) : Field := ⟨JFL_TRUNK_CFG t, 30, 27⟩
def JFL_TRUNK_CFG_WINDOW_US (t : Nat) : Field := ⟨JFL_TRUNK_CFG t, 10, 0⟩
/-- JFL_TRUNK_MEMBERS (R355). -/
def JFL_TRUNK_MEMBERS (t : Nat) : Nat := 0xF02004 + 0x10 * t
def JFL_TRUNK_MEMBERS_PORTS (t : Nat) : Field := ⟨JFL_TRUNK_MEMBERS t, 31, 0⟩
/-- JFL_TRUNK_STATUS (R355). -/
def JFL_TRUNK_STATUS (t : Nat) : Nat := 0xF02008 + 0x10 * t
def JFL_TRUNK_STATUS_TX_EPOCH (t : Nat) : Field := ⟨JFL_TRUNK_STATUS t, 31, 30⟩
def JFL_TRUNK_STATUS_RX_EPOCH (t : Nat) : Field := ⟨JFL_TRUNK_STATUS t, 29, 28⟩
def JFL_TRUNK_STATUS_CHANGING (t : Nat) : Field := ⟨JFL_TRUNK_STATUS t, 27, 27⟩
def JFL_TRUNK_STATUS_USABLE (t : Nat) : Field := ⟨JFL_TRUNK_STATUS t, 5, 0⟩
/-- JFL_ROUTE (R356). -/
def JFL_ROUTE (d : Nat) : Nat := 0xF08000 + 0x4 * d
def JFL_ROUTE_VALID (d : Nat) : Field := ⟨JFL_ROUTE d, 31, 31⟩
def JFL_ROUTE_LPORT (d : Nat) : Field := ⟨JFL_ROUTE d, 9, 0⟩
/-- JFL_CRED (R357). -/
def JFL_CRED (p k : Nat) : Nat := 0xF10000 + 0x40 * p + 0x4 * k
def JFL_CRED_AVAIL (p k : Nat) : Field := ⟨JFL_CRED p k, 31, 16⟩
def JFL_CRED_GRANT (p k : Nat) : Field := ⟨JFL_CRED p k, 11, 0⟩
/-- MRV_SEED (R212). -/
def MRV_SEED : Nat := 0x1000000
def MRV_SEED_SEED : Field := ⟨MRV_SEED, 31, 0⟩
/-- MRV_STATUS (R213). -/
def MRV_STATUS : Nat := 0x1000008
def MRV_STATUS_FULL : Field := ⟨MRV_STATUS, 31, 31⟩
def MRV_STATUS_ECC_ERR : Field := ⟨MRV_STATUS, 30, 30⟩
def MRV_STATUS_SEED_BUSY : Field := ⟨MRV_STATUS, 29, 29⟩
def MRV_STATUS_FLUSH_BUSY : Field := ⟨MRV_STATUS, 28, 28⟩
def MRV_STATUS_AUDIT_STALL : Field := ⟨MRV_STATUS, 27, 27⟩
def MRV_STATUS_AGE_DEFERRED : Field := ⟨MRV_STATUS, 26, 26⟩
def MRV_STATUS_ECC_ENTRY : Field := ⟨MRV_STATUS, 20, 0⟩
/-- MRV_AGE_CFG (R215). -/
def MRV_AGE_CFG : Nat := 0x1000010
def MRV_AGE_CFG_TICK_MS : Field := ⟨MRV_AGE_CFG, 31, 16⟩
def MRV_AGE_CFG_LIMIT : Field := ⟨MRV_AGE_CFG, 14, 0⟩
/-- MRV_AGE_NOW (R215). -/
def MRV_AGE_NOW : Nat := 0x1000014
def MRV_AGE_NOW_NOW : Field := ⟨MRV_AGE_NOW, 15, 0⟩
/-- MRV_LEARN_CFG (R216). -/
def MRV_LEARN_CFG : Nat := 0x1000018
def MRV_LEARN_CFG_DEST : Field := ⟨MRV_LEARN_CFG, 31, 30⟩
def MRV_LEARN_CFG_TTL_MS : Field := ⟨MRV_LEARN_CFG, 29, 20⟩
def MRV_LEARN_CFG_RATE : Field := ⟨MRV_LEARN_CFG, 19, 4⟩
def MRV_LEARN_CFG_BURST_K : Field := ⟨MRV_LEARN_CFG, 3, 0⟩
/-- MRV_TSEQ (R217). -/
def MRV_TSEQ : Nat := 0x100001C
def MRV_TSEQ_TSEQ : Field := ⟨MRV_TSEQ, 31, 0⟩
/-- MRV_OCC (R217). -/
def MRV_OCC : Nat := 0x1000020
def MRV_OCC_USED : Field := ⟨MRV_OCC, 20, 0⟩
/-- MRV_OVF_OCC (R217). -/
def MRV_OVF_OCC : Nat := 0x1000024
def MRV_OVF_OCC_USED : Field := ⟨MRV_OVF_OCC, 13, 0⟩
/-- MRV_SCRUB (R217). -/
def MRV_SCRUB : Nat := 0x1000028
def MRV_SCRUB_EN : Field := ⟨MRV_SCRUB, 31, 31⟩
def MRV_SCRUB_PASSES : Field := ⟨MRV_SCRUB, 15, 0⟩
/-- MRV_IND_CTRL (R214). -/
def MRV_IND_CTRL : Nat := 0x1000040
def MRV_IND_CTRL_STRIDE : Field := ⟨MRV_IND_CTRL, 2, 0⟩
/-- MRV_IND_ADDR (R214). -/
def MRV_IND_ADDR : Nat := 0x1000044
def MRV_IND_ADDR_ENTRY : Field := ⟨MRV_IND_ADDR, 23, 3⟩
def MRV_IND_ADDR_WORD : Field := ⟨MRV_IND_ADDR, 2, 0⟩
/-- MRV_IND_DATA (R214). -/
def MRV_IND_DATA : Nat := 0x1000048
def MRV_IND_DATA_DATA : Field := ⟨MRV_IND_DATA, 31, 0⟩
/-- MRV_HASH_IN (R218). -/
def MRV_HASH_IN (w : Nat) : Nat := 0x1000080 + 0x4 * w
def MRV_HASH_IN_BYTES (w : Nat) : Field := ⟨MRV_HASH_IN w, 31, 0⟩
/-- MRV_HASH_OUT (R218). -/
def MRV_HASH_OUT : Nat := 0x10000A0
def MRV_HASH_OUT_HASH : Field := ⟨MRV_HASH_OUT, 31, 0⟩
/-- MRV_STAT (R219). -/
def MRV_STAT (i : Nat) : Nat := 0x1000100 + 0x8 * i
def MRV_STAT_COUNT (i : Nat) : Field := ⟨MRV_STAT i, 47, 0⟩
/-- MRV_STAT_HC (R219). -/
def MRV_STAT_HC (i : Nat) : Nat := 0x1000180 + 0x8 * i
def MRV_STAT_HC_COUNT (i : Nat) : Field := ⟨MRV_STAT_HC i, 47, 0⟩
/-- MRV_DIGEST (R220). -/
def MRV_DIGEST (r : Nat) : Nat := 0x1000200 + 0x8 * r
def MRV_DIGEST_TSEQ (r : Nat) : Field := ⟨MRV_DIGEST r, 63, 32⟩
def MRV_DIGEST_DIGEST (r : Nat) : Field := ⟨MRV_DIGEST r, 31, 0⟩
/-- MRV_PORT (R221). -/
def MRV_PORT (p : Nat) : Nat := 0x1001000 + 0x4 * p
def MRV_PORT_LEARN_EN (p : Nat) : Field := ⟨MRV_PORT p, 31, 31⟩
def MRV_PORT_L3_EN (p : Nat) : Field := ⟨MRV_PORT p, 30, 30⟩
def MRV_PORT_L3_MISS_TRAP (p : Nat) : Field := ⟨MRV_PORT p, 29, 29⟩
def MRV_PORT_VRF (p : Nat) : Field := ⟨MRV_PORT p, 23, 12⟩
def MRV_PORT_PVID (p : Nat) : Field := ⟨MRV_PORT p, 11, 0⟩
/-- MRV_VLAN (R222). -/
def MRV_VLAN (v : Nat) : Nat := 0x1004000 + 0x4 * v
def MRV_VLAN_LEARN_EN (v : Nat) : Field := ⟨MRV_VLAN v, 31, 31⟩
def MRV_VLAN_FLOOD_EN (v : Nat) : Field := ⟨MRV_VLAN v, 30, 30⟩
def MRV_VLAN_FID (v : Nat) : Field := ⟨MRV_VLAN v, 27, 16⟩
def MRV_VLAN_FLOOD_GROUP (v : Nat) : Field := ⟨MRV_VLAN v, 15, 0⟩
end Reg

/-- The registers of the GLB block. -/
def rowsGLB : List RegRow := [
  ⟨0x0, [], false, 0x0, 0x0, 0x0, 0x0, 0x0, 0x0, 0x0, .aon, fun _ _ _ => 0x7512B000 + (Config.fuseGrade)⟩ ,
  ⟨0x8, [], true, 0x0, 0x0, 0x0, 0x0, 0x0, 0x0, 0x0, .aon, fun _ _ _ => (Config.fuseSerial)⟩ ,
  ⟨0x10, [], false, 0xFFFFFFFF, 0x0, 0x0, 0x0, 0x0, 0x0, 0x0, .aon, fun _ _ _ => 0x0⟩ ,
  ⟨0x20, [], false, 0x0, 0x0, 0x0, 0x0, 0x0, 0xF, 0x0, .aon, fun _ _ _ => 0x0⟩ ,
  ⟨0x28, [], false, 0x0, 0x0, 0x0, 0x0, 0x0, 0x800000FF, 0x0, .aon, fun _ _ _ => 0x0⟩ ,
  ⟨0x30, [], false, 0x0, 0x0, 0x0, 0x0, 0x0, 0x0, 0x0, .aon, fun _ _ _ => 0x0⟩ ,
  ⟨0x40, [], false, 0x0, 0x0, 0x0, 0x0, 0xFF, 0x0, 0x0, .aon, fun _ _ _ => 0x0⟩ ,
  ⟨0x44, [], false, 0x0, 0x0, 0x40000000, 0x0, 0x0, 0x0, 0x0, .aon, fun _ _ _ => 0x0⟩ ,
  ⟨0x48, [(0x4, 4)], false, 0x0, 0x0, 0x0, 0x0, 0x0, 0x0, 0x0, .aon, fun _ _ _ => 0x0⟩ ,
  ⟨0x60, [], false, 0x0, 0x0, 0x0, 0x0, 0x0, 0x0, 0x0, .aon, fun _ _ _ => 0x0⟩ ,
  ⟨0x64, [], false, 0x0, 0x0, 0xC0000000, 0x0, 0x0, 0x0, 0x0, .aon, fun _ _ _ => 0x0⟩ ,
  ⟨0x68, [], false, 0x0, 0x0, 0x80000000, 0x0, 0x0, 0x0, 0x0, .aon, fun _ _ _ => 0x0⟩ ,
  ⟨0x6C, [], false, 0x0, 0x0, 0x0, 0x0, 0x0, 0x0, 0x0, .aon, fun _ _ _ => 0x0⟩ ,
  ⟨0x100, [], false, 0x0, 0x0, 0x0, 0x0, 0x0, 0x0, 0x0, .aon, fun _ _ _ => 0xC000000⟩ ,
  ⟨0x108, [], false, 0x0, 0x0, 0x0, 0x0, 0x0, 0x13F, 0x0, .aon, fun _ _ _ => 0x0⟩ ,
  ⟨0x110, [], false, 0x0, 0x0, 0x0, 0x1, 0x0, 0x0, 0x0, .aon, fun _ _ _ => 0x0⟩ ,
  ⟨0x118, [], false, 0x0, 0x0, 0x0, 0x0, 0x0, 0x1, 0x0, .aon, fun _ _ _ => 0x0⟩ ,
  ⟨0x120, [], false, 0x0, 0x0, 0x0, 0x0, 0x0, 0x3, 0x0, .aon, fun _ _ _ => 0x0⟩ ,
  ⟨0x128, [], false, 0x0, 0x0, 0x0, 0x0, 0x0, 0x0, 0x0, .aon, fun _ _ _ => 0x0⟩ ,
  ⟨0x12C, [], false, 0x0, 0x0, 0x0, 0x0, 0x0, 0x0, 0x0, .aon, fun _ _ _ => 0x0⟩ ,
  ⟨0x130, [], false, 0x0, 0x0, 0x0, 0x0, 0x0, 0x0, 0x0, .aon, fun _ _ _ => 0x0⟩ ,
  ⟨0x8000, [(0x8, 8)], true, 0x0, 0x0, 0x0, 0x0, 0x0, 0x0, 0xFFFFFFFFFFFF, .aon, fun _ _ _ => 0x0⟩ ,
  ⟨0x8080, [(0x8, 8)], true, 0x0, 0x0, 0x0, 0x0, 0x0, 0x0, 0x0, .aon, fun _ _ _ => 0x0⟩ ]

/-- The registers of the AUD block. -/
def rowsAUD : List RegRow := [
  ⟨0x10000, [], false, 0x80000000, 0x0, 0x0, 0x0, 0x0, 0x0, 0x0, .aon, fun _ _ _ => 0x0⟩ ,
  ⟨0x10004, [], false, 0x0, 0x0, 0x20000000, 0x0, 0x0, 0x0, 0x0, .aon, fun _ _ _ => 0x0⟩ ,
  ⟨0x10008, [], false, 0x0, 0x0, 0x0, 0x0, 0x0, 0x0, 0x0, .aon, fun _ _ _ => 0x0⟩ ,
  ⟨0x1000C, [], false, 0x0, 0x0, 0x0, 0x0, 0x0, 0x0, 0x0, .aon, fun _ _ _ => 0x0⟩ ,
  ⟨0x10040, [], false, 0x7, 0x0, 0x0, 0x0, 0x0, 0x0, 0x0, .aon, fun _ _ _ => 0x0⟩ ,
  ⟨0x10044, [], false, 0x7FFFF, 0x0, 0x0, 0x0, 0x0, 0x0, 0x0, .aon, fun _ _ _ => 0x0⟩ ,
  ⟨0x10048, [], false, 0x0, 0x0, 0x0, 0x0, 0x0, 0x0, 0x0, .aon, fun _ _ _ => 0x0⟩ ,
  ⟨0x10100, [(0x8, 4)], true, 0x0, 0x0, 0x0, 0x0, 0x0, 0x0, 0xFFFFFFFFFFFF, .aon, fun _ _ _ => 0x0⟩ ,
  ⟨0x10200, [(0x4, 12)], false, 0xFFFFFFFF, 0x0, 0x0, 0x0, 0x0, 0x0, 0x0, .aon, fun _ _ _ => 0x0⟩ ,
  ⟨0x10240, [], false, 0x0, 0x0, 0x0, 0x0, 0x0, 0x3F, 0x0, .aon, fun _ _ _ => 0x0⟩ ,
  ⟨0x10248, [], false, 0x0, 0x0, 0x0, 0x0, 0x0, 0x0, 0x0, .aon, fun _ _ _ => (0)⟩ ]

/-- The registers of the PWR block. -/
def rowsPWR : List RegRow := [
  ⟨0x20000, [], false, 0x80000000, 0x0, 0x0, 0x0, 0x0, 0x0, 0x0, .aon, fun _ _ _ => 0x80000000⟩ ,
  ⟨0x20004, [], false, 0xFF, 0xFF00, 0x0, 0x0, 0x0, 0x0, 0x0, .aon, fun _ _ _ => 0x7864⟩ ,
  ⟨0x20008, [], false, 0x0, 0x0, 0x60000000, 0x0, 0x0, 0x0, 0x0, .aon, fun _ _ _ => 0x0⟩ ,
  ⟨0x20010, [(0x4, 4)], false, 0x0, 0x0, 0x0, 0x0, 0x0, 0x0, 0x0, .aon, fun _ _ _ => 0x0⟩ ,
  ⟨0x20020, [], false, 0x0, 0x0, 0x0, 0x0, 0x0, 0x0, 0x0, .aon, fun _ _ _ => 0x0⟩ ,
  ⟨0x20030, [], false, 0x0, 0x0, 0x40000000, 0x0, 0x0, 0x0, 0x0, .aon, fun _ _ _ => 0x320 + (Config.fuseAvsMv) * 0x400⟩ ]

/-- The registers of the SRV block. -/
def rowsSRV : List RegRow := [
  ⟨0x30000, [], false, 0x6303FFFF, 0x0, 0x0, 0x80000000, 0x0, 0x0, 0x0, .aon, fun _ _ _ => 0x60000000⟩ ,
  ⟨0x30004, [], false, 0x0, 0x0, 0x70000000, 0x0, 0x0, 0x0, 0x0, .aon, fun _ _ _ => 0x0⟩ ,
  ⟨0x30008, [], false, 0xFF, 0x0, 0x0, 0x0, 0x0, 0x0, 0x0, .aon, fun _ _ _ => 0xA0⟩ ,
  ⟨0x30100, [(0x8, 32)], false, 0x0, 0x0, 0x80000000, 0x0, 0x0, 0x0, 0x0, .aon, fun _ _ _ => 0x0⟩ ,
  ⟨0x30104, [(0x8, 32)], false, 0x0, 0xFFFFFFFF, 0x0, 0x0, 0x0, 0x0, 0x0, .aon, fun a _ _ => (railHi a) * 0x10000 + (railLo a)⟩ ,
  ⟨0x30200, [(0x4, 64)], false, 0x0, 0x0, 0x0, 0x0, 0x0, 0x0, 0x0, .aon, fun _ _ _ => 0x0⟩ ,
  ⟨0x30300, [], false, 0x0, 0x0, 0x0, 0x0, 0x0, 0x0, 0x0, .aon, fun _ _ _ => 0x0⟩ ,
  ⟨0x34000, [(0x8, 128)], true, 0x0, 0x0, 0x0, 0x0, 0x0, 0x0, 0x0, .aon, fun _ _ _ => 0x0⟩ ,
  ⟨0x38000, [(0x10, 512)], true, 0x0, 0x0, 0x0, 0x0, 0x0, 0x0, 0x0, .aon, fun _ _ _ => 0x0⟩ ,
  ⟨0x38008, [(0x10, 512)], true, 0x0, 0x0, 0x0, 0x0, 0x0, 0x0, 0x0, .aon, fun _ _ _ => 0x0⟩ ]

/-- The registers of the LDG block. -/
def rowsLDG : List RegRow := [
  ⟨0x40000, [], false, 0xFFFF, 0x0, 0x0, 0x0, 0x0, 0x0, 0x0, .aon, fun _ _ _ => 0x3C⟩ ,
  ⟨0x40004, [], false, 0x0, 0x0, 0x10000000, 0x0, 0x0, 0x0, 0x0, .aon, fun _ _ _ => 0x0⟩ ,
  ⟨0x40008, [], true, 0x0, 0x0, 0x0, 0x0, 0x0, 0x0, 0x0, .aon, fun _ _ _ => 0x0⟩ ,
  ⟨0x40010, [], false, 0x0, 0x0, 0x0, 0x0, 0x0, 0xFFFFFFFF, 0x0, .aon, fun _ _ _ => 0x0⟩ ,
  ⟨0x40018, [], false, 0x0, 0x0, 0x0, 0x80000000, 0x0, 0x0, 0x0, .aon, fun _ _ _ => 0x0⟩ ,
  ⟨0x40040, [], false, 0x7, 0x0, 0x0, 0x0, 0x0, 0x0, 0x0, .aon, fun _ _ _ => 0x0⟩ ,
  ⟨0x40044, [], false, 0xFFFFF, 0x0, 0x0, 0x0, 0x0, 0x0, 0x0, .aon, fun _ _ _ => 0x0⟩ ,
  ⟨0x40048, [], false, 0x0, 0x0, 0x0, 0x0, 0x0, 0x0, 0x0, .aon, fun _ _ _ => 0x0⟩ ]

/-- The registers of the PMC block. -/
def rowsPMC : List RegRow := [
  ⟨0x50000, [(0x4, 256)], false, 0xFFFFFF00, 0x0, 0x0, 0x0, 0x0, 0x0, 0x0, .core, fun _ _ _ => 0x0⟩ ,
  ⟨0x50400, [(0x4, 256)], false, 0xFFFFFFFF, 0x0, 0x0, 0x0, 0x0, 0x0, 0x0, .core, fun _ _ _ => 0x0⟩ ,
  ⟨0x50800, [(0x8, 256)], true, 0x0, 0x0, 0x0, 0x0, 0x0, 0x0, 0xFFFFFFFFFFFF, .core, fun _ _ _ => 0x0⟩ ,
  ⟨0x51000, [(0x8, 256)], true, 0x0, 0x0, 0x0, 0x0, 0x0, 0x0, 0x0, .core, fun _ _ _ => 0x0⟩ ,
  ⟨0x51800, [(0x4, 8)], false, 0x0, 0x0, 0xFFFFFFFF, 0x0, 0x0, 0x0, 0x0, .core, fun _ _ _ => 0x0⟩ ,
  ⟨0x52000, [(0x20, 4)], false, 0xFFFFC000, 0x0, 0x0, 0x0, 0x0, 0x0, 0x0, .core, fun _ _ _ => 0x10000⟩ ,
  ⟨0x52004, [(0x20, 4)], false, 0xFFFFFFFF, 0x0, 0x0, 0x0, 0x0, 0x0, 0x0, .core, fun _ _ _ => 0x3E8⟩ ,
  ⟨0x52008, [(0x20, 4)], true, 0xFFFFFFFFFFFFFF00, 0x0, 0x0, 0x0, 0x0, 0x0, 0x0, .core, fun _ _ _ => 0x0⟩ ,
  ⟨0x52010, [(0x20, 4)], false, 0x0, 0x0, 0x0, 0x0, 0x0, 0x0, 0x0, .core, fun _ _ _ => 0x0⟩ ,
  ⟨0x52014, [(0x20, 4)], false, 0xFFFF, 0x0, 0x0, 0x0, 0x0, 0x0, 0x0, .core, fun _ _ _ => 0x0⟩ ,
  ⟨0x52018, [(0x20, 4)], false, 0x0, 0x0, 0x0, 0x0, 0x0, 0x0, 0xFFFFFFFF, .core, fun _ _ _ => 0x0⟩ ]

/-- The registers of the TIM block. -/
def rowsTIM0 : List RegRow := [
  ⟨0x60000, [], false, 0xDFFFFFFF, 0x0, 0x0, 0x0, 0x0, 0x0, 0x0, .aon, fun _ _ _ => 0xA6407D0⟩ ,
  ⟨0x60004, [], false, 0x0, 0x0, 0x0, 0xC0000000, 0x0, 0x0, 0x0, .aon, fun _ _ _ => 0x0⟩ ,
  ⟨0x60008, [], false, 0x0, 0x0, 0x10000000, 0x0, 0x0, 0x0, 0x0, .aon, fun _ _ _ => 0x0⟩ ,
  ⟨0x60010, [], false, 0x0, 0x0, 0x0, 0x0, 0x0, 0x0, 0x0, .aon, fun _ _ _ => 0x0⟩ ,
  ⟨0x60014, [], false, 0x0, 0x0, 0x0, 0x0, 0x0, 0x0, 0x0, .aon, fun _ _ _ => 0x0⟩ ,
  ⟨0x60018, [], false, 0x0, 0x0, 0x0, 0x0, 0x0, 0x0, 0x0, .aon, fun _ _ _ => 0x0⟩ ,
  ⟨0x6001C, [], false, 0x0, 0x0, 0x0, 0x0, 0x0, 0x0, 0x0, .aon, fun _ _ _ => 0x0⟩ ,
  ⟨0x60020, [], false, 0xFFFF, 0x0, 0x0, 0x0, 0x0, 0x0, 0x0, .aon, fun _ _ _ => 0x0⟩ ,
  ⟨0x60024, [], false, 0x3FFFFFFF, 0x0, 0x0, 0x0, 0x0, 0x0, 0x0, .aon, fun _ _ _ => 0x0⟩ ,
  ⟨0x60028, [], false, 0xFFFFFFFF, 0x0, 0x0, 0x0, 0x0, 0x0, 0x0, .aon, fun _ _ _ => 0x0⟩ ,
  ⟨0x6002C, [], false, 0xFFFFFFFF, 0x0, 0x0, 0x0, 0x0, 0x0, 0x0, .aon, fun _ _ _ => 0x0⟩ ,
  ⟨0x60030, [], false, 0x0, 0x0, 0x0, 0x0, 0x0, 0x0, 0x0, .aon, fun _ _ _ => 0x0⟩ ,
  ⟨0x60034, [], false, 0x0, 0x0, 0x0, 0x0, 0x0, 0x0, 0x0, .aon, fun _ _ _ => 0x0⟩ ,
  ⟨0x60038, [], false, 0x0, 0x0, 0x0, 0x0, 0x0, 0x0, 0x0, .aon, fun _ _ _ => 0x0⟩ ,
  ⟨0x6003C, [], false, 0x0, 0x0, 0x0, 0x0, 0x0, 0x0, 0x0, .aon, fun _ _ _ => 0x0⟩ ,
  ⟨0x60040, [], true, 0xFFFFFFFFFFFF, 0x0, 0x0, 0x0, 0x0, 0x0, 0x0, .aon, fun _ _ _ => 0x0⟩ ,
  ⟨0x60048, [], false, 0x0, 0x0, 0x0, 0x0, 0x0, 0x0, 0x0, .aon, fun _ _ _ => 0x0⟩ ,
  ⟨0x6004C, [], false, 0x0, 0x0, 0x0, 0x0, 0x0, 0x0, 0x0, .aon, fun _ _ _ => 0x0⟩ ,
  ⟨0x60050, [], false, 0xFFFFFFFF, 0x0, 0x0, 0x0, 0x0, 0x0, 0x0, .aon, fun _ _ _ => 0x8000080⟩ ,
  ⟨0x60054, [], false, 0xFFFFFFFF, 0x0, 0x0, 0x0, 0x0, 0x0, 0x0, .aon, fun _ _ _ => 0x1000010⟩ ,
  ⟨0x60058, [], false, 0xFFFFFFFF, 0x0, 0x0, 0x0, 0x0, 0x0, 0x0, .aon, fun _ _ _ => 0x11064⟩ ,
  ⟨0x60060, [(0x4, 4)], false, 0x0, 0x0, 0x0, 0x0, 0x0, 0x0, 0x0, .aon, fun _ _ _ => 0x0⟩ ,
  ⟨0x60070, [], false, 0xFF80FFFF, 0x0, 0x0, 0x0, 0x0, 0x0, 0x0, .aon, fun _ _ _ => 0x32000000⟩ ,
  ⟨0x60074, [], false, 0xF800FFFF, 0x0, 0x0, 0x0, 0x0, 0x0, 0x0, .aon, fun _ _ _ => 0x18000025⟩ ]

def rowsTIM1 : List RegRow := [
  ⟨0x60078, [], false, 0x8000FFFF, 0x0, 0x0, 0x0, 0x0, 0x0, 0x0, .aon, fun _ _ _ => 0x0⟩ ,
  ⟨0x60080, [(0x4, 4)], false, 0x0, 0x0, 0x0, 0x0, 0x0, 0x0, 0x0, .aon, fun _ _ _ => 0x0⟩ ,
  ⟨0x60090, [(0x4, 2)], false, 0xC803FFFF, 0x0, 0x0, 0x0, 0x0, 0x0, 0x0, .aon, fun _ _ _ => 0x0⟩ ,
  ⟨0x60100, [(0x8, 8)], true, 0x0, 0x0, 0x0, 0x0, 0x0, 0x0, 0xFFFFFFFFFFFF, .aon, fun _ _ _ => 0x0⟩ ,
  ⟨0x60180, [(0x8, 8)], true, 0x0, 0x0, 0x0, 0x0, 0x0, 0x0, 0x0, .aon, fun _ _ _ => 0x0⟩ ,
  ⟨0x61000, [(0x8, 512)], false, 0xFFFFFFFF, 0x0, 0x0, 0x0, 0x0, 0x0, 0x0, .aon, fun _ _ _ => 0x0⟩ ,
  ⟨0x61004, [(0x8, 512)], false, 0xFFFFFFFF, 0x0, 0x0, 0x0, 0x0, 0x0, 0x0, .aon, fun _ _ _ => 0x0⟩ ]
def rowsTIM : List RegRow := rowsTIM0 ++ rowsTIM1

/-- The registers of the UNT block. -/
def rowsUNT : List RegRow := [
  ⟨0x70000, [], false, 0xC0FFFF00, 0x0, 0x0, 0x0, 0x0, 0x0, 0x0, .core, fun _ _ _ => 0xC0053200⟩ ,
  ⟨0x70004, [], false, 0x0, 0x0, 0x300000, 0x0, 0x0, 0x0, 0x0, .core, fun _ _ _ => (0) * 0x8000000 + (0) * 0x4000000⟩ ,
  ⟨0x70008, [], false, 0x0, 0x0, 0x0, 0x0, 0x0, 0xF, 0x0, .core, fun _ _ _ => 0x0⟩ ,
  ⟨0x70010, [], false, 0x0, 0x0, 0x10000000, 0x0, 0x0, 0x0, 0x0, .core, fun _ _ _ => 0x0⟩ ,
  ⟨0x70014, [], false, 0x0, 0x0, 0x0, 0x0, 0x0, 0x0, 0x0, .core, fun _ _ _ => 0x0⟩ ,
  ⟨0x70018, [], false, 0xFF, 0x0, 0x0, 0x0, 0x0, 0x0, 0x0, .core, fun _ _ _ => 0x0⟩ ,
  ⟨0x7001C, [], false, 0x0, 0x0, 0x0, 0x0, 0x0, 0x0, 0x0, .core, fun _ _ _ => 0x0⟩ ,
  ⟨0x70020, [], false, 0xFFFF007F, 0x0, 0x0, 0x0, 0x0, 0x0, 0x0, .core, fun _ _ _ => 0x32020003⟩ ,
  ⟨0x70024, [], false, 0x0, 0x0, 0x0, 0x0, 0x0, 0x0, 0x0, .core, fun _ _ _ => 0x0⟩ ,
  ⟨0x70028, [], false, 0x0, 0x0, 0x0, 0x0, 0x0, 0x0, 0x0, .core, fun _ _ _ => 0x0⟩ ,
  ⟨0x7002C, [], false, 0x0, 0x0, 0x0, 0x0, 0x0, 0x0, 0x0, .core, fun _ _ _ => 0x0⟩ ,
  ⟨0x70030, [], false, 0x0, 0x0, 0x0, 0x0, 0x0, 0x0, 0x0, .core, fun _ _ _ => 0x0⟩ ,
  ⟨0x70100, [(0x4, 16)], false, 0x0, 0x0, 0xFFFFFFFF, 0x0, 0x0, 0x0, 0x0, .core, fun _ _ _ => 0x0⟩ ,
  ⟨0x70140, [(0x4, 16)], false, 0x0, 0x0, 0x0, 0x0, 0x0, 0x0, 0x0, .core, fun _ _ _ => 0x0⟩ ,
  ⟨0x70200, [(0x8, 16)], true, 0x0, 0x0, 0x0, 0x0, 0x0, 0x0, 0xFFFFFFFFFFFF, .core, fun _ _ _ => 0x0⟩ ,
  ⟨0x70280, [(0x8, 16)], true, 0x0, 0x0, 0x0, 0x0, 0x0, 0x0, 0x0, .core, fun _ _ _ => 0x0⟩ ,
  ⟨0x71000, [(0x4, 512)], false, 0xC0000FFF, 0x0, 0x0, 0x0, 0x0, 0x0, 0x0, .core, fun _ _ _ => 0x0⟩ ,
  ⟨0x72000, [], false, 0xFFFF, 0x0, 0x0, 0x0, 0x0, 0x0, 0x0, .core, fun _ _ _ => 0x32⟩ ,
  ⟨0x72004, [], false, 0x0, 0x0, 0xC0000000, 0x0, 0x0, 0x0, 0x0, .core, fun _ _ _ => 0x0⟩ ,
  ⟨0x72008, [], false, 0x0, 0x0, 0x0, 0x0, 0x0, 0xFFF000F, 0x0, .core, fun _ _ _ => 0x0⟩ ,
  ⟨0x72100, [(0x8, 4)], true, 0x0, 0x0, 0x0, 0x0, 0x0, 0x0, 0xFFFFFFFFFFFF, .core, fun _ _ _ => 0x0⟩ ,
  ⟨0x72180, [(0x8, 4)], true, 0x0, 0x0, 0x0, 0x0, 0x0, 0x0, 0x0, .core, fun _ _ _ => 0x0⟩ ,
  ⟨0x78000, [(0x8, 4096)], false, 0xFFFFFFFF, 0x0, 0x0, 0x0, 0x0, 0x0, 0x0, .core, fun _ _ _ => 0x40000000⟩ ,
  ⟨0x78004, [(0x8, 4096)], false, 0xFFFF0000, 0x0, 0x0, 0x0, 0x0, 0x0, 0x0, .core, fun _ _ _ => 0x12C0000⟩ ]

/-- The registers of the HQ block. -/
def rowsHQ : List RegRow := [
  ⟨0x200000, [(0x1000, 512)], true, 0xFFFFFFFFFFFFFFC0, 0x0, 0x0, 0x0, 0x0, 0x0, 0x0, .pcie, fun _ _ _ => 0x0⟩ ,
  ⟨0x200008, [(0x1000, 512)], false, 0xFFFFE1FF, 0x0, 0x0, 0x0, 0x0, 0x0, 0x0, .pcie, fun _ _ _ => 0x20C8000⟩ ,
  ⟨0x200010, [(0x1000, 512)], false, 0xFFFF, 0x0, 0x0, 0x0, 0x0, 0x0, 0x0, .pcie, fun _ _ _ => 0x0⟩ ,
  ⟨0x200014, [(0x1000, 512)], false, 0x0, 0x0, 0x0, 0x0, 0x0, 0x0, 0x0, .pcie, fun _ _ _ => 0x0⟩ ,
  ⟨0x200020, [(0x1000, 512)], true, 0xFFFFFFFFFFFFFFC0, 0x0, 0x0, 0x0, 0x0, 0x0, 0x0, .pcie, fun _ _ _ => 0x0⟩ ,
  ⟨0x200028, [(0x1000, 512)], false, 0xFE3FF800, 0x0, 0x0, 0x0, 0x0, 0x0, 0x0, .pcie, fun _ _ _ => 0x8000000⟩ ,
  ⟨0x200030, [(0x1000, 512)], false, 0x8000FFFF, 0x0, 0x0, 0x0, 0x0, 0x0, 0x0, .pcie, fun _ _ _ => 0x80000000⟩ ,
  ⟨0x200034, [(0x1000, 512)], false, 0x0, 0x0, 0x0, 0x0, 0x0, 0x0, 0x0, .pcie, fun _ _ _ => 0x80000000⟩ ,
  ⟨0x200038, [(0x1000, 512)], false, 0xFFFFFFFF, 0x0, 0x0, 0x0, 0x0, 0x0, 0x0, .pcie, fun _ _ _ => 0x1⟩ ,
  ⟨0x200040, [(0x1000, 512)], false, 0x7F, 0x0, 0x0, 0x0, 0x0, 0x0, 0x0, .pcie, fun _ _ _ => 0x0⟩ ,
  ⟨0x200080, [(0x1000, 512), (0x8, 4)], true, 0x0, 0x0, 0x0, 0x0, 0x0, 0x0, 0xFFFFFFFFFFFF, .pcie, fun _ _ _ => 0x0⟩ ,
  ⟨0x200800, [], false, 0xC1FF01FF, 0x0, 0x0, 0x0, 0x0, 0x0, 0x0, .pcie, fun _ _ _ => 0x0⟩ ,
  ⟨0x200804, [], false, 0x0, 0x0, 0x0, 0x0, 0x0, 0x0, 0x0, .pcie, fun _ _ _ => 0x0⟩ ,
  ⟨0x200808, [], true, 0x0, 0x0, 0x0, 0x0, 0x0, 0x0, 0xFFFFFFFFFFFF, .pcie, fun _ _ _ => 0x0⟩ ,
  ⟨0x200900, [(0x4, 32)], false, 0xC00001FF, 0x0, 0x0, 0x0, 0x0, 0x0, 0x0, .pcie, fun _ _ _ => 0x0⟩ ,
  ⟨0x200A04, [(0x4, 63)], false, 0xC0000000, 0x0, 0x0, 0x0, 0x0, 0x0, 0x0, .pcie, fun _ _ _ => 0x0⟩ ]

/-- The registers of the DMA block. -/
def rowsDMA : List RegRow := [
  ⟨0x400100, [(0x4, 32)], false, 0xF00001FF, 0x0, 0x0, 0x0, 0x0, 0x0, 0x0, .pcie, fun a _ _ => (if a < 24 then 0 else 1) * 0x80000000 + (if a < 24 then 0 else 1) * 0x40000000 + (if a < 24 then 1 else if a < 27 then 2 else if a = 27 then 3 else 1) * 0x10000000⟩ ,
  ⟨0x400200, [(0x4, 64)], false, 0x8000001F, 0x0, 0x0, 0x0, 0x0, 0x0, 0x0, .pcie, fun a _ _ => (if a < 40 then 1 else 0) * 0x80000000 + (dmaLineChan a)⟩ ,
  ⟨0x400300, [(0x4, 32)], false, 0x0, 0x0, 0x0, 0x0, 0x0, 0x0, 0x0, .pcie, fun _ _ _ => 0x0⟩ ,
  ⟨0x401000, [(0x8, 6)], true, 0x0, 0x0, 0x0, 0x0, 0x0, 0x0, 0xFFFFFFFFFFFF, .pcie, fun _ _ _ => 0x0⟩ ]

/-- The registers of the POOL block. -/
def rowsPOOL : List RegRow := [
  ⟨0x410000, [(0x4, 4)], false, 0x0, 0x0, 0x0, 0x0, 0x0, 0x0, 0xFFFF0000, .pcie, fun a _ _ => (4096 / 4 ^ a)⟩ ,
  ⟨0x410010, [], false, 0x0, 0x0, 0x80000000, 0x0, 0x0, 0x0, 0x7FFF0000, .pcie, fun _ _ _ => 0x0⟩ ,
  ⟨0x410014, [], false, 0x0, 0x0, 0x0, 0x0, 0x0, 0x0, 0x0, .pcie, fun _ _ _ => 0x0⟩ ,
  ⟨0x411000, [(0x10, 80), (0x4, 4)], false, 0x1FFF, 0x0, 0x0, 0x0, 0x0, 0x0, 0x0, .pcie, fun _ _ _ => 0x0⟩ ,
  ⟨0x414000, [(0x10, 80)], false, 0x0, 0x0, 0x0, 0x0, 0x7FFF, 0x0, 0x0, .pcie, fun _ _ _ => 0x0⟩ ,
  ⟨0x414004, [(0x10, 80)], false, 0x0, 0x0, 0x0, 0x0, 0xFFFFFFFF, 0x0, 0x0, .pcie, fun _ _ _ => 0x0⟩ ,
  ⟨0x414008, [(0x10, 80)], false, 0x0, 0x0, 0x0, 0x0, 0x0, 0x0, 0x0, .pcie, fun _ _ _ => 0xFFFFFFFF⟩ ,
  ⟨0x41400C, [(0x10, 80)], false, 0x0, 0x0, 0x0, 0x0, 0x0, 0x0, 0xFFFF, .pcie, fun _ _ _ => 0x0⟩ ]

/-- The registers of the SVC block. -/
def rowsSVC : List RegRow := [
  ⟨0x420000, [], false, 0x0, 0x0, 0x0, 0x0, 0x0, 0x0, 0x0, .core, fun _ _ _ => 0x0⟩ ,
  ⟨0x420004, [], false, 0xFFFF, 0x0, 0x0, 0x0, 0x0, 0x0, 0x0, .core, fun _ _ _ => 0x64⟩ ,
  ⟨0x420008, [], false, 0xFFFF, 0x0, 0x0, 0x0, 0x0, 0x0, 0x0, .core, fun _ _ _ => 0xFFFF⟩ ,
  ⟨0x420100, [(0x4, 16)], false, 0x0, 0x0, 0x0, 0x0, 0x0, 0x0, 0x0, .core, fun _ _ _ => 0x0⟩ ,
  ⟨0x420200, [(0x8, 4)], true, 0x0, 0x0, 0x0, 0x0, 0x0, 0x0, 0xFFFFFFFFFFFF, .core, fun _ _ _ => 0x0⟩ ,
  ⟨0x420280, [(0x8, 4)], true, 0x0, 0x0, 0x0, 0x0, 0x0, 0x0, 0x0, .core, fun _ _ _ => 0x0⟩ ]

/-- The registers of the DST block. -/
def rowsDST : List RegRow := [
  ⟨0x430000, [], false, 0xFF00FFFF, 0x0, 0x0, 0x0, 0x0, 0x0, 0x0, .core, fun _ _ _ => 0x10000064⟩ ,
  ⟨0x430004, [], false, 0x0, 0x0, 0xF000000F, 0x0, 0x0, 0x0, 0x0, .core, fun _ _ _ => 0x0⟩ ,
  ⟨0x430010, [(0x4, 4)], false, 0x0, 0x0, 0x0, 0x0, 0x0, 0x0, 0x0, .core, fun _ _ _ => 0x0⟩ ,
  ⟨0x430020, [], false, 0x0, 0x0, 0x0, 0x0, 0x3F, 0x0, 0x0, .core, fun _ _ _ => 0x0⟩ ,
  ⟨0x430040, [], false, 0x7, 0x0, 0x0, 0x0, 0x0, 0x0, 0x0, .core, fun _ _ _ => 0x0⟩ ,
  ⟨0x430044, [], false, 0xFFFFFFFF, 0x0, 0x0, 0x0, 0x0, 0x0, 0x0, .core, fun _ _ _ => 0x0⟩ ,
  ⟨0x430048, [], true, 0x3FFFFFFFF, 0x0, 0x0, 0x0, 0x0, 0x0, 0x0, .core, fun _ _ _ => 0x0⟩ ,
  ⟨0x430050, [], false, 0x0, 0x0, 0x0, 0x0, 0x0, 0x0, 0x0, .core, fun _ _ _ => 0x0⟩ ,
  ⟨0x430100, [(0x8, 8)], true, 0x0, 0x0, 0x0, 0x0, 0x0, 0x0, 0xFFFFFFFFFFFF, .core, fun _ _ _ => 0x0⟩ ,
  ⟨0x430180, [(0x8, 8)], true, 0x0, 0x0, 0x0, 0x0, 0x0, 0x0, 0x0, .core, fun _ _ _ => 0x0⟩ ,
  ⟨0x431000, [(0x400, 4), (0x10, 16)], false, 0x3F3F, 0x0, 0x0, 0x0, 0x0, 0x0, 0x0, .core, fun _ _ _ => 0x2020⟩ ,
  ⟨0x431100, [(0x400, 4), (0x4, 128)], false, 0x3F3F, 0x0, 0x0, 0x0, 0x0, 0x0, 0x0, .core, fun _ _ _ => 0x2020⟩ ]

/-- The registers of the TILE block. -/
def rowsTILE : List RegRow := [
  ⟨0x800000, [(0x10000, 64)], false, 0x0, 0x0, 0x0, 0x0, 0x0, 0x0, 0x0, .core, fun _ _ _ => 0x0⟩ ,
  ⟨0x800004, [(0x10000, 64)], false, 0x0, 0x0, 0x0, 0x0, 0x0, 0x0, 0xFFFF, .core, fun _ _ _ => 0x0⟩ ,
  ⟨0x800008, [(0x10000, 64)], false, 0xFFFFFF, 0x0, 0x0, 0x0, 0x0, 0x0, 0x0, .core, fun _ _ _ => 0xFAC688⟩ ,
  ⟨0x800100, [(0x10000, 64), (0x4, 8)], false, 0x8FFFFCFF, 0x0, 0x0, 0x0, 0x0, 0x0, 0x0, .core, fun _ _ _ => 0x1000000⟩ ,
  ⟨0x800120, [(0x10000, 64), (0x4, 8)], false, 0x0, 0x0, 0x0, 0x0, 0x0, 0x0, 0x0, .core, fun _ _ _ => 0x0⟩ ,
  ⟨0x800140, [(0x10000, 64), (0x4, 8)], false, 0xFFFFFFFF, 0x0, 0x0, 0x0, 0x0, 0x0, 0x0, .core, fun _ _ _ => 0x50280A04⟩ ,
  ⟨0x800160, [(0x10000, 64), (0x4, 8)], false, 0x0, 0x0, 0x0, 0x0, 0x0, 0x0, 0x0, .core, fun _ _ _ => 0x0⟩ ,
  ⟨0x800200, [(0x10000, 64), (0x8, 8)], true, 0x0, 0x0, 0x0, 0x0, 0x0, 0x0, 0xFFFFFFFFFFFF, .core, fun _ _ _ => 0x0⟩ ,
  ⟨0x800240, [(0x10000, 64), (0x8, 8)], true, 0x0, 0x0, 0x0, 0x0, 0x0, 0x0, 0xFFFFFFFFFFFF, .core, fun _ _ _ => 0x0⟩ ,
  ⟨0x800400, [(0x10000, 64), (0x80, 8), (0x8, 16)], true, 0x0, 0x0, 0x0, 0x0, 0x0, 0x0, 0xFFFFFFFFFFFF, .core, fun _ _ _ => 0x0⟩ ,
  ⟨0x801000, [(0x10000, 64), (0x100, 8)], false, 0x3F, 0x0, 0x0, 0x0, 0x0, 0x0, 0x0, .core, fun _ _ _ => 0x0⟩ ,
  ⟨0x801004, [(0x10000, 64), (0x100, 8)], false, 0x0, 0x0, 0x0, 0x0, 0x0, 0x0, 0x0, .core, fun _ _ _ => 0x0⟩ ,
  ⟨0x804000, [(0x10000, 64), (0x1000, 8)], false, 0xE3F03FFF, 0x0, 0x0, 0x0, 0x0, 0x0, 0x0, .core, fun _ _ _ => 0x20002400⟩ ,
  ⟨0x804008, [(0x10000, 64), (0x1000, 8)], true, 0xFFFFFFFFFFFF, 0x0, 0x0, 0x0, 0x0, 0x0, 0x0, .core, fun _ _ _ => 0x0⟩ ,
  ⟨0x804010, [(0x10000, 64), (0x1000, 8)], false, 0xFFFFFFFF, 0x0, 0x0, 0x0, 0x0, 0x0, 0x0, .core, fun _ _ _ => 0xFFFF7FFF⟩ ,
  ⟨0x804014, [(0x10000, 64), (0x1000, 8)], false, 0x0, 0x0, 0xFF, 0x0, 0x0, 0x0, 0x0, .core, fun _ _ _ => 0x0⟩ ,
  ⟨0x804020, [(0x10000, 64), (0x1000, 8), (0x4, 8)], false, 0xFFFF, 0x0, 0x0, 0x0, 0x0, 0x0, 0x0, .core, fun _ _ c => (3 * 2 ^ (2 * c))⟩ ,
  ⟨0x804040, [(0x10000, 64), (0x1000, 8)], false, 0xFFFF01, 0x0, 0x0, 0x0, 0x0, 0x0, 0x0, .core, fun _ _ _ => 0x646400⟩ ,
  ⟨0x804400, [(0x10000, 64), (0x1000, 8), (0x4, 128)], false, 0xFFFFFFFF, 0x0, 0x0, 0x0, 0x0, 0x0, 0x0, .core, fun _ _ _ => 0x0⟩ ,
  ⟨0x804800, [(0x10000, 64), (0x1000, 8), (0x8, 53)], true, 0x0, 0x0, 0x0, 0x0, 0x0, 0x0, 0xFFFFFFFFFFFFFFFF, .core, fun _ _ _ => 0x0⟩ ,
  ⟨0x804C00, [(0x10000, 64), (0x1000, 8), (0x8, 53)], true, 0x0, 0x0, 0x0, 0x0, 0x0, 0x0, 0x0, .core, fun _ _ _ => 0x0⟩ ,
  ⟨0x80C000, [(0x10000, 64)], false, 0xFFFFFFFF, 0x0, 0x0, 0x0, 0x0, 0x0, 0x0, .core, fun _ _ _ => 0xC00080⟩ ,
  ⟨0x80C004, [(0x10000, 64)], false, 0xFFFF0000, 0x0, 0x0, 0x0, 0x0, 0x0, 0x0, .core, fun _ _ _ => 0x0⟩ ]

/-- The registers of the SLC block. -/
def rowsSLC0 : List RegRow := [
  ⟨0xC00000, [(0x10000, 16)], false, 0xFFFFFFFF, 0x0, 0x0, 0x0, 0x0, 0x0, 0x0, .core, fun _ _ _ => 0x0⟩ ,
  ⟨0xC00004, [(0x10000, 16)], false, 0xFFFFFFFF, 0x0, 0x0, 0x0, 0x0, 0x0, 0x0, .core, fun _ _ _ => 0x55000⟩ ,
  ⟨0xC00100, [(0x10000, 16), (0x8, 16)], true, 0x0, 0x0, 0x0, 0x0, 0x0, 0x0, 0xFFFFFFFFFFFF, .core, fun _ _ _ => 0x0⟩ ,
  ⟨0xC01000, [(0x10000, 16)], false, 0xFFFFFFFF, 0x0, 0x0, 0x0, 0x0, 0x0, 0x0, .core, fun _ _ _ => 0xFFAA5500⟩ ,
  ⟨0xC01010, [(0x10000, 16), (0x4, 4)], false, 0x80000FFF, 0x0, 0x0, 0x0, 0x0, 0x0, 0x0, .core, fun _ _ _ => 0x688⟩ ,
  ⟨0xC01040, [(0x10000, 16)], false, 0x7, 0x0, 0x0, 0x0, 0x0, 0x0, 0x0, .core, fun _ _ _ => 0x0⟩ ,
  ⟨0xC01044, [(0x10000, 16)], false, 0x3FFFFF, 0x0, 0x0, 0x0, 0x0, 0x0, 0x0, .core, fun _ _ _ => 0x0⟩ ,
  ⟨0xC01048, [(0x10000, 16)], false, 0xFFFFFFFF, 0x0, 0x0, 0x0, 0x0, 0x0, 0x0, .core, fun _ _ _ => 0x0⟩ ,
  ⟨0xC0104C, [(0x10000, 16)], false, 0x0, 0x0, 0xE0000000, 0x0, 0x0, 0x0, 0x0, .core, fun _ _ _ => 0x0⟩ ,
  ⟨0xC01100, [(0x10000, 16), (0x4, 32)], false, 0xFFFFFF00, 0x0, 0x0, 0x0, 0x0, 0x0, 0x0, .core, fun _ _ _ => 0x0⟩ ,
  ⟨0xC01180, [(0x4, 3)], false, 0xFFFFFF00, 0x0, 0x0, 0x0, 0x0, 0x0, 0x0, .core, fun _ _ _ => 0x0⟩ ,
  ⟨0xC01200, [(0x10000, 16), (0x4, 32)], false, 0xFFFFFFFF, 0x0, 0x0, 0x0, 0x0, 0x0, 0x0, .core, fun _ _ _ => 0xECA86420⟩ ,
  ⟨0xC01280, [(0x4, 3)], false, 0xFFFFFFFF, 0x0, 0x0, 0x0, 0x0, 0x0, 0x0, .core, fun _ _ _ => 0xECA86420⟩ ,
  ⟨0xC01300, [(0x10000, 16), (0x20, 4), (0x4, 8)], false, 0xFFFFFFFF, 0x0, 0x0, 0x0, 0x0, 0x0, 0x0, .core, fun _ _ c => (0x1111 * (2 * c) + 0x11110000 * (2 * c + 1))⟩ ,
  ⟨0xC04000, [(0x10000, 16), (0x10, 64)], false, 0xE00000FF, 0x0, 0x0, 0x0, 0x0, 0x0, 0x0, .core, fun _ _ _ => 0x0⟩ ,
  ⟨0xC04004, [(0x10000, 16), (0x10, 64)], false, 0x7FFC0000, 0x0, 0x0, 0x0, 0x0, 0x0, 0x0, .core, fun _ _ _ => 0x0⟩ ,
  ⟨0xC04008, [(0x10000, 16), (0x10, 64)], false, 0xFFFC0000, 0x0, 0x0, 0x0, 0x0, 0x0, 0x0, .core, fun _ _ _ => 0x0⟩ ,
  ⟨0xC0400C, [(0x10000, 16), (0x10, 64)], false, 0xFFFC0000, 0x0, 0x0, 0x0, 0x0, 0x0, 0x0, .core, fun _ _ _ => 0x0⟩ ,
  ⟨0xC04400, [(0x10000, 16)], false, 0x7, 0x0, 0x0, 0x0, 0x0, 0x0, 0x0, .core, fun _ _ _ => 0x0⟩ ,
  ⟨0xC04404, [(0x10000, 16)], false, 0x7FFFF, 0x0, 0x0, 0x0, 0x0, 0x0, 0x0, .core, fun _ _ _ => 0x0⟩ ,
  ⟨0xC04408, [(0x10000, 16)], false, 0xFFFFFFFF, 0x0, 0x0, 0x0, 0x0, 0x0, 0x0, .core, fun _ _ _ => 0x0⟩ ,
  ⟨0xC0440C, [(0x10000, 16)], false, 0x0, 0x0, 0xC0000000, 0x0, 0x0, 0x0, 0x0, .core, fun _ _ _ => 0x0⟩ ,
  ⟨0xC04500, [(0x10000, 16), (0x8, 8)], true, 0x0, 0x0, 0x0, 0x0, 0x0, 0x0, 0xFFFFFFFFFFFF, .core, fun _ _ _ => 0x0⟩ ,
  ⟨0xC04580, [(0x10000, 16), (0x8, 8)], true, 0x0, 0x0, 0x0, 0x0, 0x0, 0x0, 0x0, .core, fun _ _ _ => 0x0⟩ ]

def rowsSLC1 : List RegRow := [
  ⟨0xC04800, [(0x10000, 16), (0x4, 32)], false, 0x3FFFF, 0x0, 0x0, 0x0, 0x0, 0x0, 0x0, .core, fun _ _ _ => 0x0⟩ ,
  ⟨0xC04880, [(0x4, 3)], false, 0x3FFFF, 0x0, 0x0, 0x0, 0x0, 0x0, 0x0, .core, fun _ _ _ => 0x0⟩ ,
  ⟨0xC05000, [(0x10000, 16)], false, 0x7, 0x0, 0x0, 0x0, 0x0, 0x0, 0x0, .core, fun _ _ _ => 0x0⟩ ,
  ⟨0xC05004, [(0x10000, 16)], false, 0xFFFFF, 0x0, 0x0, 0x0, 0x0, 0x0, 0x0, .core, fun _ _ _ => 0x0⟩ ,
  ⟨0xC05008, [(0x10000, 16)], false, 0xFFFFFFFF, 0x0, 0x0, 0x0, 0x0, 0x0, 0x0, .core, fun _ _ _ => 0x0⟩ ,
  ⟨0xC05010, [(0x10000, 16)], false, 0x0, 0x0, 0x0, 0x0, 0x8000FFFF, 0x0, 0x0, .core, fun _ _ _ => 0x0⟩ ,
  ⟨0xC05014, [(0x10000, 16)], false, 0xFFFF, 0x0, 0x0, 0x0, 0x0, 0x0, 0x0, .core, fun _ _ _ => 0x0⟩ ,
  ⟨0xC05018, [(0x10000, 16)], false, 0x0, 0x0, 0x80000000, 0x0, 0x0, 0x0, 0x0, .core, fun _ _ _ => 0x0⟩ ,
  ⟨0xC05100, [(0x10000, 16), (0x8, 4)], true, 0x0, 0x0, 0x0, 0x0, 0x0, 0x0, 0xFFFFFFFFFFFF, .core, fun _ _ _ => 0x0⟩ ,
  ⟨0xC05180, [(0x10000, 16), (0x8, 4)], true, 0x0, 0x0, 0x0, 0x0, 0x0, 0x0, 0x0, .core, fun _ _ _ => 0x0⟩ ]
def rowsSLC : List RegRow := rowsSLC0 ++ rowsSLC1

/-- The registers of the XBR block. -/
def rowsXBR : List RegRow := [
  ⟨0xD00000, [], false, 0x3, 0x0, 0x0, 0x0, 0x0, 0x0, 0x0, .core, fun _ _ _ => 0x3⟩ ,
  ⟨0xD00004, [], false, 0xFFFF, 0x0, 0x0, 0x0, 0x0, 0x0, 0x0, .core, fun _ _ _ => 0x2040⟩ ,
  ⟨0xD00008, [], false, 0x0, 0x0, 0x80000000, 0x0, 0x0, 0x0, 0x0, .core, fun _ _ _ => 0x0⟩ ,
  ⟨0xD00100, [(0x8, 8)], true, 0x0, 0x0, 0x0, 0x0, 0x0, 0x0, 0xFFFFFFFFFFFF, .core, fun _ _ _ => 0x0⟩ ,
  ⟨0xD00180, [(0x8, 8)], true, 0x0, 0x0, 0x0, 0x0, 0x0, 0x0, 0x0, .core, fun _ _ _ => 0x0⟩ ,
  ⟨0xD00400, [(0x4, 64)], false, 0x0, 0x0, 0x0, 0x0, 0x0, 0x0, 0x0, .core, fun _ _ _ => 0x0⟩ ,
  ⟨0xD04000, [(0x80, 16)], false, 0xFFFFFFFC, 0x0, 0x0, 0x0, 0x0, 0x0, 0x0, .core, fun _ _ _ => 0x4000⟩ ,
  ⟨0xD04004, [(0x80, 16)], false, 0xFFFFFC00, 0x0, 0x0, 0x0, 0x0, 0x0, 0x0, .core, fun _ _ _ => 0x0⟩ ,
  ⟨0xD04008, [(0x80, 16), (0x4, 14)], false, 0x0, 0x0, 0x0, 0x0, 0x0, 0x0, 0x0, .core, fun _ _ _ => 0x0⟩ ,
  ⟨0xD04040, [(0x80, 16), (0x4, 16)], false, 0xFFFFFFFF, 0x0, 0x0, 0x0, 0x0, 0x0, 0x0, .core, fun _ _ _ => 0x0⟩ ,
  ⟨0xD06000, [(0x4, 516)], false, 0xFFC00000, 0x0, 0x0, 0x0, 0x0, 0x0, 0x0, .core, fun _ _ _ => 0x0⟩ ,
  ⟨0xD07000, [(0x20, 16), (0x8, 3)], true, 0x0, 0x0, 0x0, 0x0, 0x0, 0x0, 0xFFFFFFFFFFFF, .core, fun _ _ _ => 0x0⟩ ,
  ⟨0xD07400, [(0x20, 16), (0x8, 3)], true, 0x0, 0x0, 0x0, 0x0, 0x0, 0x0, 0x0, .core, fun _ _ _ => 0x0⟩ ]

/-- The registers of the BUF block. -/
def rowsBUF : List RegRow := [
  ⟨0xD80000, [], false, 0x1FFFF, 0x0, 0x0, 0x0, 0x0, 0x0, 0x0, .core, fun _ _ _ => 0x2000⟩ ,
  ⟨0xD80004, [], false, 0xFFFF, 0x0, 0x0, 0x0, 0x0, 0x0, 0x0, .core, fun _ _ _ => 0x100⟩ ,
  ⟨0xD80008, [], false, 0xF0000000, 0x0, 0x0, 0x0, 0x0, 0x0, 0x0, .core, fun _ _ _ => 0x60000000⟩ ,
  ⟨0xD80010, [], false, 0x0, 0x0, 0x34000000, 0x0, 0x0, 0x0, 0x0, .core, fun _ _ _ => 0x0⟩ ,
  ⟨0xD80020, [], false, 0x0, 0x0, 0x0, 0x0, 0x0, 0x0, 0x0, .core, fun _ _ _ => 0xF0000⟩ ,
  ⟨0xD80024, [], false, 0x0, 0x0, 0x0, 0x0, 0x0, 0x0, 0x0, .core, fun _ _ _ => 0xF0000⟩ ,
  ⟨0xD80028, [], false, 0x0, 0x0, 0x0, 0x0, 0x0, 0x0, 0x0, .core, fun _ _ _ => 0xE2000⟩ ,
  ⟨0xD8002C, [], false, 0x0, 0x0, 0x0, 0x0, 0x0, 0x0, 0x0, .core, fun _ _ _ => 0x0⟩ ,
  ⟨0xD80030, [], false, 0x0, 0x0, 0x0, 0x0, 0x0, 0x0, 0x0, .core, fun _ _ _ => 0x0⟩ ,
  ⟨0xD80034, [], false, 0x0, 0x0, 0x0, 0x0, 0x0, 0x0, 0x0, .core, fun _ _ _ => 0x0⟩ ,
  ⟨0xD80038, [], false, 0x0, 0x0, 0x0, 0x0, 0x0, 0x0, 0xFFFFFFFF, .core, fun _ _ _ => 0x0⟩ ,
  ⟨0xD80040, [], false, 0x8000FFFF, 0x0, 0x0, 0x0, 0x0, 0x0, 0x0, .core, fun _ _ _ => 0x400⟩ ,
  ⟨0xD80044, [], false, 0xF2FFBFE0, 0x0, 0x0, 0x0, 0x0, 0x0, 0x0, .core, fun _ _ _ => 0x0⟩ ,
  ⟨0xD80048, [], false, 0x3F, 0x0, 0x0, 0x0, 0x0, 0x0, 0x0, .core, fun _ _ _ => 0x0⟩ ,
  ⟨0xD8004C, [], false, 0x0, 0x0, 0x0, 0x0, 0x0, 0x0, 0xFFFFFFFF, .core, fun _ _ _ => 0x0⟩ ,
  ⟨0xD80100, [(0x4, 16)], false, 0x0, 0x0, 0x0, 0x0, 0x0, 0x0, 0x0, .core, fun _ _ _ => 0x0⟩ ,
  ⟨0xD80200, [], false, 0x7, 0x0, 0x0, 0x0, 0x0, 0x0, 0x0, .core, fun _ _ _ => 0x0⟩ ,
  ⟨0xD80204, [], false, 0x3FFFF, 0x0, 0x0, 0x0, 0x0, 0x0, 0x0, .core, fun _ _ _ => 0x0⟩ ,
  ⟨0xD80208, [], false, 0xFFFFFFFF, 0x0, 0x0, 0x0, 0x0, 0x0, 0x0, .core, fun _ _ _ => 0x0⟩ ,
  ⟨0xD82000, [(0x180, 16), (0x8, 48)], true, 0x0, 0x0, 0x0, 0x0, 0x0, 0x0, 0xFFFFFFFFFFFF, .core, fun _ _ _ => 0x0⟩ ,
  ⟨0xD84000, [(0x180, 16), (0x8, 48)], true, 0x0, 0x0, 0x0, 0x0, 0x0, 0x0, 0x0, .core, fun _ _ _ => 0x0⟩ ,
  ⟨0xD88000, [(0x180, 516), (0x8, 48)], true, 0x0, 0x0, 0x0, 0x0, 0x0, 0x0, 0x0, .core, fun _ _ _ => 0x0⟩ ,
  ⟨0xDC0000, [(0x180, 516), (0x8, 48)], true, 0x0, 0x0, 0x0, 0x0, 0x0, 0x0, 0xFFFFFFFFFFFF, .core, fun _ _ _ => 0x0⟩ ]

/-- The registers of the EGR block. -/
def rowsEGR : List RegRow := [
  ⟨0xE00000, [(0x400, 516)], false, 0xFFF, 0x0, 0x0, 0x0, 0x0, 0x0, 0x0, .core, fun _ _ _ => 0xE4⟩ ,
  ⟨0xE00004, [(0x400, 516)], false, 0x7F7F7F7F, 0x0, 0x0, 0x0, 0x0, 0x0, 0x0, .core, fun _ _ _ => 0x1010101⟩ ,
  ⟨0xE00010, [(0x400, 516), (0x4, 4)], false, 0x7F7F7F7F, 0x0, 0x0, 0x0, 0x0, 0x0, 0x0, .core, fun _ _ _ => 0x1010101⟩ ,
  ⟨0xE00100, [(0x400, 516), (0x8, 21)], false, 0x8FFFFFFF, 0x0, 0x0, 0x0, 0x0, 0x0, 0x0, .core, fun _ _ _ => 0x0⟩ ,
  ⟨0xE00104, [(0x400, 516), (0x8, 21)], false, 0xFFFFFFFF, 0x0, 0x0, 0x0, 0x0, 0x0, 0x0, .core, fun _ _ _ => 0x14004000⟩ ,
  ⟨0xE00200, [(0x400, 516), (0x4, 21)], false, 0x0, 0x0, 0x0, 0x0, 0x0, 0x0, 0x0, .core, fun _ _ _ => 0x0⟩ ,
  ⟨0xE00300, [(0x400, 516), (0x4, 16)], false, 0xFFFFFFFF, 0x0, 0x0, 0x0, 0x0, 0x0, 0x0, .core, fun _ _ _ => 0x0⟩ ,
  ⟨0xE00340, [(0x400, 516), (0x4, 16)], false, 0x0, 0x0, 0x0, 0x0, 0x0, 0x0, 0x0, .core, fun _ _ _ => 0x0⟩ ,
  ⟨0xE003C0, [(0x400, 516)], false, 0x0, 0x0, 0x0, 0x0, 0x0, 0x0, 0x0, .core, fun _ _ _ => 0x0⟩ ,
  ⟨0xE003C4, [(0x400, 516)], false, 0x0, 0x0, 0x0, 0x0, 0x0, 0x0, 0x0, .core, fun a _ _ => (a)⟩ ,
  ⟨0xEC0100, [(0x8, 4)], true, 0x0, 0x0, 0x0, 0x0, 0x0, 0x0, 0xFFFFFFFFFFFF, .core, fun _ _ _ => 0x0⟩ ,
  ⟨0xEC0180, [(0x8, 4)], true, 0x0, 0x0, 0x0, 0x0, 0x0, 0x0, 0x0, .core, fun _ _ _ => 0x0⟩ ]

/-- The registers of the JFL block. -/
def rowsJFL : List RegRow := [
  ⟨0xF00000, [], false, 0x3FFFFFFF, 0x0, 0x0, 0x0, 0x0, 0x0, 0x0, .core, fun _ _ _ => 0x10000000⟩ ,
  ⟨0xF00004, [], false, 0x0, 0x0, 0xF0000000, 0x0, 0x0, 0x0, 0x0, .core, fun _ _ _ => 0x0⟩ ,
  ⟨0xF00008, [], false, 0xE0000FFF, 0x0, 0x0, 0x0, 0x0, 0x0, 0x0, .core, fun _ _ _ => 0x0⟩ ,
  ⟨0xF0000C, [], false, 0x0, 0x0, 0x0, 0x0, 0x0, 0x0, 0xFFFFFFFF, .core, fun _ _ _ => 0x0⟩ ,
  ⟨0xF00040, [], false, 0x7, 0x0, 0x0, 0x0, 0x0, 0x0, 0x0, .core, fun _ _ _ => 0x0⟩ ,
  ⟨0xF00044, [], false, 0x3FFF, 0x0, 0x0, 0x0, 0x0, 0x0, 0x0, .core, fun _ _ _ => 0x0⟩ ,
  ⟨0xF00048, [], false, 0x0, 0x0, 0x0, 0x0, 0x0, 0x0, 0x0, .core, fun _ _ _ => 0x0⟩ ,
  ⟨0xF00100, [(0x8, 8)], true, 0x0, 0x0, 0x0, 0x0, 0x0, 0x0, 0xFFFFFFFFFFFF, .core, fun _ _ _ => 0x0⟩ ,
  ⟨0xF00180, [(0x8, 8)], true, 0x0, 0x0, 0x0, 0x0, 0x0, 0x0, 0x0, .core, fun _ _ _ => 0x0⟩ ,
  ⟨0xF00200, [(0x4, 16)], false, 0x0, 0x0, 0x0, 0x0, 0x0, 0x0, 0x0, .core, fun _ _ _ => 0x0⟩ ,
  ⟨0xF02000, [(0x10, 256)], false, 0xF80007FF, 0x0, 0x0, 0x0, 0x0, 0x0, 0x0, .core, fun _ _ _ => 0x10⟩ ,
  ⟨0xF02004, [(0x10, 256)], false, 0xFFFFFFFF, 0x0, 0x0, 0x0, 0x0, 0x0, 0x0, .core, fun _ _ _ => 0x0⟩ ,
  ⟨0xF02008, [(0x10, 256)], false, 0x0, 0x0, 0x0, 0x0, 0x0, 0x0, 0x0, .core, fun _ _ _ => 0x0⟩ ,
  ⟨0xF08000, [(0x4, 4096)], false, 0x800003FF, 0x0, 0x0, 0x0, 0x0, 0x0, 0x0, .core, fun _ _ _ => 0x0⟩ ,
  ⟨0xF10000, [(0x40, 512), (0x4, 16)], false, 0xFFF, 0x0, 0x0, 0x0, 0x0, 0x0, 0x0, .core, fun _ _ _ => 0x10⟩ ]

/-- The registers of the MRV block. -/
def rowsMRV : List RegRow := [
  ⟨0x1000000, [], false, 0x0, 0x0, 0x0, 0x0, 0x0, 0xFFFFFFFF, 0x0, .core, fun _ _ _ => 0x0⟩ ,
  ⟨0x1000008, [], false, 0x0, 0x0, 0xC4000000, 0x0, 0x0, 0x0, 0x0, .core, fun _ _ _ => 0x0⟩ ,
  ⟨0x1000010, [], false, 0xFFFF7FFF, 0x0, 0x0, 0x0, 0x0, 0x0, 0x0, .core, fun _ _ _ => 0x3E8012C⟩ ,
  ⟨0x1000014, [], false, 0x0, 0x0, 0x0, 0x0, 0x0, 0x0, 0x0, .core, fun _ _ _ => 0x0⟩ ,
  ⟨0x1000018, [], false, 0xFFFFFFFF, 0x0, 0x0, 0x0, 0x0, 0x0, 0x0, .core, fun _ _ _ => 0x8640FA04⟩ ,
  ⟨0x100001C, [], false, 0x0, 0x0, 0x0, 0x0, 0x0, 0x0, 0x0, .core, fun _ _ _ => 0x0⟩ ,
  ⟨0x1000020, [], false, 0x0, 0x0, 0x0, 0x0, 0x0, 0x0, 0x0, .core, fun _ _ _ => 0x0⟩ ,
  ⟨0x1000024, [], false, 0x0, 0x0, 0x0, 0x0, 0x0, 0x0, 0x0, .core, fun _ _ _ => 0x0⟩ ,
  ⟨0x1000028, [], false, 0x80000000, 0x0, 0x0, 0x0, 0x0, 0x0, 0x0, .core, fun _ _ _ => 0x80000000⟩ ,
  ⟨0x1000040, [], false, 0x7, 0x0, 0x0, 0x0, 0x0, 0x0, 0x0, .core, fun _ _ _ => 0x0⟩ ,
  ⟨0x1000044, [], false, 0xFFFFFF, 0x0, 0x0, 0x0, 0x0, 0x0, 0x0, .core, fun _ _ _ => 0x0⟩ ,
  ⟨0x1000048, [], false, 0x0, 0x0, 0x0, 0x0, 0x0, 0x0, 0x0, .core, fun _ _ _ => 0x0⟩ ,
  ⟨0x1000080, [(0x4, 8)], false, 0xFFFFFFFF, 0x0, 0x0, 0x0, 0x0, 0x0, 0x0, .core, fun _ _ _ => 0x0⟩ ,
  ⟨0x10000A0, [], false, 0x0, 0x0, 0x0, 0x0, 0x0, 0x0, 0x0, .core, fun _ _ _ => (0)⟩ ,
  ⟨0x1000100, [(0x8, 16)], true, 0x0, 0x0, 0x0, 0x0, 0x0, 0x0, 0xFFFFFFFFFFFF, .core, fun _ _ _ => 0x0⟩ ,
  ⟨0x1000180, [(0x8, 16)], true, 0x0, 0x0, 0x0, 0x0, 0x0, 0x0, 0x0, .core, fun _ _ _ => 0x0⟩ ,
  ⟨0x1000200, [(0x8, 64)], true, 0x0, 0x0, 0x0, 0x0, 0x0, 0x0, 0x0, .core, fun _ _ _ => 0x0⟩ ,
  ⟨0x1001000, [(0x4, 515)], false, 0xE0FFFFFF, 0x0, 0x0, 0x0, 0x0, 0x0, 0x0, .core, fun _ _ _ => 0x80000001⟩ ,
  ⟨0x1004000, [(0x4, 4096)], false, 0xCFFFFFFF, 0x0, 0x0, 0x0, 0x0, 0x0, 0x0, .core, fun a _ _ => 0xC0000000 + (a) * 0x10000⟩ ]

/-- The rows of the block an offset lies in; `none` for an unimplemented offset (R458). -/
def blockRows (off : Nat) : Option (List RegRow) :=
  if 0x0 ≤ off ∧ off < 0x10000 then some rowsGLB
  else if 0x10000 ≤ off ∧ off < 0x20000 then some rowsAUD
  else if 0x20000 ≤ off ∧ off < 0x30000 then some rowsPWR
  else if 0x30000 ≤ off ∧ off < 0x40000 then some rowsSRV
  else if 0x40000 ≤ off ∧ off < 0x50000 then some rowsLDG
  else if 0x50000 ≤ off ∧ off < 0x60000 then some rowsPMC
  else if 0x60000 ≤ off ∧ off < 0x70000 then some rowsTIM
  else if 0x70000 ≤ off ∧ off < 0x80000 then some rowsUNT
  else if 0x200000 ≤ off ∧ off < 0x400000 then some rowsHQ
  else if 0x400000 ≤ off ∧ off < 0x410000 then some rowsDMA
  else if 0x410000 ≤ off ∧ off < 0x420000 then some rowsPOOL
  else if 0x420000 ≤ off ∧ off < 0x430000 then some rowsSVC
  else if 0x430000 ≤ off ∧ off < 0x440000 then some rowsDST
  else if 0x800000 ≤ off ∧ off < 0xC00000 then some rowsTILE
  else if 0xC00000 ≤ off ∧ off < 0xD00000 then some rowsSLC
  else if 0xD00000 ≤ off ∧ off < 0xD80000 then some rowsXBR
  else if 0xD80000 ≤ off ∧ off < 0xE00000 then some rowsBUF
  else if 0xE00000 ≤ off ∧ off < 0xF00000 then some rowsEGR
  else if 0xF00000 ≤ off ∧ off < 0x1000000 then some rowsJFL
  else if 0x1000000 ≤ off ∧ off < 0x2000000 then some rowsMRV
  else none

/-- The indices of `o`, an offset from an array's base, and what remains: `none` when an index is out of range. -/
def indices : List (Nat × Nat) → Nat → Option (List Nat × Nat)
  | [], o => some ([], o)
  | (s, n) :: ds, o =>
    if o / s < n then (indices ds (o % s)).map fun (is, r) => (o / s :: is, r) else none

/-- Where an offset falls in a row: the indices and whether it is the upper word of a 64-bit register. The complement
word of a complement-pair register is part of it (R467). -/
def RegRow.find? (r : RegRow) (off : Nat) : Option (List Nat × Bool) :=
  if off < r.base then none
  else match indices r.dims (off - r.base) with
    | some (is, 0) => some (is, false)
    | some (is, 4) => if r.w64 || r.cpw != 0 then some (is, true) else none
    | _ => none

/-- The row of a list that holds an offset. -/
def findRow : List RegRow → Nat → Option (RegRow × List Nat × Bool)
  | [], _ => none
  | r :: rs, off => match r.find? off with
    | some (is, up) => some (r, is, up)
    | none => findRow rs off

/-- The register at an offset, its indices and which word: `none` where no register lies (R458). -/
def regAt (off : Nat) : Option (RegRow × List Nat × Bool) :=
  match blockRows off with
  | some rs => findRow rs off
  | none => none

/-- Index `i` of a list of indices, counted from the last for the innermost index. -/
def idxAt (is : List Nat) (i : Nat) : Nat := is.getD i 0

/-- The reset value of a whole register. -/
def RegRow.reset (r : RegRow) (is : List Nat) : Nat :=
  r.rst (idxAt is 0) (idxAt is 1) (is.getLastD 0)

/-- What the word at an offset reads as until something writes it: the register's reset value. -/
def regDflt (off : Nat) : Word :=
  match regAt off with
  | some (r, is, up) => BitVec.ofNat 32 (if up then r.reset is / 0x100000000 else r.reset is)
  | none => 0

end Sys2Proof.Machine
end

