-- ==== Sys2Proof/Machine/State.lean ====
section
/-!
DEFINITION. The state of the KRL7512 as plain data: the registers, everything the rules make the block hold beside
them, what it puts out, and the queue of the commands that wait. What a map does not list reads as its default, so the
state after reset lists nothing.
-/
namespace Sys2Proof.Machine

/-! ### Outputs -/

/-- The level of an output pin: driven low or high, or at high impedance (R368). -/
inductive Level where
  | low
  | high
  | z
  deriving DecidableEq, Repr

/-- What the device puts out, in the order it does: frames and ordered sets on lanes, Punty messages, writes to host
memory, interrupts, pins. The log is the model's own: the spec gives the outputs, not a record of them. -/
inductive Output where
  /-- a frame on external port `p`, FCS excluded; `good` says the FCS sent is right, `cut` that link-down ended it -/
  | frame (p : Nat) (bytes : List Byte) (good cut : Bool)
  /-- a Jarlis control ordered set on port `p`: type, 20-bit payload, and the 66-bit block that carries them: the sync header and
  eight bytes (R333) -/
  | orderedSet (p type payload sync : Nat) (block : List Byte)
  /-- a Punty message: type, sequence fields and payload (R372) -/
  | punty (type : Nat) (payload : List Byte)
  /-- a DMA write to host memory of function `func` -/
  | hostWrite (func addr : Nat) (bytes : List Byte)
  /-- an MSI-X message -/
  | msix (func vector : Nat)
  /-- a pin taken to a level, by the pin's name -/
  | pin (name : String) (level : Level)
  /-- the data of a register read (R460) -/
  | readData (value : Nat)
  /-- a completion on PCIe of a read that is a bus error (R461) -/
  | completerAbort
  /-- an Unsupported Request reported through AER for a posted write (R461) -/
  | unsupportedRequest
  /-- a bus fault of a Gaffer core (R461) -/
  | busFault (core : Nat)
  /-- an AVSBus voltage command in mV (R606) -/
  | avs (mv : Nat)
  /-- a time-of-day message (R423) -/
  | tod (bytes : List Byte)
  /-- an I2C or flash transfer asked of the board, by kind and arguments -/
  | board (kind : String) (args : List Nat)
  /-- an auto-negotiation or training start on port `p`: 0 training, 1 Clause 73, 2 Clause 73 with Jarlis pages; the one technology
  of the base page and the FEC code that its FEC bits match; the next pages (R111, R112) -/
  | linkStart (p mode : Nat) (tech : Option Tech) (fec : Nat) (pages : List (BitVec 48))
  /-- the transmitter of a lane sends Clause 73 DME or, on a forced port, idles (R79, R124) -/
  | transmit (lane : Nat) (dme : Bool)
  deriving DecidableEq, Repr

/-! ### Frames -/

/-- An IP header with the layer-4 fields behind it, as the parser reads them (R157 to R159). `off` is the header's
place in the stored bytes. -/
structure L3 where
  v6 : Bool
  off : Nat
  sip : Nat
  dip : Nat
  proto : Nat
  dscp : Nat
  ecn : Nat
  ttl : Nat
  frag : Nat
  opt : Bool
  flow : Nat
  exts : Nat
  sport : Nat
  dport : Nat
  flags : Nat
  l4off : Nat
  deriving DecidableEq, Repr

/-- A VLAN tag: TPID, TCI and its place in the stored bytes. -/
structure Tag where
  tpid : Nat
  tci : Nat
  off : Nat
  deriving DecidableEq, Repr

/-- The Jarlis header of a received frame (R329). -/
structure JHdr where
  ver : Nat := 1
  type : Nat := 0
  epoch : Nat := 0
  tc : Nat := 0
  colour : Nat := 0
  seqValid : Bool := false
  seq : Nat := 0
  hops : Nat := 0
  srcDev : Nat := 0
  dstDev : Nat := 0
  srcPort : Nat := 0
  dest : Nat := 0
  deriving DecidableEq, Repr

/-- What the parser found (R156 to R160). `ethOff` is where the Ethernet header stands. -/
structure Parse where
  outcome : Nat := 0
  jarlis : Option JHdr := none
  ethOff : Nat := 0
  da : Nat := 0
  sa : Nat := 0
  etype : Nat := 0
  tags : List Tag := []
  lses : List Nat := []
  lseOff : Nat := 0
  bos : Nat := 0
  outer : Option L3 := none
  below : Option L3 := none
  tunnel : Bool := false
  vni : Nat := 0
  inDa : Nat := 0
  inSa : Nat := 0
  inEtype : Nat := 0
  inTags : List Tag := []
  inner : Option L3 := none
  ptp : Bool := false
  cfm : Bool := false
  cfmLevel : Nat := 0
  cfmOp : Nat := 0
  tpidX : Nat := 0
  deriving DecidableEq, Repr

/-- The destination a decision names. -/
inductive Dest where
  | port (p : Nat)
  | group (g : Nat)
  | drop (reason : Nat)
  deriving DecidableEq, Repr

/-- The decision built at lookup (R170), with the remarks of rule and colour actions. Each remark is the value to
write, if any; `dscpIn` says that DSCP is that of the inner IP header. `copyHost` and `copySvc` hold the trap code of the
copy, if one is made. -/
structure Decision where
  dest : Dest := .drop 9
  trap : Nat := 0
  tc : Nat := 0
  queue : Nat := 0
  meter : Option Nat := none
  mir : Option Nat := none
  dscp : Option Nat := none
  pcp : Option Nat := none
  dei : Option Nat := none
  exp : Option Nat := none
  copyHost : Option Nat := none
  copySvc : Option Nat := none
  colour : Nat := 0
  ptp : Nat := 0
  remote : Option (Nat × Nat) := none
  dscpIn : Bool := false
  transit : Bool := false
  deriving DecidableEq, Repr

/-- The fields of the stitch header that every stitch of a frame shares (R27). -/
structure Hdr where
  len : Nat := 64
  src : Nat := 0
  tc : Nat := 0
  colour : Nat := 0
  dtype : Nat := 0
  dest : Nat := 0
  queue : Nat := 0
  epoch : Nat := 0
  ptp : Nat := 0
  tsSec : Nat := 0
  tsNs : Nat := 0
  mirSession : Nat := 0
  mirEn : Bool := false
  gver : Nat := 0
  deriving DecidableEq, Repr

/-- Which count a frame's stitches are charged to (R249 to R251). -/
inductive Charge where
  | none
  | flight (slice : Nat)
  | control
  | ru (q : Nat)
  | su (q : Nat)
  | dru (q : Nat)
  | dsu (q : Nat)
  | mc (slice : Nat)
  deriving DecidableEq, Repr

/-- A frame inside the device: the stored bytes (FCS excluded, R19), what it carries from stage to stage, and the
Skein stitches that hold it. `inj` names the host-queue operation that injected it until it completes (R497), `stampTo`
the PUNT queue and the TAG of its transmit stamp (R416), `jh` says that the bytes begin with a Jarlis header. `ord` is its place
in the order of admission (R37, R274), `rep` says that replication made it (R286). `ckind` to `clen` are what a punt header says of
it (R499); `cport` is the port that a drop capture's drop was counted for (R263). -/
structure Frame where
  id : Nat := 0
  bytes : List Byte := []
  src : Nat := 0
  control : Bool := false
  sfd : Nat := 0
  arrival : Nat := 0
  stitches : List Nat := []
  parse : Parse := {}
  dec : Decision := {}
  hdr : Hdr := {}
  charge : Charge := .none
  n : Nat := 0
  trapCode : Nat := 0
  isCopy : Bool := false
  mirror : Option Nat := none
  inj : Option Nat := none
  stampTo : Option (Nat × Nat) := none
  fixed : Bool := false
  blkR : Nat := 0
  blkS : Nat := 0
  ctx : Option (Nat × Nat) := none
  hops0 : Bool := false
  ckind : Nat := 1
  ccode : Nat := 0
  caux : Nat := 0
  cslice : Nat := 0
  clen : Nat := 0
  jh : Bool := false
  ord : Nat := 0
  rep : Bool := false
  cport : Nat := 0
  deriving DecidableEq, Repr

/-- A frame in reception at a port (R135); `ctrl` says that its EtherType is 0x8808, `code` that an FEC codeword
within it was uncorrectable. -/
structure RxFrame where
  bytes : List Byte := []
  sfd : Nat := 0
  maxLen : Nat := 64
  blkR : Nat := 0
  blkS : Nat := 0
  filtered : Bool := false
  ctrl : Bool := false
  overrun : Bool := false
  tooLong : Bool := false
  code : Bool := false
  deriving DecidableEq, Repr

/-- The pipeline stages a frame passes in order (R24 to R26). -/
structure Pipe where
  taken : List Frame := []
  parsed : List Frame := []
  looked : List Frame := []
  metered : List Frame := []
  edited : List Frame := []
  captured : List Frame := []
  deriving DecidableEq, Repr

/-- A frame in the deep segment of a VOQ (R258): its slots once written, or its staging. `state` 0 in write staging,
1 written, 2 in read staging. `drop` is the Cullet reason under which its read-back will discard it: AGED, or BUFFER_ERROR once
a stack that held part of it has failed (R259). -/
structure DeepFrame where
  frame : Frame
  slots : List Nat
  state : Nat
  drop : Option Nat := none
  deriving DecidableEq, Repr

/-- A VOQ: the on-die segment at its head and the deep segment behind it (R258). -/
structure Voq where
  on : List Frame := []
  deep : List DeepFrame := []
  deriving DecidableEq, Repr

/-- One stitch of the Skein: its references, whether it is retired, and when it last showed an error (R244 to R247). -/
structure Stitch where
  refs : Nat := 0
  retired : Bool := false
  err : Option Nat := none
  deriving DecidableEq, Repr

/-- A frame crossing the Yoke from input `u` to output `d`: stitches sent so far (R277). `mc` marks a tile copy. -/
structure Crossing where
  frame : Frame
  sent : Nat
  mc : Bool
  deriving DecidableEq, Repr

/-- A stitch that has left its input and not yet been checked by the egress tile (R281). -/
structure Transit where
  frame : Frame
  idx : Nat
  mc : Bool
  deriving DecidableEq, Repr

/-- A frame in the departure store of an egress tile (R276, R287): stitches arrived, copies still to be read out, and
whether the frame has been discarded. `expanded` says that a tile copy's member list has been read; `out` holds the charges that
wait for the slots' release: the charge, its stitches and held(j, k) (R287, R317). -/
structure DepFrame where
  frame : Frame
  mc : Bool
  total : Nat
  arrived : List Nat := []
  refs : Nat := 0
  dead : Bool := false
  recIdx : Nat := 0
  expanded : Bool := false
  bad : Bool := false
  out : List (Charge × Nat × Option (Nat × Nat)) := []
  deriving DecidableEq, Repr

/-- An entry of an egress queue: which departure frame, the per-copy edit (VID_OP, VID; R283), LEN after it, what it is charged
to, and `ord` and `rep` as a frame has them (R37). -/
structure EgrEntry where
  tile : Nat
  id : Nat
  hdr : Hdr
  vidOp : Nat := 0
  vid : Nat := 0
  jarlis : Bool := false
  len : Nat
  n : Nat
  charge : Charge
  arrival : Nat
  seq : Option (Nat × Nat × Nat) := none
  ord : Nat := 0
  rep : Bool := false
  deriving DecidableEq, Repr

/-- A frame selected for a physical port and not yet started: the logical queue 16 × port + queue it came from and the
charges it took (R314): tokens by shaper key, deficits by member key, credit blocks, and its place in the Tension
intervals. -/
structure Selected where
  entry : EgrEntry
  q : Nat
  shapers : List (Nat × Int) := []
  grp : Option (Nat × Nat) := none
  que : Option (Nat × Nat) := none
  credit : Nat := 0
  tens : Option (Nat × Nat) := none
  deriving DecidableEq, Repr

/-- A frame in transmission at a physical port: the bytes it sends (R33, R34). `bad` says that it will end with an
inverted FCS. -/
structure TxFrame where
  entry : EgrEntry
  bytes : List Byte
  bad : Bool := false
  deriving DecidableEq, Repr

/-- A DWRR set (R308): position in the set and the credited flag. -/
structure Dwrr where
  ptr : Nat := 0
  credited : Bool := false
  deriving DecidableEq, Repr

/-! ### Trunks and resequencing -/

/-- An occupied slot of a resequencing context (R340): 1 pending, 2 ready, 3 done; the check time, and the frame once
admission holds it. -/
structure Slot where
  state : Nat
  time : Nat
  frame : Option Frame := none
  deriving DecidableEq, Repr

/-- A resequencing context (R340). Sequence numbers are kept modulo 2²⁴. `skip` holds the runs of skipped sequence numbers, each
as its first number and its length: a slot in a run that nothing occupies is a skipped one. `freed` says that a slot has been released since the context was based, `ending` that the context is being
released as at reset (R346). -/
structure Ctx where
  based : Bool := false
  next : Nat := 0
  skip : List (Nat × Nat) := []
  slots : Map (Option Slot) := []
  freed : Bool := false
  ending : Bool := false
  deriving DecidableEq, Repr

/-- What a trunk holds beside its registers (R344): the member pointer, the usable set last seen, the set before the
change, the step of an epoch change (0 none, 1 decided, 2 selection stopped, 3 marker sent), whether the set grew from
empty, and whether a change arose meanwhile. Sets are masks over the ports of the slice. -/
structure Trunk where
  ptr : Nat := 0
  cur : Nat := 0
  oldSet : Nat := 0
  phase : Nat := 0
  fromEmpty : Bool := false
  again : Bool := false
  deriving DecidableEq, Repr

/-- The Jarlis fabric: trunks, TXSEQ by 16 × trunk + class, contexts by 16 × trunk + class, attachment of ports (trunk + 1,
and whether the port has left MEMBERS), LASTF and FREED by 16 × port + class, the round-robin pointer of release per
slice, and the management agent's queue of accepted requests (source device and PDU). -/
structure Jarlis where
  trunk : Map Trunk := []
  txseq : Map Nat := []
  ctx : Map Ctx := []
  attach : Map (Nat × Bool) := []
  trunked : Map Bool := []
  lastf : Map Nat := []
  freed : Map Nat := []
  relPtr : Map Nat := []
  mgmt : List (Nat × List Byte) := []
  awaiting : List Frame := []
  deriving DecidableEq, Repr

/-! ### Units -/

/-- What a port's MAC and link hold beside their registers. `pauseQ` is the time loaded in pause quanta of each priority
or, under PAUSE, of the port (R142); `qXoff` the queues for which the egress logic requests XOFF (R317), `ctrl` the
accepted MAC Control frames that have yet to act (R141). `resv` is the Gather reserve, `blkR` and `blkS` the blocks held of
it and of the shared pool (R137). `came` is the peer's JVER, DOMAIN and DEVID that the port came up with, `identA` and
`identB` its latest ordered sets (JVER and DEVID, DOMAIN; R327, R328). `pending` is the width of a shed in progress, `shedCfg` the
shedding configuration in force (R130), `trained` says that training is complete and the identity is waited for. `sentShed` is the SHED bit
that the port announced (R113), `dark` the receive lanes that the peer has shed, as a mask from the lowest lane (R118), `osDue` the
ordered sets that wait for the gap between frames, by type and payload (R333). -/
structure Port where
  epoch : Nat := 0
  pauseQ : List (Nat × Nat) := []
  blkR : Nat := 0
  blkS : Nat := 0
  resv : Nat := 0
  gatherXoff : Bool := false
  qXoff : List Nat := []
  peerShed : Bool := false
  firstWindow : Bool := true
  windowBits : Nat := 0
  pending : Option Nat := none
  restoring : Bool := false
  restoreQueued : Bool := false
  shedCfg : Word := 0x50280A04
  probing : Bool := false
  came : Option (Nat × Nat × Nat) := none
  identA : Option (Nat × Nat) := none
  identB : Option Nat := none
  ctrl : List (List Byte) := []
  trained : Bool := false
  wakeFails : Nat := 0
  sentShed : Bool := false
  dark : Nat := 0
  osDue : List (Nat × Nat) := []
  deriving DecidableEq, Repr

/-- What admission holds of a queue beside its configured words (R249, R254, R257). -/
structure QCount where
  ru : Nat := 0
  su : Nat := 0
  dru : Nat := 0
  dsu : Nat := 0
  resvEff : Nat := 0
  deepEff : Nat := 0
  spill : Bool := false
  entries : Nat := 0
  deriving DecidableEq, Repr

/-- The frame path of the device: reception to transmission. Keys: ports, tiles, slices and queues by number; a VOQ by
8,256 × slice + q; a multicast queue by 1,024 × slice + 16 × tile + queue; a Yoke pair by 64 × input + output; a plane's
pointer by 64 × plane + index. The free list of stitches (R244) is `free` and then every index from `freeMark` on. -/
structure Path where
  nextId : Nat := 1
  rx : Map (Option RxFrame) := []
  ready : Map (List Frame) := []
  pipe : Map Pipe := []
  pptr : Map Nat := []
  intReady : Map (List Frame) := []
  starved : Map (Option Nat) := []
  flight : Map Nat := []
  stitch : Map Stitch := []
  free : List Nat := []
  freeMark : Nat := 0
  qcfg : Map Word := []
  qcnt : Map QCount := []
  wstage : Nat := 0
  rstage : Nat := 0
  voq : Map Voq := []
  mcq : Map (List Frame) := []
  prog : Map (Option Crossing) := []
  gptr : Map Nat := []
  aptr : Map Nat := []
  sptr : Map Nat := []
  transit : Map (List Transit) := []
  dep : Map (List DepFrame) := []
  egr : Map (List EgrEntry) := []
  rr : Map Nat := []
  setG : Map Dwrr := []
  setQ : Map Dwrr := []
  defG : Map Nat := []
  defQ : Map Nat := []
  tok : Map Int := []
  sel : Map (List Selected) := []
  tx : Map (Option TxFrame) := []
  grp : Map Word := []
  lists : Map Word := []
  members : Map Word := []
  cur : Map Nat := []
  inflight : Map Nat := []
  mirCnt : Map Nat := []
  dmirTok : Nat := 1024
  recalcAgain : Bool := false
  ovcRank : List Nat := [0xFF, 0xFF]
  ovcCut : List (List (Nat × Nat)) := [[], []]
  oldBusy : Map Bool := []
  mcLeft : Map Nat := []
  shpFill : Map Bool := []
  deriving DecidableEq, Repr


/-! ### Host queues and services -/

/-- An entry fetched from an SQ and not yet finished (R488): a number of its own, its SQ, its index, its batch and its 64
bytes. `taken` says that what it asks for has begun, `fault` that the entry could not be read. -/
structure HostOp where
  id : Nat
  sq : Nat
  idx : Nat
  bno : Nat
  bytes : List Byte
  taken : Bool := false
  fault : Bool := false
  deriving DecidableEq, Repr

/-- A posted buffer (R498): the POST entry, what has been put into it, and whether a selection has claimed it. An entry that fails its
checks stands here too, with its status `bad`, until the buffers posted before it have completed (R492). -/
structure PostBuf where
  op : HostOp
  addr : Nat
  len : Nat
  data : List Byte := []
  recs : Nat := 0
  first : Nat := 0
  claimed : Bool := false
  bad : Nat := 0
  deriving DecidableEq, Repr

/-- A completion due or waiting in the holding store of a CQ (R490, R493). -/
structure Cqe where
  tag : Nat
  res : List Byte
  status : Nat
  detail : Nat
  sq : Nat
  batch : Bool := false
  berr : Bool := false
  deriving DecidableEq, Repr

/-- A frame selected for port 512 or 515: the selection, its PUNT queue and the buffer it has claimed (R500). -/
structure PuntRec where
  port : Nat
  sel : Selected
  pq : Nat
  buf : Nat
  deriving DecidableEq, Repr

/-- A transmit stamp to be delivered (R416): the port it returns to, the PUNT queue, the TAG and its 16 bytes. -/
structure StampRec where
  port : Nat
  pq : Nat
  tag : Nat
  stamp : List Byte
  deriving DecidableEq, Repr

/-- What the host queues hold beside their registers: the number of the next operation, operations in flight, posted buffers and completions due by queue,
whether the CQ has filled its ring once, completions not yet signalled and whether a timer runs, the batch being fetched, the failed and the waiting batches, the
round-robin of fetching, and per function Bus Master Enable, Memory Space Enable and D3hot. -/
structure HostQ where
  nextOp : Nat := 1
  ops : List HostOp := []
  bufs : Map (List PostBuf) := []
  due : Map (List Cqe) := []
  wrapped : Map Bool := []
  unsig : Map Nat := []
  timer : Map Bool := []
  bno : Map Nat := []
  bfail : Map (List Nat) := []
  bwait : Map (List (Nat × Cqe)) := []
  rr : Nat := 0
  stopped : Map Bool := []
  injRr : Nat := 0
  bme : Map Bool := []
  mse : Map Bool := []
  d3 : Map Bool := []
  vfEn : Bool := false
  punt : List PuntRec := []
  stamps : List StampRec := []
  msixPend : Map Bool := []
  deriving DecidableEq, Repr

/-- The service receive store of port 513 (R542): its records, oldest first. -/
structure SvcRx where
  store : List (List Byte) := []
  deriving DecidableEq, Repr

/-! ### Rules and meters -/

/-- The rule table (R166, R167): words 0 to 43 by 64 × rule + word, VALID of a rule as a mask of the slices whose copy has
it set, HIT by 65,536 × slice + rule. -/
structure Rules where
  word : Map Word := []
  valid : Map Nat := []
  hit : Map Nat := []
  deriving DecidableEq, Repr

/-- A meter (R228, R233): its configuration, the two buckets in 1/200,000 byte, LAST, and frames and bytes by colour.
`fresh` says that no commit has been made, `bad` that an uncorrectable error has disabled it (R237). -/
structure Meter where
  cir : Nat := 0
  eir : Nat := 0
  cbs : Nat := 0
  ebs : Nat := 0
  prof : Nat := 0
  c : Nat := 0
  e : Nat := 0
  last : Nat := 0
  cnt : List Nat := [0, 0, 0, 0, 0, 0]
  fresh : Bool := true
  bad : Bool := false
  deriving DecidableEq, Repr

/-- The meters of all slices, by 16,384 × slice + meter, and per slice window the staging copy of words 0 to 2, the even
words held (by 16 × slice + field) and the latched 32 words (R233, R234). -/
structure Meters where
  m : Map Meter := []
  stage : Map (List Nat) := []
  even : Map Nat := []
  latch : Map (List Nat) := []
  deriving DecidableEq, Repr

/-! ### The Marver table -/

/-- An entry of the Marver table (R188): the 32-byte hash block, RESULT, AGE and flags; `since` orders the overflow store. -/
structure MrvEntry where
  key : List Byte
  result : Nat
  age : Nat
  learned : Bool
  static : Bool
  since : Nat := 0
  deriving DecidableEq, Repr

/-- A tuple of a learn cache (R200): FID, source address, source (port, REMOTE, device) and the clock of entry. -/
structure LearnTuple where
  fid : Nat
  mac : Nat
  src : Nat × Bool × Nat
  time : Nat
  deriving DecidableEq, Repr

/-- A learn notification in the FIFO (R199). -/
structure LearnNote where
  kind : Nat
  port : Nat
  remote : Bool
  dev : Nat
  vid : Nat
  key : List Byte
  old : Nat
  deriving DecidableEq, Repr

/-- The open audit batch of table commands (R208): origin, its number, commands, TSEQs, the first failure and the CRC. -/
structure MrvBatch where
  origin : Nat
  oid : Nat
  count : Nat
  first : Nat
  last : Nat
  status : Nat
  crc : Nat
  deriving DecidableEq, Repr

/-- A BULK that the engine has begun and not finished (R194): its source, its entry and array, the next sub-entry, the status of the
first failure, the latest TSEQ and the failing sub-entry; and whether a reset of its queue has taken its completion away (R501). -/
structure BulkRun where
  src : TblSrc
  entry : List Byte
  arr : List Byte
  i : Nat := 0
  st : Nat := 0
  tseq : Nat
  loc : Option Nat := none
  gone : Bool := false
  deriving DecidableEq, Repr

/-- The Marver table and its engine (R182 to R211). Entries stand under the index of their lowest slot. `sweep` is the next
entry index of a running sweep, `behind` the keys that promotions have moved behind it, `sweepFirst` and `sweepLim` what the sweep took
at its tick, `sweepDef` that it removes nothing and `sweepTold` that this has been counted; `swept` holds the entries it has removed:
count, TSEQs and digest. `firstSweep` says that the next sweep is a first sweep. `scrub` is the region being read with its digest and
TSEQ. `fwQ` is the internal queue of the firmware, each command with the Gaffer core that issued it; `fwStatic` and `fwAged` are the
notifications it has counted (R202). `rr` is the command queue that the engine's round-robin looks at first (R192) and `bulk` the BULK
that it has begun. -/
structure Marver where
  tab : Map (Option MrvEntry) := []
  ovfNo : Nat := 0
  cache : Map (List LearnTuple) := []
  tokens : Nat := 4096
  fifo : List LearnNote := []
  lost : Bool := false
  nseqHost : Nat := 0
  nseqFw : Nat := 0
  firstSweep : Bool := true
  sweep : Option Nat := none
  sweepFirst : Bool := false
  sweepLim : Nat := 0
  sweepDef : Bool := false
  sweepTold : Bool := false
  behind : List (List Byte) := []
  swept : Nat × Nat × Nat × Nat := (0, 0, 0, 0)
  batch : Option MrvBatch := none
  scrub : Option (Nat × Nat × Nat) := none
  fwQ : List (Nat × List Byte) := []
  fwInserts : Nat := 0
  fwFull : Nat := 0
  fwStatic : Nat := 0
  fwAged : Nat := 0
  rr : Nat := 0
  bulk : Option BulkRun := none
  deriving DecidableEq, Repr

/-- The audit ring and the open summary (R554 to R557). A record is held as its 32 bytes in slot ASEQ mod 65,536.
`unlogged` counts the changes made since the last HW_OVERFLOW record, with the seconds of the first and last. -/
structure Audit where
  ring : Map (List Byte) := []
  unlogged : Nat := 0
  unlogFirst : Nat := 0
  unlogLast : Nat := 0
  sumOpen : Bool := false
  sumFirst : Nat := 0
  sumLast : Nat := 0
  sumStart : Nat := 0
  sumEnd : Nat := 0
  sumN : Nat := 0
  sumBy : List Nat := [0, 0, 0, 0, 0, 0]
  sumCrc : Nat := 0xFFFFFFFF
  sumClosed : Nat := 0
  sumEver : Bool := false
  deriving DecidableEq, Repr

/-- The Lehr ledger (R558 to R565): 4 MiB of non-volatile memory, the running accumulators in the form of a slot's
body (word offset, word), and the write positions of its circular logs. `evWin` holds when the latest 64 entries of each
class were written, newest first (R563). `isOpen` says that the ledger has been opened since
the latest assertion of SYS_RST_N. -/
structure Ledger where
  mem : Map Byte := []
  acc : Map Word := []
  next : Nat := 1
  sumIdx : Nat := 0
  castIdx : Nat := 0
  prefIdx : Nat := 0
  eraseIdx : Nat := 0
  eseq : Nat := 0
  evWin : Map (List Nat) := []
  evOver : Map Nat := []
  evWait : List (Nat × Nat × Nat) := []
  waitDelta : Bool := false
  lastCkpt : Nat := 0
  everCkpt : Bool := false
  deferred : Bool := false
  erasing : Bool := false
  ckptRun : Bool := false
  isOpen : Bool := false
  lifeBase : Nat := 0
  tjMs : Map Nat := []
  roleMs : Map Nat := []
  deriving DecidableEq, Repr

/-- Where a group's signal-fail flags come from (R363): link-down or a command, of each member. -/
structure GrpFlags where
  linkW : Bool := false
  linkP : Bool := false
  cmdW : Bool := false
  cmdP : Bool := false
  deriving DecidableEq, Repr

/-- A Tension interval record of a port (R386, R387). -/
structure TRec where
  count : Nat := 0
  bytes : Nat := 0
  sum : Nat := 0
  guard : Nat := 0
  late : Nat := 0
  drift : Bool := false
  repl : Bool := false
  deriving DecidableEq, Repr

/-- A release of a queue received by the standby (R384): CUT_Q and the listed CRCs. -/
structure Release where
  cutq : Nat
  crcs : List Nat
  deriving DecidableEq, Repr

/-- Bind-Off in progress (R384). `side` is 1 on the releasing active, 2 on the receiving standby. `sent` holds, per queue
16 × port + queue, (TS, CRC) of the frames sent in the band; `muted` the queues the active has released; `rel` the
releases the standby received; `ready` that READY has come, `donePending` that DONE waits for the acknowledgement; `guard` is the
BIND_GUARD it began with (R393). -/
structure BindOff where
  side : Nat := 0
  cut : Nat := 0
  sent : Map (List (Nat × Nat)) := []
  muted : Map Bool := []
  rel : Map (Option Release) := []
  donePending : Bool := false
  ready : Bool := false
  guard : Nat := 0
  deriving DecidableEq, Repr

/-- What a resync streams: the replicated locations as they stood at M (R378). -/
structure SyncSnap where
  regs : Map Word
  qcfg : Map Word
  rules : Rules
  meters : Map Meter
  grp : Map Word
  lists : Map Word
  members : Map Word
  cur : Map Nat
  tab : Map (Option MrvEntry)
  deriving DecidableEq, Repr

/-- Received Punty frames whose records wait: of each, oldest first, the number of its records and the stitches that hold it (R372). -/
abbrev Held := List (Nat × List Nat)

/-- A word of UNT_TENSION_CFG that a write of the last second replaced (R398): it still governs the intervals before `first`.
`clock` is the core clock of the write. -/
structure TensWord where
  first : Nat
  word : Nat
  clock : Nat
  deriving DecidableEq, Repr

/-- One unit of a pair (R368 to R391): what it holds beside UNT registers. `tensOld` is newest last. `actOut` and `relqOut` are the levels of its
output pins. `store` is the active's replication store as (PSEQ, record), `snap` and `syncPos` the SYNC stream that it sends and the
next record of it, `stale` that the standby's SYNCED is from before replication stopped. `live` holds the standby's records received in
order and not yet applied, `syncQ` the same of SYNC records, `syncNext` the next SYNC record wanted, `syncLast` the M of the
message that ended the stream, `syncEnded` that the last SYNC record of a resync has been applied; `heldLive` and `heldSync` are the frames
that hold them. `offN` and `offSum` average the pair offset over 1,024 exchanges; `replIn` holds the Tension intervals in which
a replicated change was made or applied. -/
structure Unit where
  released : Bool := false
  actOut : Level := .z
  relqOut : Level := .z
  muted : Bool := false
  guard : Bool := false
  roleWait : Bool := false
  relq : Bool := false
  relinquishing : Bool := false
  wasActive : Bool := false
  missed : Nat := 0
  hbSeen : Bool := false
  hbSeq : Nat := 0
  peerRole : Option Nat := none
  peerSynced : Bool := false
  peerFail : Bool := false
  peerTx : Nat := 0
  peerRx : Nat := 0
  offN : Nat := 0
  offSum : Int := 0
  repl : Bool := false
  resync : Bool := false
  syncStarted : Bool := false
  syncEnded : Bool := false
  syncNext : Nat := 0
  syncQ : List (List Byte) := []
  syncLast : Option Nat := none
  snap : Option SyncSnap := none
  syncPos : Nat := 0
  stale : Bool := false
  heldLive : Held := []
  heldSync : Held := []
  mark : Nat := 0
  store : List (Nat × List Byte) := []
  live : List (Nat × List Byte) := []
  replIn : Map Bool := []
  rejectRepl : Bool := false
  bind : BindOff := {}
  tens : Map TRec := []
  win : Map (List Nat) := []
  excRun : Map Nat := []
  bistPasses : Nat := 0
  tensOld : List TensWord := []
  deriving DecidableEq, Repr

/-! ### The deep store -/

/-- A request for one burst in the queue of a pseudo-channel (R439): how many younger row hits have passed it. -/
structure DramReq where
  write : Bool
  slot : Nat
  burst : Nat
  passed : Nat := 0
  deriving DecidableEq, Repr

/-- The deep store beside its registers (R433 to R457). Free lists by 32 × stack + PC: the high-water mark in slots, the
cache and the free blocks, each with the indices it holds; `rot` is the place in the allocation rotation (stack in service,
PC). `mem` holds slots of 256 bytes, `req` the requests of a PC, `openRow` the open row by 64 × (32 × stack + PC) + bank,
`rotBank` the bank next in the rotating mode. Rows are keyed by the slot index without its quarter. `errs` holds the rows of
the latest 256 uncorrectable errors with their times, `retTimes` the times of row retirements of a stack. -/
structure DeepStore where
  mark : Map Nat := []
  cache : Map (List Nat) := []
  blocks : Map (List (Nat × List Nat)) := []
  rot : Nat × Nat := (0, 0)
  mem : Map (List Byte) := []
  req : Map (List DramReq) := []
  openRow : Map (Option Nat) := []
  rotBank : Map Nat := []
  retired : Map Bool := []
  errs : List (Nat × Nat) := []
  retTimes : Map (List Nat) := []
  staged : Map Word := []
  latch : Map Word := []
  deriving DecidableEq, Repr

/-! ### Time -/

/-- The time unit beside its registers (R407, R417 to R423): f, the integrator and the average in units of 2⁻²⁴ ppb, the
state before holdover, the part of a 2⁻¹⁶ ns unit that counting has not yet carried (2⁻⁴⁰ of it), the second of the latest
PPS_OUT edge whose message is still to be sent, whether a received time-of-day message waits for its edge, and the words
latched by a read of word 0 of TIM_NOW (0 to 3), TIM_FT (4 to 7) or TIM_PPS_IN_TS (8 to 11). -/
structure TimeUnit where
  f : Int := 0
  i : Int := 0
  avg : Int := 0
  before : Nat := 1
  part : Nat := 0
  edge : Option Nat := none
  rxWait : Bool := false
  latch : Map Word := []
  deriving DecidableEq, Repr

/-! ### DMA and pools -/

/-- A burst in progress on a channel (R512): the request line it serves, if any, its bytes, and whether its request has been
withdrawn since it started (R514). -/
structure Burst where
  line : Option Nat := none
  bytes : Nat := 0
  cut : Bool := false
  deriving DecidableEq, Repr

/-- A descriptor in progress on a channel (R518): its entry, the destination bytes written so far, and whether its queue has been
reset, so that it ends with its burst (R501). -/
structure Desc where
  op : HostOp
  done : Nat := 0
  gone : Bool := false
  deriving DecidableEq, Repr

/-- The DMA engine beside its registers (R510 to R514): descriptor and burst by channel, last(0) to last(3), the line each
line-mode channel served last, and how much of a line's head record has been moved. -/
structure DmaEng where
  desc : Map (Option Desc) := []
  burst : Map (Option Burst) := []
  last : List Nat := [31, 31, 31, 31]
  lineAt : Map Nat := []
  moved : Map Nat := []
  deriving DecidableEq, Repr

/-- A buffer of the message pools (R522): its owner while held, its GEN, and whether a free waits for the descriptors that
name it. -/
structure PoolBuf where
  owner : Option Nat := none
  gen : Nat := 0
  dying : Bool := false
  deriving DecidableEq, Repr

/-- The message pools (R520): buffers by 4,096 × class + index, and their memory by 1 MiB × class + offset. -/
structure Pool where
  buf : Map PoolBuf := []
  mem : Map Byte := []
  deriving DecidableEq, Repr

/-! ### The Gaffer services -/

/-- A MEP (R539, R540): its configuration, and LOC, RDI, mismatch, the CCMs received and FT of the latest valid one. -/
structure Mep where
  port : Nat
  vid : Nat
  level : Nat
  up : Bool
  period : Nat
  pcp : Nat
  mepid : Nat
  rmepid : Nat
  bind : Bool
  side : Bool
  group : Nat
  meg : List Byte
  loc : Bool := false
  rdi : Bool := false
  mismatch : Bool := false
  rx : Nat := 0
  lastRx : Nat := 0
  deriving DecidableEq, Repr

/-- Flash work that a mailbox command has begun (R537): the command, the slot, the offset, the length, and the bytes to
program, none for an erase. -/
structure FlashWork where
  op : Nat
  slot : Nat
  off : Nat
  len : Nat
  data : Option (List Byte)
  deriving DecidableEq, Repr

/-- What the firmware holds for its services (R530 to R544): MEPs, linear and ring protection by group or ring with the bytes
of their commands, the PTP profile and ports, the JMGMT commands outstanding (operation and MTAG) and the latest MTAG, the
commands that wait for a survey or for flash work, the times of the latest watchdog expiries of each core, the version of the
firmware that runs, where its code lies in shared SRAM, and the mailbox SQ that the round-robin looks at first (R535). -/
structure Gaffer where
  mep : Map (Option Mep) := []
  linear : Map (List Byte) := []
  ring : Map (List Byte) := []
  ptpClock : List Byte := []
  ptpPort : Map (List Byte) := []
  jm : List (Nat × Nat) := []
  mtag : Nat := 0
  surveyOps : List Nat := []
  flashOp : Option FlashWork := none
  expiries : Map (List Nat) := []
  fwVer : Nat := 0
  code : Nat × Nat := (0, 0)
  rr : Nat := 0
  deriving DecidableEq, Repr

/-! ### Survey, boot, fuses and flash -/

/-- The Survey beside its registers (R79 to R88): lanes still to be surveyed and masters still to be read, who asked (none for
a survey that the device started itself), the ports to resolve afterwards with the requester's origin, and the ports that
await a partner; `direct` are the masters without a switch (R83). -/
structure Survey where
  lanes : List Nat := []
  masters : List Nat := []
  by_ : Option Requester := none
  auto : List Nat := []
  resolve : List Nat := []
  waiting : List Nat := []
  direct : List Nat := []
  deriving DecidableEq, Repr

/-- A PORT record's entry with its rate (R54): port, WIDTH, RATE, FEC, AN, KIND. -/
structure PortRec where
  port : Nat
  width : Nat
  rate : Nat
  fec : Nat
  an : Nat
  kind : Nat
  resolved : Option Nat := none
  deriving DecidableEq, Repr

/-- How the flash is driven (R44): 1S-1S-1S at 25 MHz while its SFDP tables have not been read, 1S-1S-1S at 100 MHz, or 8D-8D-8D at
200 MHz. -/
inductive Xspi where
  | discovery
  | single
  | octal
  deriving DecidableEq, Repr

/-- Cast-On (R41 to R75): the straps sampled, FT at the start and at the latest attempt, the slot and FAILS of the attempt in
progress, the step left for STATE 0xE, the image as read into the Skein with its digest, the index of the next configuration record,
whether the watchdog runs, the PORT and RATE_POLICY records of the image, and whether core 0 has still to report ready. `xspi` is how
the flash is driven, `undo` the AON and PCIe words that records have written with what they held before, `pool0` the message pools before
the records (R62). -/
structure Boot where
  retry : Bool := false
  single : Bool := false
  run : Bool := false
  start : Nat := 0
  attempt : Nat := 0
  slot : Nat := 3
  fails : Nat := 0
  forced : Option Nat := none
  left : Option Nat := none
  image : List Byte := []
  digest : List Byte := []
  recIdx : Nat := 0
  watchdog : Bool := false
  ports : List PortRec := []
  policy : List (List Byte) := []
  fwWait : Bool := false
  xspi : Xspi := .discovery
  undo : Map (Option Word) := []
  pool0 : Option Pool := none
  deriving DecidableEq, Repr

/-- What the fuses hold (R50, R574): the two key hashes, KEY_REVOKE and the number of SVN bits burnt. -/
structure Otp where
  key0 : List Byte := []
  key1 : List Byte := []
  revoke : Nat := 0
  svn : Nat := 0
  deriving DecidableEq, Repr

/-- The fuses: as burnt, as in force since the latest Cast-On start (R574), and a programming in progress (CMD and SLOT) with
the staged bytes. -/
structure Fuses where
  otp : Otp := {}
  now : Otp := {}
  busy : Option (Nat × Nat) := none
  stage : List Byte := []
  deriving DecidableEq, Repr

/-- The attached flash (R44, R45): whether it answers, whether its SFDP tables advertise 8D-8D-8D with a data strobe, S in bytes, its erase size, and its contents, 0xFF where nothing has been
programmed. -/
structure Flash where
  present : Bool := true
  octal : Bool := true
  quarter : Nat := 16777216
  erase : Nat := 4096
  mem : Map Byte := []
  deriving DecidableEq, Repr

/-! ### Register bus, counters and power -/

/-- A pending complement pair of a block (R468). -/
structure CpwPend where
  addr : Nat
  value : Nat
  by_ : Requester
  deriving DecidableEq, Repr

/-- The register bus beside its registers: the pending pair of each block, the counters copied at the snapshot instant and not
yet written to their holding copies (R472), and the latched words of indirect windows and time words, by the offset of the
DATA register or of word 0. -/
structure BusUnit where
  cpw : Map (Option CpwPend) := []
  snap : Map Word := []
  latch : Map (List Nat) := []
  deriving DecidableEq, Repr

/-- Telemetry beside its registers (R570): samples taken by each set and the records still to be written, each with the ring's base as
it was at the sample (R576). -/
structure Telemetry where
  seq : Map Nat := []
  wait : Map (List (Nat × List Byte)) := []
  deriving DecidableEq, Repr

/-- Power beside its registers (R579, R588, R606): domains that are waking, in request order; when each supply left its window (FT
and whether upwards); the AVS target before the latest transfer, and whether a transfer is due, waits for its acknowledgement, was not
acknowledged, or has yet to narrow the windows; the level of PERST_N; the reference inputs that are missing (0 to 15 SerDes, 16 AON, 17 PCIe), and the
SerDes inputs that returned and are not used again yet. `retune` holds by tile the PLLs to be retuned, in write order (R99), `assign` the
ports by lane index and former lanes whose PLL assignment waits for the tile to be awake (R581). -/
structure Power where
  waking : List Nat := []
  out : Map (Option (Nat × Bool)) := []
  avsOld : Nat := 800
  avsDue : Bool := false
  avsWait : Bool := false
  avsFail : Bool := false
  avsNarrow : Bool := false
  perst : Bool := false
  refDown : Map Bool := []
  refIdle : Map Bool := []
  retune : Map (List Nat) := []
  assign : Map (List (Nat × Nat)) := []
  deriving DecidableEq, Repr

/-! ### The device -/

/-- Everything the block holds. `clock` counts core clocks (625 ps each, R11), `ft` and `tod` are FT and ToD in units of
2⁻¹⁶ ns (R407) and `stepAt` is FT at the latest step of ToD, `sram` the 16 MiB of Gaffer shared SRAM,
`coreSram` the local SRAM of the Gaffer cores by 262,144 × core + offset (R10, R577), `freeCtr` counts the free values drawn (the model's own field), `out` is what was put out, newest
first. -/
structure Device where
  regs : Map Word := []
  clock : Nat := 0
  tod : Nat := 0
  ft : Nat := 0
  freeCtr : Nat := 0
  out : List Output := []
  ports : Map Port := []
  path : Path := {}
  audit : Audit := {}
  ledger : Ledger := {}
  unit : Unit := {}
  grpFlags : Map GrpFlags := []
  nopath : Map Bool := []
  jarlis : Jarlis := {}
  host : HostQ := {}
  svcRx : SvcRx := {}
  stepAt : Option Nat := none
  mrv : Marver := {}
  sram : Map Byte := []
  coreSram : Map Byte := []
  rules : Rules := {}
  meters : Meters := {}
  deep : DeepStore := {}
  time : TimeUnit := {}
  dma : DmaEng := {}
  pool : Pool := {}
  gaffer : Gaffer := {}
  survey : Survey := {}
  boot : Boot := {}
  fuses : Fuses := {}
  flash : Flash := {}
  bus : BusUnit := {}
  tel : Telemetry := {}
  power : Power := {}
  deriving DecidableEq, Repr

/-- The whole state: the device, and the commands that wait, first in first out. -/
structure State where
  dev : Device := {}
  pending : List Instr := []
  deriving DecidableEq, Repr

/-- Why the machine stops on a fault. No command faults: every access the spec forbids is reported by the device itself
as a bus error or a rejected attempt (R461), and the machine goes on. -/
inductive Fault where
  /-- raised by nothing; kept so that the type is inhabited (safe) -/
  | none
  deriving DecidableEq, Repr

/-- Why the machine refuses a command. -/
inductive Refusal where
  /-- a command that the model gives no meaning; raised by the command's arm in exec (safe) -/
  | notModelled (mnemonic : String)
  deriving DecidableEq, Repr

/-- The state after SYS_RST_N has been asserted (R41): every register at its reset value (listed nowhere, since an
unlisted word reads as it), every store empty, no command waiting. -/
def State.reset : State := {}

end Sys2Proof.Machine
end

