-- ==== Sys2Proof/Machine/Ops.lean ====
section
/-!
DEFINITION. The named operations over the state: sparse stores, register words and fields, counters, free values,
outputs, checksums, and the lift of a unit's effect to a command's meaning.
-/
namespace Sys2Proof.Machine

/-! ### Sparse stores -/

/-- What key `k` reads as: its entry, or the default of the key. -/
def mget {α : Type} (d : Nat → α) : Map α → Nat → α
  | [], k => d k
  | (j, v) :: m, k => if j = k then v else mget d m k

/-- The store without the entry of key `k`. -/
def mdrop {α : Type} (m : Map α) (k : Nat) : Map α := m.filter fun e => !decide (e.1 = k)

/-- List an entry at its place among rising keys. -/
def mput {α : Type} : Map α → Nat → α → Map α
  | [], k, v => [(k, v)]
  | (j, w) :: m, k, v => if k < j then (k, v) :: (j, w) :: m else (j, w) :: mput m k v

/-- Write key `k`: the one canonical form is kept, an entry equal to the default is not listed. -/
def mset {α : Type} [DecidableEq α] (d : Nat → α) (m : Map α) (k : Nat) (v : α) : Map α :=
  if v = d k then mdrop m k else mput (mdrop m k) k v

/-- Every key above `b` and rising, no entry equal to its default. -/
def mwfFrom {α : Type} [DecidableEq α] (d : Nat → α) : Nat → Map α → Bool
  | _, [] => true
  | b, (k, v) :: m => decide (b ≤ k) && !decide (v = d k) && mwfFrom d (k + 1) m

/-- A store is in its canonical form: keys strictly rising, no entry equal to what an unlisted key reads as. -/
def mwf {α : Type} [DecidableEq α] (d : Nat → α) (m : Map α) : Bool := mwfFrom d 0 m

/-- Read, change, write back. -/
def mupd {α : Type} [DecidableEq α] (d : Nat → α) (m : Map α) (k : Nat) (f : α → α) : Map α :=
  mset d m k (f (mget d m k))

/-- The entries whose keys lie in `lo` to `hi - 1`. -/
def mrange {α : Type} (m : Map α) (lo hi : Nat) : Map α := m.filter fun e => decide (lo ≤ e.1) && decide (e.1 < hi)

/-- The store without the entries whose keys lie in `lo` to `hi - 1`: they read as their defaults again. -/
def merase {α : Type} (m : Map α) (lo hi : Nat) : Map α := m.filter fun e => !(decide (lo ≤ e.1) && decide (e.1 < hi))

/-! ### Bits and bytes -/

/-- Bits [hi:lo] of a number. -/
def bits (v hi lo : Nat) : Nat := v / 2 ^ lo % 2 ^ (hi + 1 - lo)

/-- Bit `i` of a number. -/
def bit (v i : Nat) : Bool := v.testBit i

/-- A Bool as 0 or 1. -/
def b2n (b : Bool) : Nat := if b then 1 else 0

/-- The signed value of the low `w` bits. -/
def signed (w v : Nat) : Int := if v % 2 ^ w < 2 ^ (w - 1) then (v % 2 ^ w : Int) else (v % 2 ^ w : Int) - 2 ^ w

/-- The low `w` bits that hold a signed value. -/
def unsigned (w : Nat) (i : Int) : Nat := (i % (2 ^ w : Int)).toNat

/-- `n` bytes of a number, least significant first (R12). -/
def leBytes : Nat → Nat → List Byte
  | 0, _ => []
  | n + 1, v => BitVec.ofNat 8 v :: leBytes n (v / 256)

/-- `n` bytes of a number in network byte order (R12). -/
def beBytes (n v : Nat) : List Byte := (leBytes n v).reverse

/-- The number little-endian bytes hold. -/
def leNat : List Byte → Nat
  | [] => 0
  | b :: bs => b.toNat + 256 * leNat bs

/-- The number bytes in network order hold. -/
def beNat (bs : List Byte) : Nat := bs.foldl (fun a b => a * 256 + b.toNat) 0

/-- Bytes `off` to `off + n - 1`, those beyond the end reading as 0. -/
def slice (bs : List Byte) (off n : Nat) : List Byte :=
  let s := (bs.drop off).take n
  s ++ List.replicate (n - s.length) 0

/-- Byte `i`, 0 beyond the end. -/
def byteAt (bs : List Byte) (i : Nat) : Nat := (bs.getD i 0).toNat

/-- Two bytes at `i` in network order. -/
def be16 (bs : List Byte) (i : Nat) : Nat := beNat (slice bs i 2)

/-- Four bytes at `i` in network order. -/
def be32 (bs : List Byte) (i : Nat) : Nat := beNat (slice bs i 4)

/-- Put bytes over those at `off`. -/
def patch (bs : List Byte) (off : Nat) (ps : List Byte) : List Byte :=
  bs.take off ++ ps ++ bs.drop (off + ps.length)

/-- The indices of the bits set in the low `w` bits. -/
def bitsSet (w v : Nat) : List Nat := (List.range w).filter fun i => v.testBit i

/-- Set or clear bit `i`. -/
def setBit (v i : Nat) (b : Bool) : Nat :=
  if b then v ||| 2 ^ i else if v.testBit i then v - 2 ^ i else v

/-! ### Checksums -/

/-- One step of a reflected CRC over the bits of a register. -/
def crcShift (poly : Nat) : Nat → Nat → Nat
  | 0, c => c
  | n + 1, c => crcShift poly n (if c % 2 = 1 then (c / 2) ^^^ poly else c / 2)

/-- CRC-32C state after more bytes (standard Castagnoli CRC, reflected). -/
def crc32cUpdate (c : Nat) (bs : List Byte) : Nat :=
  bs.foldl (fun c b => crcShift 0x82F63B78 8 (c ^^^ b.toNat)) c

/-- The standard CRC-32C of bytes. -/
def crc32c (bs : List Byte) : Nat := crc32cUpdate 0xFFFFFFFF bs ^^^ 0xFFFFFFFF

/-- One step of the unreflected CRC-16 of R618. -/
def crc16Shift : Nat → Nat → Nat
  | 0, c => c
  | n + 1, c => crc16Shift n (if c / 32768 % 2 = 1 then (c * 2 % 65536) ^^^ 0x1021 else c * 2 % 65536)

/-- The CRC-16 of R618: polynomial 0x1021, initial value 0xFFFF, unreflected, no final inversion. -/
def crc16 (bs : List Byte) : Nat := bs.foldl (fun c b => crc16Shift 8 (c ^^^ (b.toNat * 256))) 0xFFFF

/-- The Ethernet CRC-32, reflected, as a frame's FCS carries it. -/
def crc32 (bs : List Byte) : Nat :=
  (bs.foldl (fun c b => crcShift 0xEDB88320 8 (c ^^^ b.toNat)) 0xFFFFFFFF) ^^^ 0xFFFFFFFF

/-- One's-complement sum of 16-bit words in network order. -/
def onesSum : List Byte → Nat
  | a :: b :: rest => let s := a.toNat * 256 + b.toNat + onesSum rest; s % 65536 + s / 65536
  | [a] => a.toNat * 256
  | [] => 0

/-! ### Registers -/

/-- The word at a BAR0 offset. -/
def Device.rd (d : Device) (off : Nat) : Nat := (mget regDflt d.regs off).toNat

/-- Store the word at a BAR0 offset. -/
def Device.wr (d : Device) (off v : Nat) : Device := { d with regs := mset regDflt d.regs off (BitVec.ofNat 32 v) }

/-- The 64-bit register at an offset (R460: bits [31:0] at the offset, [63:32] at offset + 4). -/
def Device.rd64 (d : Device) (off : Nat) : Nat := d.rd off + 0x100000000 * d.rd (off + 4)

/-- Store a 64-bit register. -/
def Device.wr64 (d : Device) (off v : Nat) : Device := (d.wr off v).wr (off + 4) (v / 0x100000000)

/-- The value of a field. -/
def Device.get (d : Device) (f : Field) : Nat :=
  bits (if f.hi < 32 then d.rd f.off else d.rd64 f.off) f.hi f.lo

/-- A one-bit field as a Bool. -/
def Device.flag (d : Device) (f : Field) : Bool := d.get f != 0

/-- A number with bits [hi:lo] replaced. -/
def withBits (w hi lo v : Nat) : Nat :=
  w % 2 ^ lo + 2 ^ lo * (v % 2 ^ (hi + 1 - lo)) + 2 ^ (hi + 1) * (w / 2 ^ (hi + 1))

/-- Hardware stores a field. -/
def Device.set (d : Device) (f : Field) (v : Nat) : Device :=
  if f.hi < 32 then d.wr f.off (withBits (d.rd f.off) f.hi f.lo v)
  else d.wr64 f.off (withBits (d.rd64 f.off) f.hi f.lo v)

/-- Hardware sets or clears a one-bit field. -/
def Device.put (d : Device) (f : Field) (b : Bool) : Device := d.set f (b2n b)

/-- A field that counts, wrapping at its width. -/
def Device.inc (d : Device) (f : Field) (n : Nat := 1) : Device := d.set f (d.get f + n)

/-- A field that counts up to its largest value. -/
def Device.incSat (d : Device) (f : Field) : Device := d.set f (min (d.get f + 1) (2 ^ (f.hi + 1 - f.lo) - 1))

/-- Several effects in order. -/
def Device.each {α : Type} (d : Device) (l : List α) (f : Device → α → Device) : Device := l.foldl f d

/-- Write bytes to the shared SRAM. -/
def Device.sramWrite (d : Device) (off : Nat) (bs : List Byte) : Device :=
  { d with sram := (List.range bs.length).foldl (fun m i => mset (fun _ => 0) m (off + i) (bs.getD i 0)) d.sram }

/-- A requester writes bytes to the shared SRAM: where it holds code they are not written (R534). -/
def Device.sramStore (d : Device) (off : Nat) (bs : List Byte) : Device :=
  (List.range bs.length).foldl (fun d i =>
    if d.gaffer.code.1 ≤ off + i ∧ off + i < d.gaffer.code.2 then d else d.sramWrite (off + i) [bs.getD i 0]) d

/-- Bytes of the shared SRAM. -/
def Device.sramRead (d : Device) (off n : Nat) : List Byte := (List.range n).map fun i => mget (fun _ => 0) d.sram (off + i)

/-- An effect under a condition. -/
def Device.when (d : Device) (c : Bool) (f : Device → Device) : Device := if c then f d else d

/-- Put something out. -/
def Device.emit (d : Device) (o : Output) : Device := { d with out := o :: d.out }

/-- The block that carries an ordered set (R333): block type 0x4B, D1 to D3 with the payload bits [23:0], O code 0xA, zeros; its sync
header is 0b10. -/
def osBlock (type payload : Nat) : List Byte :=
  [0x4B] ++ beBytes 3 (type * 2 ^ 20 + payload) ++ [0x0A, 0, 0, 0]

/-- An ordered set as it is put out (R333). -/
def osOut (p type payload : Nat) : Output := .orderedSet p type payload 2 (osBlock type payload)

/-- Draw a value the spec leaves open. -/
def Device.draw (d : Device) : Nat × Device := (Config.freeNat d.freeCtr, { d with freeCtr := d.freeCtr + 1 })

/-! ### Time -/

/-- One second in units of 2⁻¹⁶ ns. -/
def secUnits : Nat := 1000000000 * 65536

/-- Seconds of a time counter (R407). -/
def tmSec (t : Nat) : Nat := t / secUnits

/-- Nanoseconds of a time counter, 0 to 999,999,999 (R407). -/
def tmNs (t : Nat) : Nat := t % secUnits / 65536

/-- The binary fraction of a nanosecond (R407). -/
def tmFrac (t : Nat) : Nat := t % 65536

/-- The free-running 1 µs count of the core clock, 32 bits (R261): 1,600 core clocks a µs. -/
def Device.us (d : Device) : Nat := d.clock / 1600 % 2 ^ 32

/-! ### Performance-counter events (R566, R567) -/

/-- Count an event: every enabled plain counter that selects it advances, and one that wraps sets its overflow bit. -/
def Device.pmc (d : Device) (event inst : Nat) (n : Nat := 1) : Device :=
  d.each (mrange d.regs 0x50000 0x50400) fun d e =>
    let v := e.2.toNat
    let i := (e.1 - 0x50000) / 4
    if bit v 31 && !bit v 30 && bits v 29 22 == event && bits v 21 8 == inst then
      let c := d.get (Reg.PMC_CNT_COUNT i) + n
      (d.set (Reg.PMC_CNT_COUNT i) c).when (decide (2 ^ 48 ≤ c)) fun d =>
        d.wr (Reg.PMC_OVF (i / 32)) (setBit (d.rd (Reg.PMC_OVF (i / 32))) (i % 32) true)
    else d

/-! ### Ports -/

/-- The tile of an external port or lane. -/
def tileOf (p : Nat) : Nat := p / 8

/-- The lane index within its tile. -/
def laneIn (p : Nat) : Nat := p % 8

/-- The slice of a port; the internal ports belong to slice 0 (R8, R40). -/
def sliceOf (p : Nat) : Nat := if p < 512 then p / 32 else 0

/-- What the MAC and link of a port hold. -/
def Device.port (d : Device) (p : Nat) : Port := mget (fun _ => {}) d.ports p

/-- Change what the MAC and link of a port hold. -/
def Device.updPort (d : Device) (p : Nat) (f : Port → Port) : Device :=
  { d with ports := mupd (fun _ => {}) d.ports p f }

/-- A port is enabled. -/
def Device.portEn (d : Device) (p : Nat) : Bool :=
  decide (p < 512) && d.flag (Reg.TILE_PORT_CFG_EN (tileOf p) (laneIn p))

/-- A port is up. -/
def Device.portUp (d : Device) (p : Nat) : Bool :=
  decide (p < 512) && d.flag (Reg.TILE_PORT_STATUS_LINK (tileOf p) (laneIn p))

/-- A port is a Jarlis port. -/
def Device.isJarlis (d : Device) (p : Nat) : Bool :=
  decide (p < 512) && d.flag (Reg.TILE_PORT_CFG_KIND (tileOf p) (laneIn p))

/-- The width of a port. -/
def Device.width (d : Device) (p : Nat) : Nat := d.get (Reg.TILE_PORT_CFG_WIDTH (tileOf p) (laneIn p))

/-- The lanes of a port. -/
def Device.lanes (d : Device) (p : Nat) : List Nat := (List.range (d.width p)).map (p + ·)

/-- The enabled port that a lane belongs to. -/
def Device.portOfLane (d : Device) (l : Nat) : Option Nat :=
  (List.range 8).map (8 * tileOf l + ·) |>.find? fun p => d.portEn p && decide (p ≤ l) && decide (l < p + d.width p)

/-- The enabled ports of a tile. -/
def Device.portsOfTile (d : Device) (t : Nat) : List Nat :=
  ((List.range 8).map (8 * t + ·)).filter d.portEn

/-- Count a MAC statistic of a port (R155). -/
def Device.macStat (d : Device) (p i : Nat) (n : Nat := 1) : Device :=
  if p < 512 then d.inc (Reg.MAC_STAT_COUNT (tileOf p) (laneIn p) i) n else d

/-- Count a discard under a Cullet reason, for a port and a slice (R262). -/
def Device.cullet (d : Device) (slice port reason : Nat) : Device :=
  ((d.inc (Reg.BUF_CULLET_SLC_COUNT slice reason)).inc (Reg.BUF_CULLET_PORT_COUNT port reason)).pmc 4
    (64 * slice + reason)

/-! ### Maps of the frame path -/

/-- Change the frame path. -/
def Device.onPath (d : Device) (f : Path → Path) : Device := { d with path := f d.path }

/-- A list of a store of lists. -/
def lget {α : Type} (m : Map (List α)) (k : Nat) : List α := mget (fun _ => []) m k

/-- Store a list. -/
def lset {α : Type} [DecidableEq α] (m : Map (List α)) (k : Nat) (l : List α) : Map (List α) :=
  mset (fun _ => []) m k l

/-- Append to a list of a store of lists. -/
def lpush {α : Type} [DecidableEq α] (m : Map (List α)) (k : Nat) (a : α) : Map (List α) :=
  lset m k (lget m k ++ [a])

/-- A number of a store of numbers. -/
def nget (m : Map Nat) (k : Nat) : Nat := mget (fun _ => 0) m k

/-- Store a number. -/
def nset (m : Map Nat) (k v : Nat) : Map Nat := mset (fun _ => 0) m k v


/-! ### Power domains (R577, R579) -/

/-- Change what the power unit holds. -/
def Device.onPower (d : Device) (f : Power → Power) : Device := { d with power := f d.power }

/-- A domain is awake. -/
def Device.pwrOn (d : Device) (n : Nat) : Bool := bit (d.rd (Reg.PWR_DOM_STATUS (n / 32))) (n % 32)

/-- A domain is awake from now on, or no longer. -/
def Device.pwrSet (d : Device) (n : Nat) (on : Bool) : Device :=
  d.wr (Reg.PWR_DOM_STATUS (n / 32)) (setBit (d.rd (Reg.PWR_DOM_STATUS (n / 32))) (n % 32) on)

/-- A domain is asked to wake; requests are served in their order. -/
def Device.wakeAsk (d : Device) (n : Nat) : Device :=
  if d.pwrOn n || d.power.waking.contains n then d else d.onPower fun p => { p with waking := p.waking ++ [n] }

/-- A domain goes down. With the domain of a Gaffer core its local SRAM loses what it holds (R577). -/
def Device.pwrDown (d : Device) (n : Nat) : Device :=
  let d := if 88 ≤ n ∧ n < 104 then
      { d with coreSram := merase d.coreSram (262144 * (n - 88)) (262144 * (n - 87)) } else d
  (d.pwrSet n false).onPower fun p => { p with waking := p.waking.filter (· != n) }

/-- The PCIe link is up: its domain is awake and its PLL locked (R583, R588). -/
def Device.pcieUp (d : Device) : Bool := d.pwrOn 112 && bit (d.get Reg.PWR_CLK_STATUS_LOCK) 3

/-- A PLL of PLLs 0 to 4 locks or loses lock (R587). -/
def Device.pllBit (d : Device) (n : Nat) (on : Bool) : Device :=
  d.set Reg.PWR_CLK_STATUS_LOCK (setBit (d.get Reg.PWR_CLK_STATUS_LOCK) n on)

end Sys2Proof.Machine
end

