-- ==== Sys2Proof/Machine/Audit.lean ====
section
/-!
DEFINITION. The audit trail (R548 to R557), the ledger's logs (R557, R558, R563) and bus errors (R461, R462), which
every block reports through.
-/
namespace Sys2Proof.Machine

/-! ### The ledger's memory -/

/-- Write bytes at a ledger offset (R558). -/
def Device.ledWrite (d : Device) (off : Nat) (bs : List Byte) : Device :=
  let m := (List.range bs.length).foldl (fun m i => mset (fun _ => 0) m (off + i) (bs.getD i 0)) d.ledger.mem
  { d with ledger := { d.ledger with mem := m } }

/-- Read bytes at a ledger offset. -/
def Device.ledRead (d : Device) (off n : Nat) : List Byte :=
  (List.range n).map fun i => mget (fun _ => 0) d.ledger.mem (off + i)

/-- An accumulator word of the slot body, by its byte offset in the slot (R561). -/
def Device.acc (d : Device) (off : Nat) : Nat := (mget (fun _ => 0) d.ledger.acc (off / 4)).toNat

/-- Store an accumulator word. -/
def Device.accSet (d : Device) (off v : Nat) : Device :=
  { d with ledger := { d.ledger with acc := mset (fun _ => 0) d.ledger.acc (off / 4) (BitVec.ofNat 32 v) } }

/-- Add to a 32-bit accumulator. -/
def Device.accAdd (d : Device) (off : Nat) (n : Nat := 1) : Device := d.accSet off (d.acc off + n)

/-- Add to a 64-bit accumulator. -/
def Device.accAdd64 (d : Device) (off n : Nat) : Device :=
  let v := d.acc off + 2 ^ 32 * d.acc (off + 4) + n
  (d.accSet off v).accSet (off + 4) (v / 2 ^ 32)

/-- Lifetime powered minutes (R561, R563): those carried over and those of FT since. -/
def Device.lifeMin (d : Device) : Nat := d.ledger.lifeBase + d.ft / (60 * secUnits)

/-- Write one event-log entry (R563). -/
def Device.eventEntry (d : Device) (cls d8 d16 : Nat) : Device :=
  let e := leBytes 4 d.lifeMin ++ leBytes 4 (tmSec d.tod) ++ leBytes 1 cls ++ leBytes 1 d8 ++ leBytes 2 d16
    ++ leBytes 4 d.ledger.eseq
  let d := (d.ledWrite (0x40000 + 16 * (d.ledger.eseq % 65536)) e).accAdd (0x680 + 4 * (cls % 16))
  let w := (d.ft :: lget d.ledger.evWin cls).take 64
  { d with ledger := { d.ledger with eseq := d.ledger.eseq + 1, evWin := mset (fun _ => []) d.ledger.evWin cls w } }

/-- A class may write an entry: it has written fewer than 64 in the 1 s that ends now (R563). -/
def Device.eventMay (d : Device) (cls : Nat) : Bool :=
  let w := lget d.ledger.evWin cls
  decide (w.length < 64) || w.getLast?.all fun t => decide (t + secUnits ≤ d.ft)

/-- An event that the limit of its class suppresses is counted (R561, R563). -/
def Device.eventSuppress (d : Device) (cls : Nat) : Device :=
  let d := d.accAdd (0x6C0 + 4 * (cls % 16))
  { d with ledger := { d.ledger with evOver := nset d.ledger.evOver cls (nget d.ledger.evOver cls + 1) } }

/-- The first entry after the limit of a class lifts gives the count of those suppressed (R563); class 9 has its own limit. -/
def Device.eventExcess (d : Device) (cls : Nat) : Device :=
  let n := nget d.ledger.evOver cls
  if n = 0 || !d.eventMay 9 then d
  else { d with ledger := { d.ledger with evOver := nset d.ledger.evOver cls 0 } }.eventEntry 9 cls n

/-- Log an event: at most 64 entries of a class in any 1 s; excess events are counted, and the first entry after the
limit lifts gives the count (R563). While an erase runs, events wait in order (R565). -/
def Device.event (d : Device) (cls d8 d16 : Nat) : Device :=
  if d.ledger.erasing then { d with ledger := { d.ledger with evWait := d.ledger.evWait ++ [(cls, d8, d16)] } }
  else if d.eventMay cls then (d.eventExcess cls).eventEntry cls d8 d16
  else d.eventSuppress cls

/-! ### The audit ring -/

/-- Stream mode (R554). -/
def Device.stream (d : Device) : Bool := d.flag Reg.AUD_CFG_STREAM

/-- Records in use: in stream mode those not yet streamed, in summary mode those present (R554, R555, R572). -/
def Device.used (d : Device) : Nat := (d.rd Reg.AUD_WP + 2 ^ 32 - d.rd Reg.AUD_RP) % 2 ^ 32

/-- A writer other than hardware may write a record (R555). -/
def Device.canLog (d : Device) : Bool := !d.stream || decide (d.used < 65280)

/-- A deferrable hardware change may be logged (R555). -/
def Device.canDefer (d : Device) : Bool := !d.stream || decide (d.used ≤ 65520)

/-- Replicated changes are taken: the replication store has room for `n` records (R377), and Bind-Off does not hold them (R384). -/
def Device.replRoom (d : Device) (n : Nat := 1) : Bool :=
  !d.unit.rejectRepl && (!d.unit.repl || decide (d.unit.store.length + n ≤ 16384))

/-- The table engine takes commands as far as records go: one audit record is free outside the hardware reserve, and the replication
store takes one (R209, R377). -/
def Device.engineMay (d : Device) : Bool := d.canLog && d.replRoom

/-- Origin code (R550) of a requester. -/
def originOf : Requester → Nat
  | .pf0 _ => 0
  | .vf _ _ => 1
  | .gaffer _ => 2
  | .image => 3
  | .punty => 4
  | .jarlis _ => 5

/-- ORIGIN_ID (R550) of a requester. -/
def originId : Requester → Nat
  | .vf n _ => n.val
  | .gaffer c => c.val
  | .jarlis dev => dev.val % 256
  | _ => 0

/-- The ID field of GLB_BUS_ERR_SRC and GLB_CPW_STATUS (R477). -/
def requesterId : Requester → Nat
  | .pf0 id => id.toNat
  | .vf _ id => id.toNat
  | .gaffer c => c.val
  | .jarlis dev => dev.val
  | _ => 0

/-- A summary as its 32 bytes (R557). -/
def Audit.sumBytes (a : Audit) : List Byte :=
  leBytes 4 a.sumFirst ++ leBytes 4 a.sumLast ++ leBytes 4 a.sumStart ++ leBytes 4 a.sumEnd
    ++ (a.sumBy.flatMap fun n => leBytes 2 (min n 65535)) ++ leBytes 4 (a.sumCrc ^^^ 0xFFFFFFFF)

/-- Close the open summary and write it to the summary log (R557, R558). -/
def Device.closeSummary (d : Device) : Device :=
  if d.audit.sumOpen then
    let d' := d.ledWrite (0x20000 + 32 * (d.ledger.sumIdx % 4096)) d.audit.sumBytes
    let d' := { d' with ledger := { d'.ledger with sumIdx := d'.ledger.sumIdx + 1 } }
    let a := { d'.audit with sumOpen := false, sumN := 0, sumBy := [0, 0, 0, 0, 0, 0], sumCrc := 0xFFFFFFFF,
                             sumClosed := d'.ft, sumEver := true }
    ({ d' with audit := a }).inc (Reg.AUD_STAT_COUNT 3)
  else d

/-- A summary may close: at least 1 s has passed since the previous one closed (R557). -/
def Device.sumMayClose (d : Device) : Bool := !d.audit.sumEver || decide (d.audit.sumClosed + secUnits ≤ d.ft)

/-- Which of the six tallies of a summary an origin counts in (R557). -/
def sumClass (origin : Nat) : Nat :=
  if origin = 2 then 1 else if origin = 3 then 2 else if origin = 4 then 3 else if origin = 6 then 4 else 0

/-- Fold one record into the open summary, which closes at 16,384 records (R557). -/
def Device.foldSummary (d : Device) (aseq origin : Nat) (rej : Bool) (bs : List Byte) : Device :=
  let a := d.audit
  let sec := tmSec d.tod % 2 ^ 32
  let a := if a.sumOpen then a else { a with sumOpen := true, sumFirst := aseq, sumStart := sec }
  let by' := a.sumBy.set (sumClass origin) (a.sumBy.getD (sumClass origin) 0 + 1)
  let by' := if rej then by'.set 5 (by'.getD 5 0 + 1) else by'
  let d := { d with audit := { a with sumLast := aseq, sumEnd := sec, sumN := a.sumN + 1, sumBy := by',
                                      sumCrc := crc32cUpdate a.sumCrc bs } }
  if decide (16384 ≤ d.audit.sumN) && d.sumMayClose then d.closeSummary else d

/-- Write one record into the ring: the common bytes of R550, the 16-byte body, the next ASEQ (R549). In summary mode
a full ring loses its oldest record (R554). -/
def Device.ringWrite (d : Device) (kind origin oid : Nat) (rej : Bool) (body : List Byte) : Device :=
  let aseq := d.rd Reg.AUD_WP
  let reserve := d.stream && decide (65280 ≤ d.used)
  let bs := leBytes 4 (tmSec d.tod) ++ leBytes 4 (tmNs d.tod) ++ leBytes 1 kind ++ leBytes 1 origin ++ leBytes 1 oid
    ++ leBytes 1 (b2n rej + 2 * b2n reserve) ++ leBytes 4 aseq ++ slice body 0 16
  let full := decide (65536 ≤ d.used)
  let d := { d with audit := { d.audit with ring := mset (fun _ => []) d.audit.ring (aseq % 65536) bs } }
  let d := d.wr Reg.AUD_WP (aseq + 1)
  let d := d.when full fun d => d.wr Reg.AUD_RP (d.rd Reg.AUD_RP + 1)
  (d.inc (Reg.AUD_STAT_COUNT 0)).foldSummary aseq origin rej bs

/-- The first slot freed after changes were made unlogged takes a HW_OVERFLOW record before any other (R556). -/
def Device.overflowRecord (d : Device) : Device :=
  let a := d.audit
  if a.unlogged = 0 then d
  else
    let d := { d with audit := { a with unlogged := 0, unlogFirst := 0, unlogLast := 0 } }
    d.ringWrite 8 6 0 false (leBytes 4 a.unlogged ++ leBytes 4 a.unlogFirst ++ leBytes 4 a.unlogLast)

/-- Write a record, room being known. -/
def Device.record (d : Device) (kind origin oid : Nat) (rej : Bool) (body : List Byte) : Device :=
  d.overflowRecord.ringWrite kind origin oid rej body

/-- Write a record of a requester. -/
def Device.recordBy (d : Device) (rq : Requester) (kind : Nat) (rej : Bool) (body : List Byte) : Device :=
  d.record kind (originOf rq) (originId rq) rej body

/-- A hardware change that cannot be deferred: never held back; with no slot it is made unlogged and counted (R556). -/
def Device.recordHw (d : Device) (kind : Nat) (body : List Byte) : Device :=
  if d.stream && decide (65536 ≤ d.used) then
    let s := tmSec d.tod % 2 ^ 32
    let a := { d.audit with unlogged := d.audit.unlogged + 1, unlogLast := s,
                            unlogFirst := if d.audit.unlogged = 0 then s else d.audit.unlogFirst }
    (({ d with audit := a }).inc (Reg.AUD_STAT_COUNT 2)).put Reg.AUD_STATUS_HW_OVF true
  else d.record kind 6 0 false body

/-- An EVENT record of a hardware-autonomous change (R553). -/
def Device.auditEvent (d : Device) (ev a0 a1 a2 : Nat) : Device :=
  d.recordHw 6 (leBytes 2 ev ++ leBytes 2 a0 ++ leBytes 4 a1 ++ leBytes 4 a2)

/-- A BATCH body (R551, R552). -/
def batchBody (subject status count first last digest : Nat) : List Byte :=
  leBytes 1 subject ++ leBytes 1 status ++ leBytes 2 count ++ leBytes 4 first ++ leBytes 4 last ++ leBytes 4 digest

/-- A rejected attempt (R551): one that cannot be logged is counted only, in AUDIT_REFUSED (R464, R555). -/
def Device.auditReject (d : Device) (rq : Requester) (off data code scheme blk : Nat) : Device :=
  if d.canLog then
    d.recordBy rq 3 true (leBytes 4 off ++ leBytes 4 data ++ leBytes 1 code ++ leBytes 1 scheme ++ leBytes 2 blk)
  else d.inc (Reg.GLB_STAT_COUNT 4)

/-! ### Bus errors -/

/-- The reasons of a bus error (R461). -/
inductive BusReason where
  | unimplemented
  | reserved
  | size
  | align
  | privilege
  | locked
  | boot
  | rejected
  | auditFull
  | replFull
  | standby
  deriving DecidableEq, Repr

/-- The code of a reason (R461). -/
def BusReason.code : BusReason → Nat
  | .unimplemented => 1
  | .reserved => 2
  | .size => 3
  | .align => 4
  | .privilege => 5
  | .locked => 6
  | .boot => 7
  | .rejected => 8
  | .auditFull => 9
  | .replFull => 10
  | .standby => 11

/-- What the requester of an access that is a bus error sees (R461). -/
def Device.busReply (d : Device) (rq : Requester) (write : Bool) : Device :=
  match rq with
  | .pf0 _ | .vf _ _ => d.emit (if write then .unsupportedRequest else .completerAbort)
  | .gaffer c => d.emit (.busFault c.val)
  | _ => d

/-- A bus error: reported to its requester, counted, and captured unless a capture is held (R461, R462, R477). -/
def Device.busError (d : Device) (rq : Requester) (off size : Nat) (write : Bool) (r : BusReason) : Device :=
  let d := (d.busReply rq write).inc (Reg.GLB_STAT_COUNT (if write then 1 else 0))
  if d.flag Reg.GLB_BUS_ERR_SRC_VALID then d.put Reg.GLB_BUS_ERR_SRC_OVERFLOW true
  else
    let sz := if size = 4 then 1 else if size = 8 then 2 else 0
    let d := d.set Reg.GLB_BUS_ERR_ADDR_OFFSET off
    let d := (d.put Reg.GLB_BUS_ERR_SRC_VALID true).put Reg.GLB_BUS_ERR_SRC_WRITE write
    let d := (d.set Reg.GLB_BUS_ERR_SRC_SIZE sz).set Reg.GLB_BUS_ERR_SRC_REASON r.code
    (d.set Reg.GLB_BUS_ERR_SRC_ORIGIN (originOf rq)).set Reg.GLB_BUS_ERR_SRC_ID (requesterId rq)

/-- A bus error of a write, with the audit record of a rejected attempt where R548 asks for one: LOCKED, REJECTED and
STANDBY. `blk` is the block's own reason (R551). -/
def Device.refuseWrite (d : Device) (rq : Requester) (off size data : Nat) (r : BusReason) (blk : Nat := 0) : Device :=
  let d := d.busError rq off size true r
  let d := d.when (r == .auditFull) fun d => d.inc (Reg.GLB_STAT_COUNT 4)
  if r == .locked || r == .rejected || r == .standby then d.auditReject rq off data r.code 0 blk else d

end Sys2Proof.Machine
end

