-- ==== Sys2Proof/Machine/Role.lean ====
section
/-!
DEFINITION. The role of a unit, its output pins and critical faults (R368, R369, R380, R381), which every part of the
device may raise.
-/
namespace Sys2Proof.Machine

/-- Change what a unit holds. -/
def Device.onUnit (d : Device) (f : Unit → Unit) : Device := { d with unit := f d.unit }

/-- Role codes (R394). -/
def roleInit : Nat := 0
def roleActive : Nat := 1
def roleStandby : Nat := 2
def roleFailed : Nat := 3
def roleSelvedge : Nat := 4

/-- UNT_STATUS.ROLE. -/
def Device.role (d : Device) : Nat := d.get Reg.UNT_STATUS_ROLE

/-- UNIT_PAIR as sampled. -/
def Device.paired (d : Device) : Bool := d.flag Reg.UNT_STATUS_PAIR

/-- A pin with a condition under which it is low: at high impedance while SYS_RST_N is low (R368). -/
def Device.pinLevel (d : Device) (low : Bool) : Level := if !d.unit.released then .z else if low then .low else .high

/-- UNIT_ACT_N is low exactly while the role is ACTIVE (R368, R369). -/
def Device.actPin (d : Device) : Level := d.pinLevel (d.role == roleActive)

/-- UNIT_RELQ_N is low while the unit cannot hold or take the active role (R369, R371, R381). -/
def Device.relqPin (d : Device) : Level :=
  d.pinLevel (d.role == roleInit || d.role == roleFailed || d.role == roleSelvedge || (d.role == roleActive && d.unit.relq))

/-- A role change: ROLE, LAST_CHANGE, the audit event and the ledger event (R394, R553, R563). -/
def Device.setRole (d : Device) (role last : Nat) : Device :=
  let d := (d.set Reg.UNT_STATUS_ROLE role).set Reg.UNT_STATUS_LAST_CHANGE last
  let crit := d.get Reg.UNT_STATUS_CRIT_CAUSE * 4096 + d.get Reg.UNT_STATUS_CRIT_DETAIL
  (d.auditEvent 2 role last crit).event 2 role 0

/-- Mute every egress port (R369). -/
def Device.mute (d : Device) : Device := d.onUnit fun u => { u with muted := true }

/-- Unmute every egress port. -/
def Device.unmute (d : Device) : Device := d.onUnit fun u => { u with muted := false }

/-- Send a Punty message (R372): the 16-byte header and the body, in network byte order; the FCS that follows them is right. The frames of
a command leave before those of the next one. -/
def Device.punty (d : Device) (type pseq : Nat) (body : List Byte) : Device :=
  if d.flag Reg.UNT_STATUS_PUNTY_UP then
    d.emit (.punty type (beBytes 1 0x10 ++ beBytes 1 type ++ beBytes 2 body.length ++ beBytes 4 pseq
      ++ beBytes 4 (tmNs d.ft) ++ beBytes 4 0 ++ body))
  else d

/-- A BIND message (R384). -/
def Device.bindMessage (d : Device) (sub : Nat) (body : List Byte) : Device :=
  d.punty 7 0 (beBytes 1 sub ++ beBytes 3 0 ++ body)

/-- Replication stops: the store is emptied and the standby's SYNCED clears (R377). DEDUCED: what the standby still shows of it counts for
nothing until it has shown SYNCED 0, and a resync follows when it is heard again. -/
def Device.replStop (d : Device) : Device :=
  d.onUnit fun u => { u with repl := false, store := [], peerSynced := false, resync := false, snap := none, stale := true }

/-- Bind-Off ends with RESULT ABORTED (R385); the roles stay as they are. -/
def Device.bindAbort (d : Device) : Device :=
  if d.unit.bind.side = 0 then d else
    let d := (d.set Reg.UNT_BIND_RESULT 4).set Reg.UNT_BIND_STATE 0
    d.onUnit fun u => { u with bind := {}, rejectRepl := false }

/-- A critical fault ends a Bind-Off, and the other unit is told (R384, R385). From step 3 on the active sends no ABORT: a takeover follows, in
which the standby judges its queues by the releases that it has (DEDUCED). -/
def Device.bindFault (d : Device) : Device :=
  (d.when (d.unit.bind.side == 2 || (d.unit.bind.side == 1 && decide (d.get Reg.UNT_BIND_STATE < 3))) fun d =>
    d.bindMessage 5 []).bindAbort

/-- A critical fault (R380, R381): the first fault's values are latched, the fault is audited and logged, and the role
changes as R381 lays down. It aborts a Bind-Off (R385). -/
def Device.critical (d : Device) (cause detail : Nat) : Device :=
  let d := d.when (d.get Reg.UNT_STATUS_CRIT_CAUSE == 0) fun d =>
    (d.set Reg.UNT_STATUS_CRIT_CAUSE cause).set Reg.UNT_STATUS_CRIT_DETAIL detail
  let d := (d.auditEvent 3 cause detail 0).event 3 cause 0
  let d := d.bindFault
  if d.role = roleActive then
    if d.paired && d.unit.peerRole == some roleStandby && !d.flag Reg.UNT_STATUS_PEER_RELQ then
      ((d.onUnit fun u => { u with wasActive := true, guard := false, repl := false, store := [], snap := none }).mute).setRole
        roleFailed 5
    else d.onUnit fun u => { u with relq := true }
  else if d.role = roleStandby then
    ((d.onUnit fun u => { u with wasActive := false, resync := false }).put Reg.UNT_STATUS_SYNCED false).setRole
      roleFailed 5
  else d

/-- A corrected error of a memory class (R561, R562). -/
def Device.eccCorrected (d : Device) (cls : Nat) : Device := d.accAdd64 (0x580 + 16 * cls) 1

/-- An uncorrectable error of a memory class: the ledger's count, its time and the event (R561 to R563). -/
def Device.eccBad (d : Device) (cls : Nat) : Device :=
  ((d.accAdd (0x580 + 16 * cls + 8)).accSet (0x580 + 16 * cls + 12) (tmSec d.tod)).event 5 cls 0

end Sys2Proof.Machine
end

