-- ==== Sys2Proof/Machine/Skein.lean ====
section
/-!
DEFINITION. The Skein buffer: stitches, the counts of the pools, admission and the discards of the frame path
(R19, R244 to R263).
-/
namespace Sys2Proof.Machine

/-! ### Stitches -/

/-- The stitch count of a frame of `len` bytes, FCS counted (R19). -/
def stitchCount (len : Nat) : Nat := if len - 4 ≤ 192 then 1 else 1 + (len - 4 - 192 + 255) / 256

/-- The state of a stitch. -/
def Device.stitch (d : Device) (i : Nat) : Stitch := mget (fun _ => {}) d.path.stitch i

/-- Store a stitch. -/
def Device.setStitch (d : Device) (i : Nat) (s : Stitch) : Device :=
  d.onPath fun p => { p with stitch := mset (fun _ => {}) p.stitch i s }

/-- The state bit of a stitch says free (R244). -/
def Device.isFree (d : Device) (i : Nat) : Bool := let s := d.stitch i; s.refs == 0 && !s.retired

/-- Stitches held: those with a reference and those retired (R244, R247). -/
def Device.heldStitches (d : Device) : Nat := (d.path.stitch.filter fun e => e.2.refs != 0 || e.2.retired).length

/-- Stitches of the Skein. -/
def skeinSize : Nat := 983040

/-- Stitches on the free list: those returned to it, and those never taken but for the ones retired since. -/
def Device.physFree (d : Device) : Nat :=
  let gone := (d.path.stitch.filter fun e => e.2.retired && decide (d.path.freeMark ≤ e.1)).length
  d.path.free.length + (skeinSize - d.path.freeMark - gone)

/-- The count and the flag of R246, for stitch `i`. -/
def Device.doubleFree (d : Device) (i : Nat) : Device :=
  ((d.inc Reg.BUF_DFREE_CNT_COUNT).put Reg.BUF_STATUS_DOUBLE_FREE true).set Reg.BUF_STATUS_DFREE_STITCH i

/-- The next index of the free list: the one returned latest, or else the lowest that was never taken (DESIGN CHOICE: the spec
gives the list no order). -/
def Device.popFree (d : Device) : Option Nat × Device :=
  match d.path.free with
  | i :: l => (some i, d.onPath fun p => { p with free := l })
  | [] =>
    if d.path.freeMark < skeinSize then
      (some d.path.freeMark, d.onPath fun p => { p with freeMark := p.freeMark + 1 })
    else (none, d)

/-- Take one stitch: the allocator skips an entry whose stitch is held, and counts and flags it (R246). A stitch retired before it
was ever taken is no entry. -/
def takeStitch : Nat → Device → Option Nat × Device
  | 0, d => (none, d)
  | fuel + 1, d =>
    let mark := d.path.freeMark
    match d.popFree with
    | (none, d) => (none, d)
    | (some i, d) =>
      if d.isFree i then (some i, d.setStitch i { d.stitch i with refs := 1 })
      else if (d.stitch i).retired ∧ mark ≤ i then takeStitch fuel d
      else takeStitch fuel (d.doubleFree i)

/-- Take stitches from the free list, one after the other. -/
def takeEach : Nat → Device → List Nat × Device
  | 0, d => ([], d)
  | n + 1, d =>
    match takeStitch (d.path.stitch.length + d.path.free.length + 1) d with
    | (none, d) => ([], d)
    | (some i, d) => let (l, d) := takeEach n d; (i :: l, d)

/-- Take `n` stitches from the free list. -/
def Device.takeStitches (d : Device) (n : Nat) : List Nat × Device := takeEach n d

/-- Free a stitch of one reference; a free of a free stitch is not performed and counted (R246, R287). A retired stitch does not
return to the free list (R247). -/
def Device.freeStitch (d : Device) (i : Nat) : Device :=
  let s := d.stitch i
  if s.refs = 0 then d.doubleFree i
  else
    (d.setStitch i { s with refs := s.refs - 1 }).when (s.refs == 1 && !s.retired) fun d =>
      d.onPath fun p => { p with free := i :: p.free }

/-- Free several stitches. -/
def Device.freeStitches (d : Device) (l : List Nat) : Device := d.each l fun d i => d.freeStitch i

/-- Add a reference to a stitch (R291). -/
def Device.refStitch (d : Device) (i : Nat) (n : Nat := 1) : Device :=
  d.setStitch i { d.stitch i with refs := (d.stitch i).refs + n }

/-! ### Counts -/

/-- Queue index of R249. -/
def qIdx (port queue : Nat) : Nat := 16 * port + queue

/-- The default of a queue's configuration word (R271). -/
def qcfgDflt (i : Nat) : Word := if i % 16 = 0 then 0x77050000#32 else 0#32

/-- A configuration word of a queue. -/
def Device.qword (d : Device) (q w : Nat) : Nat := (mget qcfgDflt d.path.qcfg (16 * q + w)).toNat

/-- The counts of a queue. -/
def Device.qc (d : Device) (q : Nat) : QCount := mget (fun _ => {}) d.path.qcnt q

/-- Change the counts of a queue. -/
def Device.onQc (d : Device) (q : Nat) (f : QCount → QCount) : Device :=
  d.onPath fun p => { p with qcnt := mupd (fun _ => {}) p.qcnt q f }

/-- CTRL_RESV in force (R265). -/
def Device.ctrlResv (d : Device) : Nat := min (d.get Reg.BUF_CFG_CTRL_RESV) 65536

/-- A0 (R248). -/
def Device.a0 (d : Device) : Nat := d.rd Reg.BUF_SKEIN_EFF - 16384 - 32768 - d.ctrlResv

/-- Units of pool 1 in service. -/
def Device.deepUnits (d : Device) : Nat := d.get Reg.BUF_DEEP_EFF_UNITS

/-- The multicast accounts of all slices. -/
def Device.mcSum (d : Device) : Nat := ((List.range 16).map fun s => d.get (Reg.BUF_MC_USED_STITCHES s)).sum

/-- F0 (R252). -/
def Device.f0 (d : Device) : Nat :=
  d.a0 - (d.path.qcnt.map fun e => max e.2.resvEff e.2.ru + e.2.su).sum - d.mcSum

/-- F1 (R252). -/
def Device.f1 (d : Device) : Nat :=
  d.deepUnits * 4096 - (d.path.qcnt.map fun e => max (e.2.deepEff * 4096) e.2.dru + e.2.dsu).sum

/-- The threshold of R252. -/
def admThreshold (a s f : Nat) : Nat := f * 2 ^ (min a 10) / 2 ^ (7 + s)

/-- Stitches of a slice's flight allowance in use (R245). -/
def Device.flight (d : Device) (s : Nat) : Nat := nget d.path.flight s

/-- Add to a slice's flight count. -/
def Device.flightAdd (d : Device) (s n : Nat) : Device :=
  d.onPath fun p => { p with flight := nset p.flight s (nget p.flight s + n) }

/-- Take from a slice's flight count. -/
def Device.flightSub (d : Device) (s n : Nat) : Device :=
  d.onPath fun p => { p with flight := nset p.flight s (nget p.flight s - n) }

/-- Charge `n` to a count (R249 to R251). -/
def Device.charge (d : Device) (c : Charge) (n : Nat) : Device :=
  match c with
  | .none => d
  | .flight s => d.flightAdd s n
  | .control => d.set Reg.BUF_CTRL_USED_STITCHES (d.get Reg.BUF_CTRL_USED_STITCHES + n)
  | .ru q => d.onQc q fun c => { c with ru := c.ru + n }
  | .su q => d.onQc q fun c => { c with su := c.su + n }
  | .dru q => d.onQc q fun c => { c with dru := c.dru + n }
  | .dsu q => d.onQc q fun c => { c with dsu := c.dsu + n }
  | .mc s => d.set (Reg.BUF_MC_USED_STITCHES s) (d.get (Reg.BUF_MC_USED_STITCHES s) + n)

/-- Credit `n` back to a count (R249). -/
def Device.credit (d : Device) (c : Charge) (n : Nat) : Device :=
  match c with
  | .none => d
  | .flight s => d.flightSub s n
  | .control => d.set Reg.BUF_CTRL_USED_STITCHES (d.get Reg.BUF_CTRL_USED_STITCHES - n)
  | .ru q => d.onQc q fun c => { c with ru := c.ru - n }
  | .su q => d.onQc q fun c => { c with su := c.su - n }
  | .dru q => d.onQc q fun c => { c with dru := c.dru - n }
  | .dsu q => d.onQc q fun c => { c with dsu := c.dsu - n }
  | .mc s => d.set (Reg.BUF_MC_USED_STITCHES s) (d.get (Reg.BUF_MC_USED_STITCHES s) - n)

/-! ### Frames kept by key -/

/-- The VOQs of a slice and queue (R274). -/
def voqKey (slice q : Nat) : Nat := 8256 * slice + q

/-- A VOQ. -/
def Device.voq (d : Device) (k : Nat) : Voq := mget (fun _ => {}) d.path.voq k

/-- Change a VOQ. -/
def Device.onVoq (d : Device) (k : Nat) (f : Voq → Voq) : Device :=
  d.onPath fun p => { p with voq := mupd (fun _ => {}) p.voq k f }

/-- The pipeline of a slice. -/
def Device.pipe (d : Device) (s : Nat) : Pipe := mget (fun _ => {}) d.path.pipe s

/-- Change the pipeline of a slice. -/
def Device.onPipe (d : Device) (s : Nat) (f : Pipe → Pipe) : Device :=
  d.onPath fun p => { p with pipe := mupd (fun _ => {}) p.pipe s f }

/-- A fresh frame number. -/
def Device.freshId (d : Device) : Nat × Device := (d.path.nextId, d.onPath fun p => { p with nextId := p.nextId + 1 })

/-! ### From logical to physical ports -/

/-- Trunk `t` is enabled. -/
def Device.trunkEn (d : Device) (t : Nat) : Bool := d.flag (Reg.JFL_TRUNK_CFG_EN t)

/-- The lowest port of a trunk's slice. -/
def Device.trunkBase (d : Device) (t : Nat) : Nat := 32 * d.get (Reg.JFL_TRUNK_CFG_SLICE t)

/-- The members of a trunk (R337). -/
def Device.trunkMembers (d : Device) (t : Nat) : List Nat :=
  (bitsSet 32 (d.rd (Reg.JFL_TRUNK_MEMBERS t))).map (d.trunkBase t + ·)

/-- The peer's latest IDENT_A on a port showed TRUNKED 1. -/
def Device.peerTrunked (d : Device) (p : Nat) : Bool := mget (fun _ => false) d.jarlis.trunked p

/-- The usable members of a trunk on the sending side, in increasing port order (R337). -/
def Device.usable (d : Device) (t : Nat) : List Nat :=
  if d.trunkEn t then (d.trunkMembers t).filter fun p => d.portUp p && d.peerTrunked p else []

/-- The member W or P of a group. -/
def Device.grpMember (d : Device) (g : Nat) (prot : Bool) : Nat :=
  d.get (if prot then Reg.PRT_GRP_CFG_P g else Reg.PRT_GRP_CFG_W g)

/-- The physical ports that send the frames of a logical port (R312). -/
def Device.physOf (d : Device) (l : Nat) : List Nat :=
  if l < 512 then
    let k := d.get (Reg.PRT_BIND_KIND l)
    let i := d.get (Reg.PRT_BIND_INDEX l)
    if k = 1 then
      if d.flag (Reg.PRT_GRP_CFG_EN i) && !d.flag (Reg.PRT_GRP_STATE_NOPATH i) then
        [d.grpMember i (d.flag (Reg.PRT_GRP_STATE_ACT i))]
      else []
    else if k = 2 then d.usable i
    else [l]
  else [l]

/-! ### Tension drift and the discards -/

/-- The Tension test runs: the standby is SYNCED and the Punty link is up (R386). -/
def Device.tensionOn (d : Device) : Bool :=
  d.paired && d.flag Reg.UNT_STATUS_PUNTY_UP &&
    ((d.role == roleActive && d.unit.peerSynced) || (d.role == roleStandby && d.flag Reg.UNT_STATUS_SYNCED))

/-- The ingress time of R386 in ns modulo 4 s, in the active's time. -/
def Device.ingressNs (d : Device) (h : Hdr) : Nat :=
  let t : Int := h.tsSec * 1000000000 + h.tsNs
  let t := if d.role = roleStandby then t + signed 32 (d.rd Reg.UNT_PAIR_OFFSET) else t
  (t % 4000000000).toNat

/-- The interval of an ingress time (R386). -/
def intervalOf (ns : Nat) : Nat := ns / 1000000 % 4000

/-- The Tension interval that runs. -/
def Device.intervalNow (d : Device) : Nat := intervalOf (d.ingressNs { tsSec := tmSec d.ft % 4, tsNs := tmNs d.ft })

/-- Word `w` was replaced within the last second, and interval `n` lies before the first one of its successor. DESIGN CHOICE: interval
numbers come round in 4 s, so a frame of an interval more than a second past a write goes by the present word. -/
def Device.tensHolds (d : Device) (n : Nat) (w : TensWord) : Bool :=
  decide (d.clock < w.clock + 1600000000) && decide (2000 ≤ (n + 4000 - w.first) % 4000)

/-- The word of UNT_TENSION_CFG in force in interval `n`: a write applies from the interval after the one it falls in (R398). -/
def Device.tensCfg (d : Device) (n : Nat) : Nat :=
  match d.unit.tensOld.find? (d.tensHolds n) with
  | some w => w.word
  | none => d.rd Reg.UNT_TENSION_CFG

/-- A write is about to replace the word of UNT_TENSION_CFG. -/
def Device.tensKeep (d : Device) : Device :=
  let n := (d.intervalNow + 1) % 4000
  let young := d.unit.tensOld.filter fun w => decide (d.clock < w.clock + 1600000000)
  if young.any fun w => w.first == n then d
  else d.onUnit fun u => { u with tensOld := young ++ [{ first := n, word := d.rd Reg.UNT_TENSION_CFG, clock := d.clock }] }

/-- Key of a port's interval record. -/
def tensKey (port n : Nat) : Nat := 4096 * port + n

/-- Change an interval record. -/
def Device.onTens (d : Device) (k : Nat) (f : TRec → TRec) : Device :=
  d.onUnit fun u => { u with tens := mupd (fun _ => {}) u.tens k f }

/-- DRIFT of the interval of a frame for one port (R387). -/
def Device.drift (d : Device) (port : Nat) (h : Hdr) : Device :=
  if d.tensionOn && decide (port < 512) then
    d.onTens (tensKey port (intervalOf (d.ingressNs h))) fun r => { r with drift := true }
  else d

/-- TILES of a group's version: 64 bits. -/
def Device.groupTiles (d : Device) (g v : Nat) : Nat :=
  let w := fun i => (mget (fun _ => 0) d.path.grp (4 * g + 2 * v + i)).toNat
  w 0 + 2 ^ 32 * w 1

/-- The member-list entry {FIRST, COUNT} of a tile (R282, R298). -/
def Device.groupList (d : Device) (t g v : Nat) : Nat × Nat :=
  let w := (mget (fun _ => 0) d.path.lists (131072 * t + 2 * g + v)).toNat
  (bits w 18 5, bits w 4 0)

/-- A member record of a tile. -/
def Device.member (d : Device) (t r : Nat) : Nat := (mget (fun _ => 0) d.path.members (16384 * t + r)).toNat

/-- The ports of a group's version, through its tiles' member lists. -/
def Device.groupPorts (d : Device) (g v : Nat) : List Nat :=
  (bitsSet 64 (d.groupTiles g v)).flatMap fun t =>
    let (first, count) := d.groupList t g v
    (List.range count).map fun i => bits (d.member t (first + i)) 29 20

/-- DRIFT for every external port in the interval of a frame (R387). -/
def Device.driftAll (d : Device) (h : Hdr) : Device := if d.tensionOn then d.each (List.range 512) fun d p => d.drift p h else d

/-- DRIFT for the physical ports a frame goes to: those of its port, or of the ports of its group (R386, R387). DEDUCED: a frame to a
trunk may go to any of the usable members, so it counts for all. -/
def Device.driftTo (d : Device) (h : Hdr) : Device :=
  if !d.tensionOn then d
  else d.each ((if h.dtype = 0 then [h.dest] else d.groupPorts h.dest h.gver).flatMap d.physOf) fun d p => d.drift p h

/-- The Cullet reasons that set DRIFT for the frame's port (R387), but for RESEQ_LATE and RESEQ_FULL: those frames are discarded before
a lookup gives them a port, so the check sets it. -/
def driftReasons : List Nat := [11, 12, 14, 15, 16, 17, 18, 19, 20, 23, 25]

/-- A drop capture (R263): the first 256 bytes, charged to one stitch of the flight allowance of the slice counted, put
in queue 0 of port 515, or skipped for want of a token or a stitch. -/
def Device.dropCapture (d : Device) (f : Frame) (slice port reason : Nat) : Device :=
  let masked := if reason < 32 then bit (d.rd Reg.BUF_DMIR_MASK0) reason else bit (d.rd Reg.BUF_DMIR_MASK1) (reason - 32)
  if d.flag Reg.BUF_DMIR_CFG_EN && masked then
    if d.path.dmirTok = 0 ∨ d.get Reg.BUF_DMIR_CFG_RATE = 0 ∨ 1024 ≤ d.flight slice ∨ d.physFree = 0 then
      d.inc Reg.BUF_DMIR_SKIP_COUNT
    else
      let (st, d) := d.takeStitches 1
      let (id, d) := d.freshId
      let d := (d.flightAdd slice 1).onPath fun p => { p with dmirTok := p.dmirTok - 1 }
      let c := { f with id := id, bytes := f.bytes.take 256, stitches := st, n := 1, charge := .flight slice,
                        hdr := { f.hdr with len := (f.bytes.take 256).length + 4, dtype := 0, dest := 515, queue := 0,
                                            epoch := 0, ptp := 0, mirEn := false },
                        isCopy := true, ckind := 4, ccode := reason, caux := f.arrival, cslice := slice, cport := port,
                        clen := f.bytes.length, ctx := none, inj := none, ord := id }
      d.onVoq (voqKey slice (qIdx 515 0)) fun v => { v with on := v.on ++ [c] }
  else d

/-- Count a discarded frame: the Cullet reason for a port and a slice, the drop capture, DRIFT (R262, R263, R387). A drop capture
is counted under no reason (R263). -/
def Device.countDrop (d : Device) (f : Frame) (slice port reason : Nat) : Device :=
  if f.ckind = 4 then d else
  let d := (d.cullet slice port reason).dropCapture f slice port reason
  if driftReasons.contains reason then d.driftTo f.hdr else d

/-- The stitches of a frame go back and its charge is credited. -/
def Device.releaseFrame (d : Device) (f : Frame) : Device :=
  (d.freeStitches f.stitches).credit f.charge f.n

/-- A frame leaves a resequencing slot as done (R341): discarded or refused after the check. -/
def Device.slotDone (d : Device) (f : Frame) : Device :=
  match f.ctx with
  | none => d
  | some (k, seq) =>
    { d with jarlis := { d.jarlis with
        ctx := mupd (fun _ => {}) d.jarlis.ctx k fun c =>
          { c with slots := mupd (fun _ => none) c.slots seq fun o => o.map fun s => { s with state := 3 } } } }

/-- A frame is discarded in a slice pipeline. -/
def Device.dropIngress (d : Device) (f : Frame) (slice reason : Nat) : Device :=
  ((d.countDrop f slice f.src reason).releaseFrame f).slotDone f

/-! ### held(j, k) -/

/-- Change held(j, k) (R317) by the stitches of a frame; control frames and internal ports are not counted. -/
def Device.heldAdd (d : Device) (src k n : Nat) (add : Bool) : Device :=
  if src < 512 then
    let f := Reg.EGR_PFC_HELD_HELD src k
    d.set f (if add then d.get f + n else d.get f - n)
  else d

/-! ### Admission (R252) -/

/-- What admission answers. -/
inductive Admit where
  | onDie (c : Charge)
  | deep (c : Charge)
  | refused (reason : Nat)
  deriving DecidableEq, Repr

/-- The colour shift of a queue (R252, R14). -/
def Device.colourShift (d : Device) (q colour : Nat) : Nat :=
  if colour = 0 then 0 else if colour = 1 then bits (d.qword q 0) 20 18 else bits (d.qword q 0) 17 15

/-- The part of R252 that admits to the deep store. -/
def Device.admitDeep (d : Device) (q n colour : Nat) : Admit :=
  let c := d.qc q
  let sh := d.colourShift q colour
  if 16384 < d.path.wstage + n then .refused 19
  else if c.dru + n ≤ c.deepEff * 4096 then .deep (.dru q)
  else if c.dsu + n ≤ admThreshold (bits (d.qword q 0) 27 24) sh d.f1 then .deep (.dsu q)
  else .refused 18

/-- The procedure of R252: the answer, and whether the queue enters spill state. -/
def Device.admitTest (d : Device) (q n colour : Nat) (control : Bool) : Admit × Bool :=
  let c := d.qc q
  let sh := d.colourShift q colour
  if c.spill then (d.admitDeep q n colour, false)
  else if control && decide (d.get Reg.BUF_CTRL_USED_STITCHES + n ≤ d.ctrlResv) then (.onDie .control, false)
  else if c.ru + n ≤ c.resvEff then (.onDie (.ru q), false)
  else
    let spillOn := bits (d.qword q 2) 19 0
    if spillOn = 0 ∨ c.ru + c.su + n ≤ spillOn then
      if c.su + n ≤ admThreshold (bits (d.qword q 0) 31 28) sh d.f0 then (.onDie (.su q), false)
      else (.refused (if control then 16 else 17), false)
    else (d.admitDeep q n colour, true)

/-- Admission with its effects on the counts: spill entry, the charge, write staging, SPILL_BUSY_SEEN and the events
of R567. -/
def Device.admitQ (d : Device) (q n colour : Nat) (control : Bool) : Admit × Device :=
  let (a, enter) := d.admitTest q n colour control
  let d := d.when enter fun d => (d.onQc q fun c => { c with spill := true, entries := c.entries + 1 }).pmc 7 q
  match a with
  | .onDie c => (a, (d.charge c n).pmc 5 q)
  | .deep c => (a, ((d.charge c n).onPath fun p => { p with wstage := p.wstage + n }).pmc 5 q)
  | .refused r => (a, (d.when (r == 19) fun d => d.put Reg.BUF_STATUS_SPILL_BUSY_SEEN true).pmc 6 q)

/-- The epoch of a logical port (R30). -/
def Device.epoch (d : Device) (p : Nat) : Nat := (d.port p).epoch

/-- Place an admitted unicast frame in its VOQ or the deep segment behind it (R26, R258). -/
def Device.enqueue (d : Device) (slice : Nat) (f : Frame) (deep : Bool) : Device :=
  let q := qIdx f.hdr.dest f.hdr.queue
  let (n, d) := d.freshId
  let f := { f with ord := n }
  d.onVoq (voqKey slice q) fun v =>
    if deep then { v with deep := v.deep ++ [{ frame := f, slots := [], state := 0 }] } else { v with on := v.on ++ [f] }

/-! ### Recompute of the effective minima (R254, R255) -/

/-- The reduction of R254 over (queue, minimum, rank): the effective minima and the rank at which it stopped. -/
def reduceMin : Nat → Nat → Nat → List (Nat × Nat × Nat) → List (Nat × Nat) × Nat
  | 0, _, _, l => (l.map fun e => (e.1, e.2.1), 0xFF)
  | fuel + 1, k, excess, l =>
    let mine := l.filter fun e => e.2.2 == k
    let rest := l.filter fun e => e.2.2 != k
    let sk := (mine.map fun e => e.2.1).sum
    if excess = 0 then (l.map fun e => (e.1, e.2.1), 0xFF)
    else if sk = 0 then
      let (r, stop) := reduceMin fuel (k + 1) excess rest
      (mine.map (fun e => (e.1, 0)) ++ r, stop)
    else if sk ≤ excess then
      let (r, stop) := reduceMin fuel (k + 1) (excess - sk) rest
      (mine.map (fun e => (e.1, 0)) ++ r, if excess = sk ∨ stop = 0xFF then k else stop)
    else (mine.map (fun e => (e.1, e.2.1 * (sk - excess) / sk)) ++ rest.map (fun e => (e.1, e.2.1)), k)

/-- The queues with a configured minimum in word `w`: (queue, minimum, rank). -/
def Device.minima (d : Device) (w : Nat) : List (Nat × Nat × Nat) :=
  (d.path.qcfg.filter fun e => e.1 % 16 == w).map fun e => (e.1 / 16, e.2.toNat, bits (d.qword (e.1 / 16) 0) 23 21)

/-- The recompute of one pool: set the effective minima; report overcommit (R254, R255). -/
def Device.recomputePool (d : Device) (pool : Nat) : Device :=
  let mins := d.minima (if pool = 0 then 1 else 3)
  let avail := if pool = 0 then d.a0 else d.deepUnits
  let need := (mins.map fun e => e.2.1).sum
  let (eff, stop) := reduceMin 8 0 (need - avail) mins
  let d := d.onPath fun p => { p with qcnt := (p.qcnt.map fun e =>
    (e.1, if pool = 0 then { e.2 with resvEff := 0 } else { e.2 with deepEff := 0 })).filter fun e => e.2 != {} }
  let d := d.each eff fun d e => d.onQc e.1 fun c =>
    if pool = 0 then { c with resvEff := e.2 } else { c with deepEff := e.2 }
  let sum := (eff.map fun e => e.2).sum
  let excess := decide (avail < need)
  let was := d.path.ovcRank.getD pool 0xFF
  let cut := (mins.map fun e => (e.1, e.2.1 - (eff.find? fun x => x.1 == e.1).elim 0 (·.2))).filter fun e => e.2 != 0
  let changed := excess && (was != stop || d.path.ovcCut.getD pool [] != cut) || !excess && was != 0xFF
  let d := d.onPath fun p => { p with ovcRank := p.ovcRank.set pool (if excess then stop else 0xFF),
                                      ovcCut := p.ovcCut.set pool cut }
  let d := d.when (excess && was == 0xFF) fun d => d.put Reg.BUF_STATUS_OVC_SEEN true
  d.when changed fun d => d.auditEvent 5 pool (if excess then stop else 0xFF) sum

/-- The recompute of both pools ends (R254, R255). -/
def Device.recompute (d : Device) : Device :=
  let d := (d.recomputePool 0).recomputePool 1
  let o0 := d.path.ovcRank.getD 0 0xFF != 0xFF
  let o1 := d.path.ovcRank.getD 1 0xFF != 0xFF
  (d.put Reg.BUF_STATUS_RESV_OVERCOMMIT (o0 || o1)).put Reg.BUF_STATUS_OVC_DEEP o1

/-- An event of R255 starts a recompute, or another one when the current ends. -/
def Device.recomputeStart (d : Device) : Device :=
  if d.flag Reg.BUF_STATUS_RECALC then d.onPath fun p => { p with recalcAgain := true }
  else d.put Reg.BUF_STATUS_RECALC true

/-- A stitch shows an uncorrectable error (R247): the second within 1 s retires it; a retired one stays so. -/
def Device.stitchError (d : Device) (i : Nat) : Device :=
  let s := d.stitch i
  let d := d.eccBad 0
  match s.err with
  | some t =>
    if s.retired then d
    else if d.ft < t + secUnits then
      let d := d.setStitch i { s with retired := true }
      let d := d.set Reg.BUF_SKEIN_EFF_STITCHES (d.get Reg.BUF_SKEIN_EFF_STITCHES - 1)
      (d.auditEvent 6 0 i 0).recomputeStart
    else d.setStitch i { s with err := some d.ft }
  | none => d.setStitch i { s with err := some d.ft }

end Sys2Proof.Machine
end

