-- ==== Sys2Proof/Machine/Bind.lean ====
section
/-!
DEFINITION. The mapping of logical to physical ports: spray trunks and protection groups (R312, R337, R344, R361 to
R366).
-/
namespace Sys2Proof.Machine

/-- Change the Jarlis fabric. -/
def Device.onJfl (d : Device) (f : Jarlis → Jarlis) : Device := { d with jarlis := f d.jarlis }

/-! ### Trunks -/

/-- What trunk `t` holds beside its registers. -/
def Device.trunk (d : Device) (t : Nat) : Trunk := mget (fun _ => {}) d.jarlis.trunk t

/-- Change a trunk. -/
def Device.onTrunk (d : Device) (t : Nat) (f : Trunk → Trunk) : Device :=
  d.onJfl fun j => { j with trunk := mupd (fun _ => {}) j.trunk t f }

/-- A list of ports as a mask over the ports of a slice. -/
def portMask (ps : List Nat) : Nat := ps.foldl (fun m p => m ||| 2 ^ (p % 32)) 0

/-- The resequencing window of a trunk in µs (R355). -/
def Device.windowUs (d : Device) (t : Nat) : Nat := max 1 (min 1024 (d.get (Reg.JFL_TRUNK_CFG_WINDOW_US t)))

/-- The enabled trunks that have a register listed. -/
def Device.trunks (d : Device) : List Nat :=
  ((mrange d.regs 0xF02000 0xF03000).filter fun e => e.1 % 16 == 0 && bit e.2.toNat 31).map fun e => (e.1 - 0xF02000) / 16

/-- The enabled trunk whose MEMBERS names a port. -/
def Device.trunkOfMember (d : Device) (p : Nat) : Option Nat := d.trunks.find? fun t => (d.trunkMembers t).contains p

/-- The usable set of a trunk is looked at again (R344). A change by link state is made at once; every other change, and
growth from empty, is an epoch change. -/
def Device.trunkUpdate (d : Device) (t : Nat) (config : Bool) : Device :=
  let u := d.usable t
  let m := portMask u
  let tr := d.trunk t
  let d := d.set (Reg.JFL_TRUNK_STATUS_USABLE t) u.length
  if m = tr.cur then d
  else
    let epochChange := d.trunkEn t && (config || (tr.cur == 0 && m != 0))
    let d := d.onTrunk t fun x => { x with cur := m }
    if epochChange then
      if tr.phase = 0 then
        (d.onTrunk t fun x => { x with phase := 1, oldSet := tr.cur, fromEmpty := tr.cur == 0 }).put
          (Reg.JFL_TRUNK_STATUS_CHANGING t) true
      else d.onTrunk t fun x => { x with again := true }
    else d

/-- A context of (trunk, class). -/
def Device.ctx (d : Device) (k : Nat) : Ctx := mget (fun _ => {}) d.jarlis.ctx k

/-- Change a context. -/
def Device.onCtx (d : Device) (k : Nat) (f : Ctx → Ctx) : Device :=
  d.onJfl fun j => { j with ctx := mupd (fun _ => {}) j.ctx k f }

/-- How far sequence number `b` lies ahead of `a`, modulo 2²⁴. -/
def seqDist (a b : Nat) : Nat := (b + 2 ^ 24 - a) % 2 ^ 24

/-- The run of skipped numbers that holds a sequence number. -/
def Ctx.run (c : Ctx) (q : Nat) : Option (Nat × Nat) := c.skip.find? fun r => decide (seqDist r.1 q < r.2)

/-- A slot is occupied: pending, ready or done (R340). -/
def Ctx.occupied (c : Ctx) (q : Nat) : Bool := (mget (fun _ => none) c.slots q).isSome

/-- A slot is skipped (R340). -/
def Ctx.skipped (c : Ctx) (q : Nat) : Bool := !c.occupied q && (c.run q).isSome

/-- Slots `q` to `q + n - 1` that are empty become skipped ones. -/
def Ctx.skipFrom (c : Ctx) (q n : Nat) : Ctx := { c with skip := c.skip ++ [(q, n)] }

/-- How many slots from NEXT on are occupied or skipped: the distance to the first empty one. -/
def Ctx.filled (c : Ctx) : Nat → Nat → Nat
  | 0, n => n
  | fuel + 1, n =>
    let q := (c.next + n) % 2 ^ 24
    if c.occupied q then c.filled fuel (n + 1)
    else match c.run q with
      | some r => c.filled fuel (n + (r.2 - seqDist r.1 q))
      | none => n

/-- A slot lies behind an empty one (R360). -/
def Ctx.behindEmpty (c : Ctx) (q : Nat) : Bool :=
  decide (c.filled (c.slots.length + c.skip.length + 1) 0 < seqDist c.next q)

/-- The trunk a port is attached to (R346). -/
def Device.attached (d : Device) (p : Nat) : Option Nat :=
  match mget (fun _ => (0, false)) d.jarlis.attach p with
  | (0, _) => none
  | (t + 1, _) => some t

/-- The ports attached to a trunk. -/
def Device.attachedPorts (d : Device) (t : Nat) : List Nat :=
  (d.jarlis.attach.filter fun e => e.2.1 == t + 1).map fun e => e.1

/-- The contexts of a trunk are released as at reset (R346): their empty slots are skipped, and BASED falls when none is
left. -/
def Device.endContexts (d : Device) (t : Nat) : Device :=
  d.each (List.range 16) fun d k =>
    let c := d.ctx (16 * t + k)
    if c = {} then d
    else if c.slots = [] then d.onCtx (16 * t + k) fun _ => { next := c.next }
    else d.onCtx (16 * t + k) fun c => { c with ending := true }

/-- With no attached member link-up, the contexts of a trunk end (R346). -/
def Device.checkAttached (d : Device) (t : Nat) : Device :=
  if (d.attachedPorts t).any d.portUp then d else d.endContexts t

/-! ### Protection groups -/

/-- The flag sources of a group. -/
def Device.grpFlag (d : Device) (g : Nat) : GrpFlags := mget (fun _ => {}) d.grpFlags g

/-- The enabled groups. -/
def Device.groups (d : Device) : List Nat :=
  ((mrange d.regs 0x78000 0x80000).filter fun e => e.1 % 8 == 0 && bit e.2.toNat 31).map fun e => (e.1 - 0x78000) / 8

/-- The bound ports: (logical port, KIND, INDEX). -/
def Device.bindings (d : Device) : List (Nat × Nat × Nat) :=
  (mrange d.regs 0x71000 0x71800).map fun e => ((e.1 - 0x71000) / 4, bits e.2.toNat 31 30, bits e.2.toNat 11 0)

/-- A logical port has a path again, or is bound anew: it discards no longer (R365). -/
def Device.clearNopath (d : Device) (sel : Nat × Nat × Nat → Bool) : Device :=
  d.each (d.bindings.filter sel) fun d b => { d with nopath := mset (fun _ => false) d.nopath b.1 false }

/-- The selection of R364: the active member, `none` for no path. -/
def grpSelect (req : Nat) (w p actP revert run : Bool) : Option Bool :=
  if req = 1 then (if w then some false else none)
  else if req = 2 then (if p then some true else if w then some false else none)
  else if !w then (if p then some true else none)
  else if !p then some false
  else if req = 3 then some true
  else if actP && (!revert || run) then some true
  else some false

/-- Select again for a group (R363, R364): usability, the WTR timer, the active member, and what R366 writes when ACT or
NOPATH changes. `reqChanged` says that the request has just changed. While none is selected, ACT keeps the member selected
last (R406), but the active member is none. -/
def Device.reselect (d : Device) (g : Nat) (reqChanged : Bool := false) : Device :=
  let en := d.flag (Reg.PRT_GRP_CFG_EN g)
  let fl := d.grpFlag g
  let sfW := fl.linkW || fl.cmdW
  let sfP := fl.linkP || fl.cmdP
  let wOk := en && d.portEn (d.grpMember g false) && !sfW
  let pOk := en && d.portEn (d.grpMember g true) && !sfP
  let wWas := d.flag (Reg.PRT_GRP_STATE_W_OK g)
  let act := d.flag (Reg.PRT_GRP_STATE_ACT g)
  let np := d.flag (Reg.PRT_GRP_STATE_NOPATH g)
  let onP := act && !np
  let req := d.get (Reg.PRT_GRP_STATE_REQ g)
  let revert := d.flag (Reg.PRT_GRP_CFG_REVERT g)
  let run := if !wOk || reqChanged then false
    else if !wWas && onP && req == 0 && revert then d.get (Reg.PRT_GRP_STATE_WTR_S g) != 0
    else d.flag (Reg.PRT_GRP_STATE_WTR_RUN g)
  let r := grpSelect req wOk pOk onP revert run
  let act' := r.getD act
  let np' := r.isNone
  let d := (d.put (Reg.PRT_GRP_STATE_SF_W g) sfW).put (Reg.PRT_GRP_STATE_SF_P g) sfP
  let d := (d.put (Reg.PRT_GRP_STATE_W_OK g) wOk).put (Reg.PRT_GRP_STATE_P_OK g) pOk
  let d := (d.put (Reg.PRT_GRP_STATE_WTR_RUN g) run).put (Reg.PRT_GRP_STATE_ACT g) act'
  let d := d.put (Reg.PRT_GRP_STATE_NOPATH g) np'
  let d := d.when (act != act') fun d => d.inc (Reg.PRT_STAT_COUNT 0)
  let atOnce := wOk && !reqChanged && !wWas && onP && req == 0 && revert && !run
  let d := d.when (atOnce && !act') fun d => d.inc (Reg.PRT_STAT_COUNT 2)
  let d := d.when (np' && !np) fun d => d.inc (Reg.PRT_STAT_COUNT 1)
  let d := d.when (!np') fun d => d.clearNopath fun b => b.2.1 == 1 && b.2.2 == g
  d.when (act != act' || np != np') fun d =>
    (d.auditEvent 1 g (d.rd (Reg.PRT_GRP_STATE g)) 0).event 1 (b2n act') g

/-- Change the flag sources of a group. -/
def Device.onGrpFlag (d : Device) (g : Nat) (f : GrpFlags → GrpFlags) : Device :=
  { d with grpFlags := mupd (fun _ => {}) d.grpFlags g f }

/-- The groups that a port is a member of, with the role it has there. -/
def Device.groupsOf (d : Device) (p : Nat) : List (Nat × Bool) :=
  d.groups.flatMap fun g => [(g, false), (g, true)].filter fun e => d.grpMember e.1 e.2 == p

/-- Link-down sets the flag of a member, at once or when its hold-off expires (R363). -/
def Device.linkFlag (d : Device) (g : Nat) (prot v : Bool) : Device :=
  (d.onGrpFlag g fun f => if prot then { f with linkP := v } else { f with linkW := v }).reselect g

/-! ### Mapping -/

/-- The trunk a logical port is bound to. -/
def Device.trunkOf (d : Device) (l : Nat) : Option Nat :=
  if decide (l < 512) && d.get (Reg.PRT_BIND_KIND l) == 2 then some (d.get (Reg.PRT_BIND_INDEX l)) else none

/-- A logical port without a path discards its frames (R365). -/
def Device.nopathDiscards (d : Device) (l : Nat) : Bool :=
  (d.physOf l).isEmpty && (d.get Reg.PRT_CFG_NOPATH_MS == 0 || mget (fun _ => false) d.nopath l)

/-- A logical port counts as Jarlis (R332): a Jarlis port, or bound to a trunk or group of Jarlis ports. -/
def Device.jarlisPort (d : Device) (l : Nat) : Bool :=
  if l < 512 then
    let k := d.get (Reg.PRT_BIND_KIND l)
    let i := d.get (Reg.PRT_BIND_INDEX l)
    if k = 1 then d.isJarlis (d.grpMember i false)
    else if k = 2 then true
    else d.isJarlis l
  else false

/-- EGR_PORT_MAP.PHYS (R325). -/
def Device.physReg (d : Device) (l : Nat) : Nat := (d.physOf l).headD 0x3FF

end Sys2Proof.Machine
end

