-- ==== Sys2Proof/Machine/Run.lean ====
section
/-!
DEFINITION. What the block shows at the end of every command: the status registers and pins that are functions of the
rest of the state, and the lift of an effect on the device to a command's meaning.
-/
namespace Sys2Proof.Machine

/-- AUD_STATUS follows the ring (R572). -/
def Device.settleAudit (d : Device) : Device :=
  let u := d.used
  ((d.set Reg.AUD_STATUS_USED u).put Reg.AUD_STATUS_FULL (d.stream && decide (65280 ≤ u))).put
    Reg.AUD_STATUS_HW_LOW (d.stream && decide (65520 < u))

/-- The pool status registers follow the counts (R267). -/
def Device.settlePools (d : Device) : Device :=
  ((d.set Reg.BUF_PHYS_FREE_STITCHES d.physFree).set Reg.BUF_SHARED_FREE_F0 d.f0).set Reg.BUF_DEEP_FREE_F1 d.f1

/-- MRV_STATUS.AUDIT_STALL follows what keeps the table engine from taking commands, and each stop is counted (R209, R377). -/
def Device.settleEngine (d : Device) : Device :=
  let stall := !d.engineMay
  d.when (stall != d.flag Reg.MRV_STATUS_AUDIT_STALL) fun d =>
    (d.put Reg.MRV_STATUS_AUDIT_STALL stall).when stall fun d => d.inc (Reg.MRV_STAT_COUNT 15)

/-- Ports flagged DIVERGED (R400). -/
def Device.divergedPorts (d : Device) : Nat :=
  ((List.range 16).map fun w => (bitsSet 32 (d.rd (Reg.UNT_DIVERGED w))).length).sum

/-- Some port is marked DRIFT_PERSIST (R400). -/
def Device.driftPersist (d : Device) : Bool := (List.range 16).any fun w => d.rd (Reg.UNT_DRIFT w) != 0

/-- UNT_HEALTH follows the unit's own report (R391, R396). -/
def Device.settleHealth (d : Device) : Device :=
  let n := d.divergedPorts
  let d := (d.put Reg.UNT_HEALTH_DIVERGED (n != 0)).set Reg.UNT_HEALTH_DIVERGED_PORTS n
  let d := d.put Reg.UNT_HEALTH_FAIL (n != 0 || d.flag Reg.UNT_HEALTH_BIST_ERR)
  let d := (d.put Reg.UNT_HEALTH_DRIFT_PERSIST d.driftPersist).put Reg.UNT_HEALTH_SYNCED
    (d.flag Reg.UNT_STATUS_SYNCED)
  d.put Reg.UNT_HEALTH_CRIT (d.get Reg.UNT_STATUS_CRIT_CAUSE != 0)

/-- The unit's output pins follow the role (R369): UNIT_ACT_N and UNIT_RELQ_N. -/
def Device.settlePins (d : Device) : Device :=
  let a := d.actPin
  let r := d.relqPin
  let d := d.when (a != d.unit.actOut) fun d => d.emit (.pin "UNIT_ACT_N" a)
  let d := d.when (r != d.unit.relqOut) fun d => d.emit (.pin "UNIT_RELQ_N" r)
  d.onUnit fun u => { u with actOut := a, relqOut := r }

/-- The end of a command. -/
def Device.settle (d : Device) : Device := d.settleAudit.settlePools.settleHealth.settleEngine.settlePins

/-- A command's meaning from its effect on the device: the queue of waiting commands is not its concern. -/
def State.run (s : State) (f : Device → Device) : Host.Outcome State Fault Refusal :=
  .next { s with dev := (f s.dev).settle }

end Sys2Proof.Machine
end

