-- ==== Sys2Proof/Machine/Parse.lean ====
section
/-!
DEFINITION. The parser (R156 to R160, R616), the Jarlis header (R330) and the search key (R163 to R165, R617).
-/
namespace Sys2Proof.Machine

/-! ### The Jarlis header -/

/-- The 16 bytes of a Jarlis header (R330); reserved bits are 0. -/
def JHdr.toBytes (h : JHdr) : List Byte :=
  beBytes 1 (h.ver * 16 + h.type * 4 + h.epoch % 4)
    ++ beBytes 1 (h.tc * 16 + h.colour % 4 * 4 + b2n h.seqValid * 2)
    ++ beBytes 3 h.seq ++ beBytes 1 (h.hops * 4) ++ beBytes 2 (h.srcDev % 4096) ++ beBytes 2 (h.dstDev % 4096)
    ++ beBytes 2 (h.srcPort % 1024) ++ beBytes 2 h.dest ++ beBytes 2 0

/-- The Jarlis header at the start of a frame; reserved bits are ignored (R330). -/
def readJHdr (bs : List Byte) : JHdr :=
  let b0 := byteAt bs 0
  let b1 := byteAt bs 1
  { ver := b0 / 16, type := bits b0 3 2, epoch := bits b0 1 0, tc := b1 / 16, colour := bits b1 3 2,
    seqValid := bit b1 1, seq := beNat (slice bs 2 3), hops := byteAt bs 5 / 4, srcDev := be16 bs 6 % 4096,
    dstDev := be16 bs 8 % 4096, srcPort := be16 bs 10 % 1024, dest := be16 bs 12 }

/-! ### The parser -/

/-- What the parser is given: the frame's stored bytes, TPID_X and VXLAN_PORT2. -/
structure ParseIn where
  bs : List Byte
  tpidX : Nat
  vxlan2 : Nat

/-- The outcome that stops a header of `n` bytes at `off`: TRUNCATED past the last stored byte, DEPTH past byte 191, 0
when it fits (R156, R160). -/
def ParseIn.fit (i : ParseIn) (off n : Nat) : Nat :=
  if i.bs.length < off + n then 6 else if 192 < off + n then 1 else 0

/-- The outcome that stops a header whose extent `n` stands in its first `k` bytes, and which is `min` bytes at least.
DEDUCED: where the parser cannot read those first bytes, the header's end is judged by `min` alone (R156). -/
def ParseIn.fitBy (i : ParseIn) (off k n min : Nat) : Nat :=
  if i.fit off k = 0 then i.fit off n else i.fit off min

/-- A TPID of a VLAN tag (R157). -/
def ParseIn.isTag (i : ParseIn) (t : Nat) : Bool :=
  t == 0x8100 || t == 0x88A8 || t == 0x9100 || (i.tpidX != 0 && t == i.tpidX)

/-- The tags from `off`, at most `max`: the tags, the offset of the length/type that follows them, and the outcome. -/
def ParseIn.tags (i : ParseIn) : Nat → Nat → List Tag × Nat × Nat
  | 0, off => ([], off, if i.isTag (be16 i.bs off) then 2 else 0)
  | max + 1, off =>
    if i.isTag (be16 i.bs off) then
      if i.fit (off + 2) 4 = 0 then
        let (ts, o, out) := i.tags max (off + 4)
        (⟨be16 i.bs off, be16 i.bs (off + 2), off⟩ :: ts, o, out)
      else ([], off, i.fit (off + 2) 4)
    else ([], off, 0)

/-- The label stack from `off`: entries, the offset after them, and the outcome (R157). -/
def ParseIn.labels (i : ParseIn) : Nat → Nat → List Nat × Nat × Nat
  | 0, off => ([], off, 3)
  | n + 1, off =>
    if i.fit off 4 = 0 then
      let e := be32 i.bs off
      if bit e 8 then ([e], off + 4, 0)
      else
        let (es, o, out) := i.labels n (off + 4)
        (e :: es, o, out)
    else ([], off, i.fit off 4)

/-- An IPv4 header (R157, R159, R160). -/
def ParseIn.ip4 (i : ParseIn) (off : Nat) : Option L3 × Nat :=
  if i.fit off 1 ≠ 0 then (none, i.fit off 1)
  else
    let b := byteAt i.bs off
    let hl := 4 * (b % 16)
    let f := i.fit off hl
    if f ≠ 0 then (none, f)
    else if hl < 20 then (none, 7)
    else
      let tl := be16 i.bs (off + 2)
      let fr := be16 i.bs (off + 6)
      if b / 16 ≠ 4 ∨ tl < hl ∨ i.bs.length < off + tl ∨ onesSum (slice i.bs off hl) ≠ 0xFFFF then (none, 7)
      else
        (some { v6 := false, off := off, sip := be32 i.bs (off + 12), dip := be32 i.bs (off + 16),
                proto := byteAt i.bs (off + 9), dscp := byteAt i.bs (off + 1) / 4, ecn := byteAt i.bs (off + 1) % 4,
                ttl := byteAt i.bs (off + 8), frag := if fr % 8192 ≠ 0 then 2 else if bit fr 13 then 1 else 0,
                opt := decide (20 < hl), flow := 0, exts := 0, sport := 0, dport := 0, flags := 0,
                l4off := off + hl }, 0)

/-- The extension headers of an IPv6 header: next header, offset, FRAG, their number and the outcome (R157). -/
def ParseIn.exts (i : ParseIn) : Nat → Nat → Nat → Nat → Nat → Nat × Nat × Nat × Nat × Nat
  | fuel, nh, off, frag, cnt =>
    if nh = 0 ∨ nh = 43 ∨ nh = 44 ∨ nh = 60 then
      match fuel with
      | 0 => (nh, off, frag, cnt, 4)
      | fuel + 1 =>
        let len := if nh = 44 then 8 else 8 * (byteAt i.bs (off + 1) + 1)
        let f := i.fitBy off (if nh = 44 then 8 else 2) len 8
        if f ≠ 0 then (nh, off, frag, cnt, f)
        else
          let w := be16 i.bs (off + 2)
          let frag' := if nh = 44 then (if w / 8 ≠ 0 then 2 else if w % 2 = 1 then 1 else 0) else frag
          if nh = 44 ∧ frag' = 2 then (byteAt i.bs off, off + len, 2, cnt + 1, 0)
          else i.exts fuel (byteAt i.bs off) (off + len) frag' (cnt + 1)
    else (nh, off, frag, cnt, 0)

/-- An IPv6 header with its extension headers, at most `lim` of them. A limit broken among them leaves the header in the
key (R616). -/
def ParseIn.ip6 (i : ParseIn) (off lim : Nat) : Option L3 × Nat :=
  let f := i.fit off 40
  if f ≠ 0 then (none, f)
  else
    let w := be32 i.bs off
    if w / 2 ^ 28 ≠ 6 ∨ i.bs.length < off + 40 + be16 i.bs (off + 4) then (none, 8)
    else
      let (nh, o, frag, cnt, out) := i.exts lim (byteAt i.bs (off + 6)) (off + 40) 0 0
      (some { v6 := true, off := off, sip := beNat (slice i.bs (off + 8) 16), dip := beNat (slice i.bs (off + 24) 16),
              proto := nh, dscp := bits w 27 22, ecn := bits w 21 20, ttl := byteAt i.bs (off + 7), frag := frag,
              opt := decide (0 < cnt), flow := w % 2 ^ 20, exts := cnt, sport := 0, dport := 0, flags := 0,
              l4off := o }, out)

/-- The layer-4 header behind an IP header (R157, R159, R160). -/
def ParseIn.l4 (i : ParseIn) (l : L3) : L3 × Nat :=
  let ext := match l.proto with | 6 => 20 | 17 => 8 | 132 => 12 | 1 => 4 | 58 => 4 | _ => 0
  if l.frag = 2 ∨ ext = 0 then (l, 0)
  else if i.fit l.l4off ext ≠ 0 then (l, i.fit l.l4off ext)
  else if l.proto = 6 ∧ byteAt i.bs (l.l4off + 12) / 16 < 5 then (l, 9)
  else if l.proto = 17 ∧ be16 i.bs (l.l4off + 4) < 8 then (l, 9)
  else if l.proto = 1 ∨ l.proto = 58 then ({ l with sport := be16 i.bs l.l4off }, 0)
  else
    ({ l with sport := be16 i.bs l.l4off, dport := be16 i.bs (l.l4off + 2),
              flags := if l.proto = 6 then byteAt i.bs (l.l4off + 13) else 0 }, 0)

/-- What stands behind an IP header: 0 nothing, 1 inner Ethernet, 2 inner IPv4, 3 inner IPv6; its offset, the VNI and the
outcome of the tunnel header (R158). -/
def ParseIn.tunnel (i : ParseIn) (l : L3) : Nat × Nat × Nat × Nat :=
  if l.frag = 2 then (0, 0, 0, 0)
  else if l.proto = 17 then
    if l.dport = 4789 ∨ (i.vxlan2 ≠ 0 ∧ l.dport = i.vxlan2) then
      (1, l.l4off + 16, beNat (slice i.bs (l.l4off + 12) 3), i.fit (l.l4off + 8) 8)
    else (0, 0, 0, 0)
  else if l.proto = 47 then
    let w := be16 i.bs l.l4off
    let n := 4 + 4 * (b2n (bit w 15) + b2n (bit w 13) + b2n (bit w 12))
    if i.fit l.l4off 4 ≠ 0 then (1, 0, 0, i.fitBy l.l4off 2 n 4)
    else
      let p := be16 i.bs (l.l4off + 2)
      let vni := if bit w 13 then be32 i.bs (l.l4off + 4 + 4 * b2n (bit w 15)) / 256 else 0
      let k := if p = 0x6558 then 1 else if p = 0x0800 then 2 else if p = 0x86DD then 3 else 0
      if k = 0 then (0, 0, 0, 0) else (k, l.l4off + n, vni, i.fit l.l4off n)
  else if l.proto = 4 then (2, l.l4off, 0, 0)
  else if l.proto = 41 then (3, l.l4off, 0, 0)
  else (0, 0, 0, 0)

/-- The outcome of a tunnel header found inside the inner headers: TUNNEL_LIMIT. DEDUCED: a GRE header is known for a
tunnel by its own first four bytes, so one whose first four bytes do not fit stops the parse by R156 first (R158, R160). -/
def ParseIn.secondTunnel (i : ParseIn) (l : L3) : Nat :=
  let (k, _, _, out) := i.tunnel l
  if k = 0 then 0 else if l.proto = 47 ∧ i.fit l.l4off 4 ≠ 0 then out else 5

/-- The inner headers behind a tunnel (R158). -/
def ParseIn.innerIp (i : ParseIn) (p : Parse) (kind off : Nat) : Parse :=
  let (o, out) := if kind = 2 then i.ip4 off else i.ip6 off 2
  match o with
  | none => { p with outcome := out }
  | some l =>
    if out ≠ 0 then { p with inner := some l, outcome := out }
    else
      let (l, out) := i.l4 l
      if out ≠ 0 then { p with inner := some l, outcome := out }
      else { p with inner := some l, outcome := i.secondTunnel l }

/-- The headers behind a tunnel header of kind `kind` at `off`. -/
def ParseIn.inner (i : ParseIn) (p : Parse) (kind off : Nat) : Parse :=
  if kind = 1 then
    if i.fit off 14 ≠ 0 then { p with outcome := i.fit off 14 }
    else
      let (ts, o, out) := i.tags 1 (off + 12)
      let p := { p with inDa := beNat (slice i.bs off 6), inSa := beNat (slice i.bs (off + 6) 6),
                        inTags := ts, inEtype := be16 i.bs o }
      if out ≠ 0 then { p with outcome := out }
      else if p.inEtype = 0x0800 then i.innerIp p 2 (o + 2)
      else if p.inEtype = 0x86DD then i.innerIp p 3 (o + 2)
      else p
  else i.innerIp p kind off

/-- An IP header of the outer headers, or below a label stack, and what follows it. -/
def ParseIn.ip (i : ParseIn) (p : Parse) (v6 : Bool) (off : Nat) (below : Bool) : Parse :=
  let put := fun (l : L3) => if below then { p with below := some l } else { p with outer := some l }
  let (o, out) := if v6 then i.ip6 off 4 else i.ip4 off
  match o with
  | none => { p with outcome := out }
  | some l =>
    if out ≠ 0 then { put l with outcome := out }
    else
      let (l, out) := i.l4 l
      let p := put l
      if out ≠ 0 then { p with outcome := out }
      else
        let p := { p with ptp := !below && l.proto == 17 && l.frag != 2 && (l.dport == 319 || l.dport == 320) }
        let (k, o, vni, out) := i.tunnel l
        if k = 0 then p
        else if out ≠ 0 then { p with outcome := out }
        else i.inner { p with tunnel := true, vni := vni } k o

/-- The label stack and what lies below it. -/
def ParseIn.mpls (i : ParseIn) (p : Parse) (off : Nat) : Parse :=
  let (es, o, out) := i.labels 8 off
  let p := { p with lses := es, lseOff := off }
  if out ≠ 0 then { p with outcome := out }
  else if i.fit o 1 ≠ 0 then { p with outcome := i.fit o 1 }
  else
    let n := byteAt i.bs o / 16
    if n = 4 then i.ip { p with bos := 1 } false o true
    else if n = 6 then i.ip { p with bos := 2 } true o true
    else if n = 0 then { p with bos := 3 }
    else p

/-- The outer Ethernet header at `off` and what follows it. -/
def ParseIn.eth (i : ParseIn) (p : Parse) (off : Nat) : Parse :=
  if i.fit off 14 ≠ 0 then { p with outcome := i.fit off 14 }
  else
    let (ts, o, out) := i.tags 3 (off + 12)
    let p := { p with ethOff := off, da := beNat (slice i.bs off 6), sa := beNat (slice i.bs (off + 6) 6), tags := ts,
                      etype := be16 i.bs o }
    if out ≠ 0 then { p with outcome := out }
    else if p.etype = 0x8847 ∨ p.etype = 0x8848 then i.mpls p (o + 2)
    else if p.etype = 0x0800 then i.ip p false (o + 2) false
    else if p.etype = 0x86DD then i.ip p true (o + 2) false
    else if p.etype = 0x88F7 then { p with ptp := true }
    else if p.etype = 0x8902 then
      if i.fit (o + 2) 2 ≠ 0 then { p with outcome := i.fit (o + 2) 2 }
      else { p with cfm := true, cfmLevel := byteAt i.bs (o + 2) / 32, cfmOp := byteAt i.bs (o + 3) }
    else p

/-- The parse of a frame (R157). A Jarlis control or management frame is read no further than its header. -/
def ParseIn.run (i : ParseIn) (jarlis : Bool) : Parse :=
  let p : Parse := { tpidX := i.tpidX }
  if jarlis then
    if i.fit 0 16 ≠ 0 then { p with outcome := i.fit 0 16 }
    else
      let h := readJHdr i.bs
      let p := { p with jarlis := some h, ethOff := 16 }
      if h.type = 2 ∨ (h.type = 0 ∧ h.dest = 0xFFFE) then p else i.eth p 16
  else i.eth p 0

/-- A frame that the ingress parse front end marks as control (R21). -/
def Parse.isControl (p : Parse) : Bool :=
  p.ptp || p.cfm || (match p.jarlis with | some h => h.type == 2 | none => false)

/-! ### The search key -/

/-- TPID code of the key (R165). -/
def tpidCode (t : Option Tag) : Nat :=
  match t with
  | none => 0
  | some t => if t.tpid = 0x8100 then 1 else if t.tpid = 0x88A8 then 2 else 3

/-- The kind of a lookup (R164): 0 other, 1 IPv4, 2 IPv6, 3 MPLS. -/
def Parse.kind (p : Parse) (inner : Bool) : Nat :=
  if !inner && (p.etype == 0x8847 || p.etype == 0x8848) then 3
  else match (if inner then p.inner else p.outer) with
    | some l => if l.v6 then 2 else 1
    | none => 0

/-- A field of the key: `v` at bits [hi:lo]. -/
def keyField (hi lo v : Nat) : Nat := v % 2 ^ (hi + 1 - lo) * 2 ^ lo

/-- The IP header a lookup takes its fields from: the inner one, the outer one, or the one below the stack. -/
def Parse.l3 (p : Parse) (inner : Bool) : Option L3 :=
  if inner then p.inner else match p.outer with | some l => some l | none => p.below

/-- The key of a lookup with a layout (R163, R165, R617). -/
def Parse.key (p : Parse) (layout src portClass : Nat) (inner : Bool) : Nat :=
  let tags := if inner then p.inTags else p.tags
  let tci := fun n => (tags[n]?.map fun t => t.tci).getD 0
  let da := if inner then p.inDa else p.da
  let sa := if inner then p.inSa else p.sa
  let et := if inner then p.inEtype else p.etype
  let l := p.l3 inner
  let g := fun (f : L3 → Nat) => (l.map f).getD 0
  let lse := fun n => if inner then 0 else p.lses.getD n 0
  let meta_ := keyField 639 637 layout + keyField 636 633 p.outcome + keyField 632 623 src
    + keyField 622 622 (b2n p.tunnel) + keyField 621 621 (b2n inner) + keyField 620 620 (b2n p.ptp)
    + keyField 619 619 (b2n p.cfm) + keyField 618 618 (b2n p.jarlis.isSome) + keyField 617 616 p.tags.length
    + keyField 615 612 p.lses.length + keyField 611 608 (g (·.exts)) + keyField 607 592 portClass
    + keyField 591 580 ((p.jarlis.map (·.srcDev)).getD 0)
  let body := match layout with
    | 0 => keyField 575 528 da + keyField 527 480 sa + keyField 479 464 et + keyField 463 448 (tci 0)
        + keyField 447 432 (tci 1) + keyField 431 416 (tci 2) + keyField 415 414 (tpidCode tags[0]?)
        + keyField 413 412 (tpidCode tags[1]?) + keyField 411 410 (tpidCode tags[2]?)
        + keyField 409 378 (g (·.dip)) + keyField 377 370 (g (·.proto)) + keyField 369 364 (g (·.dscp))
        + keyField 363 348 (g (·.dport)) + keyField 347 345 p.cfmLevel + keyField 344 337 p.cfmOp
    | 1 => keyField 575 544 (g (·.sip)) + keyField 543 512 (g (·.dip)) + keyField 511 504 (g (·.proto))
        + keyField 503 498 (g (·.dscp)) + keyField 497 496 (g (·.ecn)) + keyField 495 488 (g (·.ttl))
        + keyField 487 486 (g (·.frag)) + keyField 485 485 (g fun l => b2n l.opt) + keyField 484 469 (g (·.sport))
        + keyField 468 453 (g (·.dport)) + keyField 452 445 (g (·.flags)) + keyField 444 429 (tci 0)
        + keyField 428 413 (tci 1) + keyField 412 365 da + keyField 364 341 p.vni
    | 2 => keyField 575 448 (g (·.sip)) + keyField 447 320 (g (·.dip)) + keyField 319 312 (g (·.proto))
        + keyField 311 306 (g (·.dscp)) + keyField 305 304 (g (·.ecn)) + keyField 303 296 (g (·.ttl))
        + keyField 295 276 (g (·.flow)) + keyField 275 274 (g (·.frag)) + keyField 273 273 (g fun l => b2n l.opt)
        + keyField 272 257 (g (·.sport)) + keyField 256 241 (g (·.dport)) + keyField 240 233 (g (·.flags))
        + keyField 232 217 (tci 0) + keyField 216 193 p.vni
    | _ => keyField 575 544 (lse 0) + keyField 543 512 (lse 1) + keyField 511 480 (lse 2) + keyField 479 448 (lse 3)
        + (if inner then 0 else keyField 447 444 p.lses.length + keyField 443 442 p.bos
            + keyField 441 410 ((p.below.map (·.dip)).getD 0) + keyField 409 402 ((p.below.map (·.proto)).getD 0)
            + keyField 401 396 ((p.below.map (·.dscp)).getD 0))
        + keyField 395 380 (tci 0) + keyField 379 332 da
  meta_ + body

end Sys2Proof.Machine
end

