-- ==== Sys2Proof/Machine/Edit.lean ====
section
/-!
DEFINITION. The changes made to a frame's bytes: remarks (R168, R232, R615), the Jarlis header (R332), the per-copy edits
(R283), mirror templates (R292) and the time insertions of the egress MAC (R415, R416).
-/
namespace Sys2Proof.Machine

/-! ### Checksum repair -/

/-- Fold the carries of a sum of 16-bit words. -/
def foldSum (s : Nat) : Nat :=
  let t := s % 65536 + s / 65536
  t % 65536 + t / 65536

/-- RFC 1624: the checksum after a word changes from `m` to `m'`. -/
def rfc1624 (hc m m' : Nat) : Nat := 65535 - foldSum ((65535 - hc) + (65535 - m) + m')

/-! ### Remarks -/

/-- Rewrite the DSCP of an IP header; an IPv4 header checksum is repaired incrementally (R615). -/
def editDscp (bs : List Byte) (l : L3) (dscp : Nat) : List Byte :=
  let w := be16 bs l.off
  if l.v6 then patch bs l.off (beBytes 2 (withBits w 11 6 dscp))
  else
    let w' := withBits w 7 2 dscp
    let bs := patch bs l.off (beBytes 2 w')
    patch bs (l.off + 10) (beBytes 2 (rfc1624 (be16 bs (l.off + 10)) w w'))

/-- Rewrite bits of the tag's TCI. -/
def editTci (bs : List Byte) (t : Tag) (hi lo v : Nat) : List Byte :=
  patch bs (t.off + 2) (beBytes 2 (withBits (be16 bs (t.off + 2)) hi lo v))

/-- Rewrite the traffic class of the top label (R168). -/
def editExp (bs : List Byte) (off v : Nat) : List Byte := patch bs off (beBytes 4 (withBits (be32 bs off) 11 9 v))

/-- Apply an optional change. -/
def optEdit {α : Type} (bs : List Byte) (o : Option α) (f : List Byte → α → List Byte) : List Byte :=
  match o with
  | none => bs
  | some a => f bs a

/-- The remarks of a decision, on the headers that the frame has in its key (R168, R615, R616). -/
def remarks (f : Frame) : List Byte :=
  let p := f.parse
  let c := f.dec
  let l3 := p.l3 (c.dscpIn && p.tunnel)
  let bs := optEdit f.bytes l3 fun bs l => optEdit bs c.dscp fun bs v => editDscp bs l v
  let bs := optEdit bs p.tags.head? fun bs t =>
    optEdit (optEdit bs c.pcp fun bs v => editTci bs t 15 13 v) c.dei fun bs v => editTci bs t 12 12 v
  if p.lses.isEmpty then bs else optEdit bs c.exp fun bs v => editExp bs p.lseOff v

/-! ### The Jarlis header -/

/-- TYPE, DST_DEV and DEST of the header of a frame that this device sends anew (R332). -/
def jarlisTarget (dest : Dest) (remote : Option (Nat × Nat)) : Nat × Nat × Nat :=
  match dest, remote with
  | .group g, _ => (1, 0, g)
  | _, some (dev, port) => (0, dev, port)
  | _, none => (0, 0, 0xFFFF)

/-- The header inserted for a frame that has none (R332). -/
def Device.newJHdr (d : Device) (src queue colour : Nat) (target : Nat × Nat × Nat) : JHdr :=
  { type := target.1, tc := queue, colour := colour, hops := d.get Reg.JFL_CFG_HOP_INIT,
    srcDev := d.get Reg.JFL_CFG_DEVID, dstDev := target.2.1, srcPort := src, dest := target.2.2 }

/-- The bytes of a frame leaving on a Jarlis or an Ethernet port (R332). `transit` keeps DEST, DST_DEV and TYPE. -/
def Device.jarlisEdit (d : Device) (bs : List Byte) (old : Option JHdr) (toJarlis transit : Bool)
    (src queue colour : Nat) (target : Nat × Nat × Nat) : List Byte :=
  match old, toJarlis with
  | none, false => bs
  | none, true => (d.newJHdr src queue colour target).toBytes ++ bs
  | some _, false => bs.drop 16
  | some h, true =>
    let h := { h with tc := queue, colour := colour, hops := h.hops - 1 }
    let h := if transit then h else { h with type := target.1, dstDev := target.2.1, dest := target.2.2 }
    h.toBytes ++ bs.drop 16

/-- Which of RX or TX UCAST, MCAST, BCAST a destination address counts in: 0, 1, 2. -/
def castOf (da : Nat) : Nat := if da = 0xFFFFFFFFFFFF then 2 else if bit da 40 then 1 else 0

/-! ### Copies -/

/-- The bytes a copy's VID operation and Jarlis header add to its length (R283, R286, R332). -/
def copyLen (len vidOp : Nat) (hasHdr toJarlis : Bool) : Nat :=
  let n := if vidOp = 2 then len + 4 else len
  if toJarlis && !hasHdr then n + 16 else if !toJarlis && hasHdr then n - 16 else n

/-- The VID operation of a member record on the frame as the edit step left it (R283). -/
def vidEdit (f : Frame) (vidOp vid : Nat) : List Byte :=
  let tag := f.parse.tags.head?
  if vidOp = 1 then optEdit f.bytes tag fun bs t => editTci bs t 11 0 vid
  else if vidOp = 2 then
    let at_ := f.parse.ethOff + 12
    let pd := match tag with | some t => be16 f.bytes (t.off + 2) / 4096 | none => 0
    f.bytes.take at_ ++ beBytes 2 0x8100 ++ beBytes 2 (pd * 4096 + vid) ++ f.bytes.drop at_
  else f.bytes

/-- The bytes of a multicast copy as it is read out (R286). -/
def Device.copyBytes (d : Device) (f : Frame) (e : EgrEntry) : List Byte :=
  d.jarlisEdit (vidEdit f e.vidOp e.vid) f.parse.jarlis e.jarlis false f.src e.hdr.queue e.hdr.colour
    (1, 0, f.hdr.dest)

/-- The template of a mirror session as it stands, `n` bytes. -/
def Device.template (d : Device) (s n : Nat) : List Byte :=
  ((List.range 16).flatMap fun w => leBytes 4 (d.rd (Reg.MIR_SESSION_TPL s w))).take n

/-- The corrections of R292 to a template, for a copy of length `len`. -/
def Device.fixTemplate (d : Device) (s len : Nat) (t : List Byte) : List Byte :=
  let ip := d.get (Reg.MIR_SESSION_W1_IP_OFF s)
  let udp := d.get (Reg.MIR_SESSION_W1_UDP_OFF s)
  let n := t.length
  let t := if d.flag (Reg.MIR_SESSION_W1_IP4_FIX s) then
      let t := patch t (ip + 2) (beBytes 2 (len - 4 - ip))
      let t := patch t (ip + 10) (beBytes 2 0)
      patch t (ip + 10) (beBytes 2 (65535 - onesSum (slice t ip (4 * (byteAt t ip % 16)))))
    else t
  let t := if d.flag (Reg.MIR_SESSION_W1_IP6_FIX s) then patch t (ip + 4) (beBytes 2 (len - 4 - ip - 40)) else t
  let t := if d.flag (Reg.MIR_SESSION_W1_UDP_FIX s) then
      patch (patch t (udp + 4) (beBytes 2 (len - 4 - udp))) (udp + 6) (beBytes 2 0)
    else t
  t.take n

/-- The bytes of a mirror copy as it is read out (R292). -/
def Device.mirrorBytes (d : Device) (f : Frame) : List Byte :=
  let n := f.hdr.len - 4 - f.bytes.length
  d.fixTemplate f.hdr.mirSession f.hdr.len (d.template f.hdr.mirSession n) ++ f.bytes

/-- The trunk fields a member's MAC writes into the Jarlis header (R34, R339). -/
def trunkFields (bs : List Byte) (seq epoch : Nat) : List Byte :=
  let h := readJHdr bs
  { h with seq := seq, seqValid := true, epoch := epoch }.toBytes ++ bs.drop 16

/-! ### Time insertions -/

/-- Where a PTP header stands in a frame as it is sent: its offset and, over UDP, the offset of the UDP header and whether
IPv6 carries it (R415: outer headers only, a Jarlis header passed over). -/
def ptpPlace (bs : List Byte) (jarlis : Bool) (tpidX : Nat) : Option (Nat × Option (Nat × Bool)) :=
  let p := ({ bs := bs, tpidX := tpidX, vxlan2 := 0 } : ParseIn).run jarlis
  if !p.ptp then none
  else if p.etype = 0x88F7 then some (p.ethOff + 14 + 4 * p.tags.length, none)
  else p.outer.map fun l => (l.l4off + 8, some (l.l4off, l.v6))

/-- Change one 16-bit word under a UDP checksum. -/
def putWord (udp : Option (Nat × Bool)) (bs : List Byte) (off v : Nat) : List Byte :=
  let old := be16 bs off
  let bs := patch bs off (beBytes 2 v)
  match udp with
  | none => bs
  | some (u, v6) =>
    let hc := be16 bs (u + 6)
    if hc = 0 ∧ !v6 then bs else patch bs (u + 6) (beBytes 2 (rfc1624 hc old v))

/-- Change several words under a UDP checksum; under IPv6 a result of 0 is sent as 0xFFFF (R416). -/
def putWords (udp : Option (Nat × Bool)) (bs : List Byte) (off n v : Nat) : List Byte :=
  let bs := (List.range n).foldl (fun bs i => putWord udp bs (off + 2 * i) (v / 65536 ^ (n - 1 - i) % 65536)) bs
  match udp with
  | some (u, true) => if be16 bs (u + 6) = 0 then patch bs (u + 6) (beBytes 2 0xFFFF) else bs
  | _ => bs

/-- The PTP message at `o` is one the MAC acts on (R415), with `n` bytes of it present. -/
def ptpActs (bs : List Byte) (o n : Nat) : Bool :=
  decide (o + n ≤ bs.length) && byteAt bs (o + 1) % 16 == 2 && decide (byteAt bs o % 16 ≤ 3)

/-- The correctionField after an addition, and whether it saturated (R415). -/
def correct (c : Nat) (add : Int) : Nat × Bool :=
  if c = 0x7FFFFFFFFFFFFFFF then (c, false)
  else
    let s := signed 64 c + add
    if s < -(2 ^ 63) ∨ 2 ^ 63 ≤ s then (0x7FFFFFFFFFFFFFFF, true) else (unsigned 64 s, false)

/-- The fixed latency of a row of R410 in ns: (TX, RX). -/
def phyLatency (width rate fec : Nat) : Nat × Nat :=
  if rate = 0 then (180, 250)
  else if rate = 1 then (if fec = 1 then (80, 320) else (70, 90))
  else if rate = 2 then
    if width = 4 then (65, 190) else if fec = 0 then (50, 65) else if fec = 1 then (60, 170) else (70, 300)
  else if rate = 3 then (if width = 4 then (60, 160) else if width = 2 then (65, 185) else (65, 230))
  else if rate = 4 then
    if width = 8 then (60, 145) else if width = 4 then (60, 150) else if width = 2 then (60, 155) else (60, 175)
  else if width = 8 then (55, 130) else if width = 4 then (60, 140) else if width = 2 then (60, 145) else (60, 150)

/-- The row in use at a port (R410): a Jarlis port's active width, else the configured one. -/
def Device.portLatency (d : Device) (p : Nat) (tx : Bool) : Nat :=
  let t := tileOf p
  let k := laneIn p
  let act := d.get (if tx then Reg.TILE_SHED_STATUS_TX_LANES t k else Reg.TILE_SHED_STATUS_RX_LANES t k)
  let w := if d.isJarlis p && act != 0 then act else d.width p
  let l := phyLatency w (d.get (Reg.TILE_PORT_STATUS_RATE_ACT t k)) (d.get (Reg.TILE_PORT_STATUS_FEC_ACT t k))
  if tx then l.1 else l.2

/-- The correction of a stamp at a port in units of 2⁻¹⁶ ns: + TX + TX_ADJ, or − RX − RX_ADJ (R410, R411). -/
def Device.stampAdj (d : Device) (p : Nat) (tx : Bool) : Int :=
  let adj := d.get (if tx then Reg.TIM_PORT_ADJ_TX_ADJ p else Reg.TIM_PORT_ADJ_RX_ADJ p)
  let a : Int := d.portLatency p tx * 65536 + signed 16 adj * 4096
  if tx then a else -a

/-- The deskew delay of the PCS lane that carried a delimiter, on a multi-lane port (R410): a free value, since what was measured at
lock and which lane it is are nowhere else. -/
def Device.deskew (d : Device) (p : Nat) : Nat := if 1 < d.width p then Config.freeNat d.freeCtr else 0

/-- The 16 bytes of a delivered stamp of ToD `t` (R412). -/
def stampBytes (t frac port : Nat) (valid stepped muted : Bool) : List Byte :=
  leBytes 8 (tmSec t) ++ leBytes 4 (tmNs t + 2 ^ 30 * b2n stepped + 2 ^ 31 * b2n valid) ++ leBytes 2 frac
    ++ leBytes 2 (port % 1024 + 1024 * b2n muted)

/-- The insertion of action 0b01 or 0b10 into the bytes sent on port `x` of a frame from port `src` (R415). -/
def Device.ptpInsert (d : Device) (x : Nat) (f : Frame) (bs : List Byte) (jarlis : Bool) : List Byte × Device :=
  let act := f.hdr.ptp
  let ftTx := (d.ft + d.stampAdj x true).toNat
  let todTx := (d.tod + d.stampAdj x true).toNat
  match ptpPlace bs jarlis f.parse.tpidX with
  | none => (bs, d.inc (Reg.TIM_STAT_COUNT 3))
  | some (o, udp) =>
    if !ptpActs bs o (if act = 1 then 44 else 34) then (bs, d.inc (Reg.TIM_STAT_COUNT 3))
    else
      let c := beNat (slice bs (o + 8) 8)
      if act = 1 then
        let bs := putWords udp bs (o + 34) 5 (tmSec todTx % 2 ^ 48 * 2 ^ 32 + tmNs todTx)
        let (c', sat) := correct c (tmFrac todTx)
        (putWords udp bs (o + 8) 4 c', (d.inc (Reg.TIM_STAT_COUNT 0)).when sat fun d => d.inc (Reg.TIM_STAT_COUNT 4))
      else
        let ftIn : Int := (f.hdr.tsSec * 1000000000 + f.hdr.tsNs) * 65536 + 32768
        let r := (ftTx - ftIn) % (4 * secUnits : Int)
        let p2p := decide (f.src < 512) && d.get (Reg.TIM_PORT_DLY_TC_MODE f.src) == 2
        let add := if p2p then r + d.get (Reg.TIM_PORT_DLY_LINK_DELAY f.src) else r
        let (c', sat) := correct c add
        (putWords udp bs (o + 8) 4 c', (d.inc (Reg.TIM_STAT_COUNT 1)).when sat fun d => d.inc (Reg.TIM_STAT_COUNT 4))

end Sys2Proof.Machine
end

