-- ==== Sys2Proof/Machine/Gather.lean ====
section
/-!
DEFINITION. The Gather buffers of the tiles and the flow control of the MAC (R135 to R146), without the commands.
-/
namespace Sys2Proof.Machine

/-! ### Gather blocks (R137, R138) -/

/-- MAX_LEN in force (R148). -/
def Device.maxLen (d : Device) (p : Nat) : Nat := max 64 (d.get (Reg.MAC_CFG_MAX_LEN (tileOf p) (laneIn p)))

/-- The reserve that a port is to hold: ⌈MAX_LEN / 256⌉ blocks while it is enabled. -/
def Device.reserveOf (d : Device) (p : Nat) : Nat := if d.portEn p then (d.maxLen p + 255) / 256 else 0

/-- The ports of a tile, enabled or not. -/
def tilePorts (t : Nat) : List Nat := (List.range 8).map (8 * t + ·)

/-- Free blocks of a tile's shared pool. -/
def Device.sharedFree (d : Device) (t : Nat) : Nat :=
  2048 - ((tilePorts t).map fun p => (d.port p).resv + (d.port p).blkS).sum

/-- Blocks in use in a tile. -/
def Device.gatherUsed (d : Device) (t : Nat) : Nat :=
  ((tilePorts t).map fun p => (d.port p).blkR + (d.port p).blkS).sum

/-- MAC_GATHER_STATUS follows the tile (R154). -/
def Device.gatherShow (d : Device) (t : Nat) : Device :=
  let u := d.gatherUsed t
  (d.set (Reg.MAC_GATHER_STATUS_USED_BLK t) u).set (Reg.MAC_GATHER_STATUS_PEAK_BLK t)
    (max u (d.get (Reg.MAC_GATHER_STATUS_PEAK_BLK t)))

/-- Reserves that have grown fill as blocks come free (R138). -/
def Device.fillReserves (d : Device) (t : Nat) : Device :=
  d.each (tilePorts t) fun d p =>
    let want := d.reserveOf p - (d.port p).resv
    let n := min want (d.sharedFree t)
    if n = 0 then d else d.updPort p fun x => { x with resv := x.resv + n }

/-- The reserve of a port follows MAX_LEN and EN (R138). Blocks in use beyond a smaller reserve count as shared. -/
def Device.reserveSet (d : Device) (p : Nat) : Device :=
  let want := d.reserveOf p
  let d := d.updPort p fun x =>
    if want < x.resv then { x with resv := want, blkS := x.blkS + (x.blkR - want), blkR := min x.blkR want } else x
  (d.fillReserves (tileOf p)).gatherShow (tileOf p)

/-- Take one block for a frame of port `p`: from its reserve (`some true`), from the shared pool (`some false`), or none. -/
def Device.takeBlock (d : Device) (p : Nat) : Option Bool × Device :=
  let x := d.port p
  if x.blkR < x.resv then
    (some true, (d.updPort p fun x => { x with blkR := x.blkR + 1 }).gatherShow (tileOf p))
  else if 0 < d.sharedFree (tileOf p) then
    (some false, (d.updPort p fun x => { x with blkS := x.blkS + 1 }).gatherShow (tileOf p))
  else (none, d)

/-- Free blocks of port `p`: `r` were taken of its reserve, `s` of the shared pool. What a reserve that has shrunk since no longer covers counts
as shared. -/
def Device.giveBlocks (d : Device) (p r s : Nat) : Device :=
  if p < 512 then
    let d := d.updPort p fun x => { x with blkR := x.blkR - r, blkS := x.blkS - (s + (r - x.blkR)) }
    (d.fillReserves (tileOf p)).gatherShow (tileOf p)
  else d

/-- FREED_k of a Jarlis port (R335), kept by 16 × port + class, modulo 65,536. -/
def Device.addFreed (d : Device) (p : Nat) (bs : List Byte) (n : Nat) : Device :=
  let h := readJHdr bs
  if d.isJarlis p && h.type != 2 then
    let k := 16 * p + h.tc
    d.onJfl fun j => { j with freed := nset j.freed k ((nget j.freed k + n) % 65536) }
  else d

/-- The blocks of a received frame go back (R137), and on a Jarlis port they are returned as credit. -/
def Device.freeBlocks (d : Device) (p : Nat) (bs : List Byte) (r s : Nat) : Device :=
  if p < 512 then (d.giveBlocks p r s).addFreed p bs (r + s) else d

/-! ### MAC Control frames (R141 to R145) -/

/-- The flow-control mode in force (R141, R148). -/
def Device.fcMode (d : Device) (x : Nat) : Nat :=
  let m := d.get (Reg.MAC_CFG_FC_MODE (tileOf x) (laneIn x))
  if d.isJarlis x ∨ m = 3 ∨ 512 ≤ x then 0 else m

/-- The queues that PFC priority `p` of port `x` governs. -/
def Device.qmask (d : Device) (x p : Nat) : Nat := d.get (Reg.MAC_PFC_MAP_QMASK (tileOf x) (laneIn x) p)

/-- 01-80-C2-00-00-01. -/
def pauseAddr : Nat := 0x0180C2000001

/-- A MAC Control frame of port `p`, 60 bytes before its FCS. -/
def Device.ctrlFrame (d : Device) (p op : Nat) (body : List Byte) : List Byte :=
  slice (beBytes 6 pauseAddr ++ beBytes 6 (d.get (Reg.MAC_ADDR_ADDR (tileOf p) (laneIn p))) ++ beBytes 2 0x8808
    ++ beBytes 2 op ++ body) 0 60

/-- Count a MAC Control frame sent (R155). -/
def Device.ctrlSent (d : Device) (p mode : Nat) (prios : List Nat) : Device :=
  let d := (((d.macStat p 27 64).macStat p 28).macStat p 30).macStat p (if mode = 1 then 32 else 33)
  let d := d.pmc 3 p
  if mode = 2 then d.each prios fun d i => d.macStat p (44 + i) else d

/-- Send a PAUSE or PFC frame of a mode: `on` asserted, `off` released (R143). A muted port sends none (R144). -/
def Device.sendXoff (d : Device) (p mode on off : Nat) : Device :=
  if d.unit.muted || !d.portUp p || mode == 0 then d
  else
    let q := d.get (Reg.MAC_FC_TX_QUANTA (tileOf p) (laneIn p))
    if mode = 1 then
      (d.emit (.frame p (d.ctrlFrame p 1 (beBytes 2 (if bit on 0 then q else 0))) true false)).ctrlSent p 1 []
    else
      let body := beBytes 2 (on ||| off) ++ (List.range 8).flatMap fun i => beBytes 2 (if bit on i then q else 0)
      (d.emit (.frame p (d.ctrlFrame p 0x0101 body) true false)).ctrlSent p 2
        (bitsSet 8 on)

/-- The XOFF requests of port `p` are looked at again: Gather occupancy and held(p, k) against their thresholds, each with
its release level (R143, R317). -/
def Device.xoffLook (d : Device) (p : Nat) : Device :=
  let t := tileOf p
  let x := d.port p
  let occ := x.blkR + x.blkS
  let hi := d.get (Reg.MAC_GATHER_CFG_XOFF_BLK t)
  let g := hi != 0 && (decide (hi < occ) || (x.gatherXoff && decide (d.get (Reg.MAC_GATHER_CFG_XON_BLK t) < occ)))
  let qs := (List.range 16).filter fun k =>
    let st := d.get (Reg.EGR_PFC_THR_XOFF_ST p k)
    let held := d.get (Reg.EGR_PFC_HELD_HELD p k)
    st != 0 && (decide (st < held) || (x.qXoff.contains k && decide (d.get (Reg.EGR_PFC_THR_XON_ST p k) < held)))
  d.updPort p fun x => { x with gatherXoff := g, qXoff := qs }

/-- The priorities (or bit 0 for the port under PAUSE) that XOFF is to be asserted for. -/
def Device.xoffWant (d : Device) (p : Nat) : Nat :=
  let x := d.port p
  if d.fcMode p = 1 then b2n (x.gatherXoff || !x.qXoff.isEmpty)
  else if d.fcMode p = 2 then
    (List.range 8).foldl (fun m i =>
      if x.gatherXoff || x.qXoff.any (bit (d.qmask p i)) then m + 2 ^ i else m) 0
  else 0

/-- TX_XOFF of a port. -/
def Device.txXoff (d : Device) (p : Nat) : Nat := d.get (Reg.MAC_FC_STATUS_TX_XOFF (tileOf p) (laneIn p))

/-- Store TX_XOFF. -/
def Device.setXoff (d : Device) (p v : Nat) : Device := d.set (Reg.MAC_FC_STATUS_TX_XOFF (tileOf p) (laneIn p)) v

/-- A priority is in a watchdog break. -/
def Device.inBreak (d : Device) (p i : Nat) : Bool := bit (d.get (Reg.MAC_FC_STATUS_WD_BREAK (tileOf p) (laneIn p))) i

/-- Load or clear the received pause timer of a target (R142). -/
def Device.pauseLoad (d : Device) (p i quanta : Nat) : Device :=
  let f := Reg.MAC_FC_STATUS_RX_PAUSED (tileOf p) (laneIn p)
  let d := d.updPort p fun x =>
    let rest := x.pauseQ.filter fun e => e.1 != i
    { x with pauseQ := if quanta = 0 then rest else (i, quanta) :: rest }
  d.set f (setBit (d.get f) i (quanta != 0))

/-- A change of FC_MODE from `old` (R145): received timers clear, an asserted XOFF is released in the old mode, and
generation follows the new one. -/
def Device.fcModeChange (d : Device) (p old : Nat) : Device :=
  let x := d.txXoff p
  let d := if x = 0 then d else d.sendXoff p old 0 x
  let d := (d.setXoff p 0).set (Reg.MAC_FC_STATUS_RX_PAUSED (tileOf p) (laneIn p)) 0
  d.updPort p fun y => { y with pauseQ := [] }

/-! ### Reception in progress -/

/-- The frame in reception at a port. -/
def Device.rxOf (d : Device) (p : Nat) : Option RxFrame := mget (fun _ => none) d.path.rx p

/-- Store the frame in reception. -/
def Device.setRx (d : Device) (p : Nat) (x : Option RxFrame) : Device :=
  d.onPath fun q => { q with rx := mset (fun _ => none) q.rx p x }

/-- Where the Ethernet header stands: at the start, or behind the 16 bytes of a Jarlis header; none in control and management frames, which
have no Ethernet header (R345, R350). -/
def Device.ethAt (d : Device) (p : Nat) (bs : List Byte) : Option Nat :=
  if d.isJarlis p then
    let h := readJHdr bs
    if h.type = 2 ∨ (h.type = 0 ∧ h.dest = 0xFFFE) then none else some 16
  else some 0

/-- The bytes before those that a frame's length counts (R135: from the destination address): a frame without one is counted whole. -/
def Device.lenSkip (d : Device) (p : Nat) (bs : List Byte) : Nat := (d.ethAt p bs).getD 0

/-- Codewords decoded at a port (R110): corrected, uncorrectable and by corrected symbols under FEC 2 and 3; only uncorrectable ones under
FEC 1. -/
def Device.fecCount (d : Device) (p : Nat) (cw : List (Option (BitVec 4))) : Device :=
  let t := tileOf p
  let k := laneIn p
  let fec := d.get (Reg.TILE_PORT_CFG_FEC t k)
  d.each cw fun d c =>
    match c with
    | none => if fec = 0 then d else d.inc (Reg.TILE_FEC_UNCORR_COUNT t k)
    | some n =>
      if fec < 2 then d
      else (d.when (n != 0) fun d => d.inc (Reg.TILE_FEC_CORR_COUNT t k)).inc (Reg.TILE_FEC_HIST_COUNT t k n.toNat)

/-- An FEC codeword was uncorrectable. -/
def Device.fecBad (d : Device) (p : Nat) (cw : List (Option (BitVec 4))) : Bool :=
  d.get (Reg.TILE_PORT_CFG_FEC (tileOf p) (laneIn p)) != 0 && cw.any (·.isNone)

/-- Count a discarded frame of a port: its statistic and its Cullet reason (R136). -/
def Device.rxDrop (d : Device) (p stat reason : Nat) : Device :=
  (d.macStat p stat).cullet (sliceOf p) p reason

/-- The size bin of a length (R155): none below 64 bytes or above 16,383. -/
def sizeBin (len : Nat) : Option Nat :=
  if len < 64 ∨ 16383 < len then none
  else if len = 64 then some 17 else if len < 128 then some 18 else if len < 256 then some 19
  else if len < 512 then some 20 else if len < 1024 then some 21 else if len < 1519 then some 22
  else if len < 2048 then some 23 else if len < 4096 then some 24 else if len < 9217 then some 25 else some 26

/-- Count a received frame by size. -/
def Device.rxSize (d : Device) (p len : Nat) : Device :=
  match sizeBin len with | some i => d.macStat p i | none => d

/-- A frame in reception is cut short by link-down, reconfiguration or deletion (R136); it counts by size whatever its outcome (R155). -/
def Device.rxAbort (d : Device) (p : Nat) : Device :=
  match d.rxOf p with
  | none => d
  | some x =>
    let d := d.setRx p none
    if x.filtered then d
    else
      let d := d.rxSize p (x.bytes.length - d.lenSkip p x.bytes)
      if x.overrun then d else (d.freeBlocks p x.bytes x.blkR x.blkS).rxDrop p 11 2

end Sys2Proof.Machine
end

