-- ==== Sys2Proof/Machine/Punt.lean ====
section
/-!
DEFINITION. The host queues' common part: rings, operations and completions (R486 to R493), posted buffers (R498), the
punt header (R499) and the delivered stamp (R412, R413).
-/
namespace Sys2Proof.Machine

/-- Change what the host queues hold. -/
def Device.onHost (d : Device) (f : HostQ → HostQ) : Device := { d with host := f d.host }

/-- The function that owns queue index `n` (R484). -/
def Device.owner (d : Device) (n : Nat) : Nat := d.get (Reg.HQ_OWNER_FUNC n)

/-- DMA of a function is allowed and the link up (R483, R588). -/
def Device.dmaOk (d : Device) (func : Nat) : Bool :=
  d.pcieUp && mget (fun _ => false) d.host.bme func && !mget (fun _ => false) d.host.d3 func

/-- An SQ whose entries are operations in flight until their completions are written: any but PUNT, LEARN and AUDIT (R488). -/
def Device.inFlightSq (d : Device) (sq : Nat) : Bool := !([1, 3, 4].contains (d.get (Reg.HQ_SQ_CFG_TYPE sq)))

/-- Operations in flight (R488). -/
def Device.inFlight (d : Device) : Nat :=
  (d.host.ops.filter fun o => d.inFlightSq o.sq).length
    + (d.host.due.map fun e => (e.2.filter fun c => d.inFlightSq c.sq).length).sum
    + (d.host.bwait.map fun e => if d.inFlightSq e.1 then e.2.length else 0).sum

/-- HQ_GLB_STATUS.INFLIGHT follows the operations in flight. -/
def Device.showOps (d : Device) : Device := d.set Reg.HQ_GLB_STATUS_INFLIGHT d.inFlight

/-! ### Request lines (R510, R511) -/

/-- A request line may request: it is enabled, and so is its channel, in line mode; the PCIe domain is awake. -/
def Device.lineOpen (d : Device) (l : Nat) : Bool :=
  let c := d.get (Reg.DMA_LINE_CHAN l)
  d.flag (Reg.DMA_LINE_EN l) && d.flag (Reg.DMA_CHAN_EN c) && d.flag (Reg.DMA_CHAN_MODE c)
    && bit (d.rd (Reg.PWR_DOM_STATUS 3)) 16

/-- `n` bytes of a line's data have left its producer: what its bursts moved of it is forgotten. -/
def Device.lineLess (d : Device) (l n : Nat) : Device :=
  { d with dma := { d.dma with moved := nset d.dma.moved l (nget d.dma.moved l - n) } }

/-! ### Completion queues -/

/-- The number of slots of CQ `n` (R487). -/
def Device.cqSize (d : Device) (n : Nat) : Nat := 2 ^ d.get (Reg.HQ_CQ_CFG_LOG2_N n)

/-- F: the slots of CQ `n` that may be written (R487, R493). -/
def Device.cqFree (d : Device) (n : Nat) : Nat :=
  let w := d.get (Reg.HQ_CQ_STATUS_WIDX n)
  let h := d.get (Reg.HQ_CQ_DB_HEAD n)
  let size := d.cqSize n
  if w ≠ h then (h + size - w) % size
  else if d.get (Reg.HQ_CQ_DB_PHASE n) = d.get (Reg.HQ_CQ_STATUS_PHASE n) then size else 0

/-- The completions due on CQ `n`, oldest first. -/
def Device.due (d : Device) (n : Nat) : List Cqe := lget d.host.due n

/-- HQ_CQ_STATUS.FULL and HELD follow the ring and the holding store. -/
def Device.cqShow (d : Device) (n : Nat) : Device :=
  let free := d.cqFree n
  (d.put (Reg.HQ_CQ_STATUS_FULL n) (free == 0)).set (Reg.HQ_CQ_STATUS_HELD n) ((d.due n).length - free)

/-- A completion is due on its CQ. -/
def Device.cqPush (d : Device) (n : Nat) (c : Cqe) : Device :=
  (d.onHost fun h => { h with due := lpush h.due n c }).cqShow n

/-- The 16 bytes of a completion (R490). -/
def Cqe.bytes (c : Cqe) (phase : Nat) : List Byte :=
  leBytes 4 c.tag ++ slice c.res 0 8 ++ leBytes 1 c.status ++ leBytes 1 c.detail
    ++ leBytes 2 (c.sq % 512 + 8192 * b2n c.berr + 16384 * b2n c.batch + 32768 * phase)

/-- Write the oldest completion due on CQ `n`, if the ring has room and the owner may use DMA (R483, R493). -/
def Device.cqWrite (d : Device) (n : Nat) : Device :=
  match d.due n with
  | [] => d
  | c :: rest =>
    if d.cqFree n = 0 ∨ !d.dmaOk (d.owner n) ∨ !d.flag (Reg.HQ_CQ_CFG_EN n) then d
    else
      let w := d.get (Reg.HQ_CQ_STATUS_WIDX n)
      let p := d.get (Reg.HQ_CQ_STATUS_PHASE n)
      let w' := (w + 1) % d.cqSize n
      let d := d.emit (.hostWrite (d.owner n) (d.rd64 (Reg.HQ_CQ_BASE n) + 16 * w) (c.bytes p))
      let d := (d.set (Reg.HQ_CQ_STATUS_WIDX n) w').set (Reg.HQ_CQ_STATUS_PHASE n) (if w' = 0 then 1 - p else p)
      let d := d.onHost fun h => { h with due := lset h.due n rest, wrapped := if w' = 0 then mset (fun _ => false) h.wrapped n true else h.wrapped, unsig := nset h.unsig n (nget h.unsig n + 1),
                                          timer := mset (fun _ => false) h.timer n true }
      ((d.pmc 0x10 n).cqShow n).showOps

/-! ### Operations -/

/-- The CQ that an SQ completes into. -/
def Device.cqOf (d : Device) (sq : Nat) : Nat := d.get (Reg.HQ_SQ_CFG_CQ sq)

/-- An operation by its number. -/
def Device.findOp (d : Device) (id : Nat) : Option HostOp := d.host.ops.find? fun o => o.id == id

/-- A byte of an entry. -/
def HostOp.byte (o : HostOp) (i : Nat) : Nat := byteAt o.bytes i

/-- A little-endian field of an entry. -/
def HostOp.field (o : HostOp) (off n : Nat) : Nat := leNat (slice o.bytes off n)

/-- TAG (R489). -/
def HostOp.tag (o : HostOp) : Nat := o.field 4 4

/-- Entries of an SQ in batch `b` or before it that have not finished (R492). -/
def Device.batchBusy (d : Device) (sq b : Nat) : Bool :=
  d.host.ops.any (fun o => o.sq == sq && decide (o.bno ≤ b))
    || (lget d.host.bufs sq).any fun x => decide (x.op.bno ≤ b)

/-- Write the batch completions of an SQ whose covered entries have all finished, in batch order (R492). -/
def flushBatches (sq : Nat) : Nat → Device → Device
  | 0, d => d
  | fuel + 1, d =>
    match lget d.host.bwait sq with
    | [] => d
    | (b, c) :: rest =>
      if d.batchBusy sq b then d
      else
        let berr := (lget d.host.bfail sq).contains b
        let d := d.onHost fun h => { h with bwait := lset h.bwait sq rest,
                                            bfail := lset h.bfail sq ((lget h.bfail sq).filter (· != b)) }
        flushBatches sq fuel (d.cqPush (d.cqOf sq) { c with batch := true, berr := berr })

/-- An operation finishes (R490 to R492): its completion, if one is due, and the batches it completes. -/
def Device.finishOp (d : Device) (o : HostOp) (status : Nat) (detail : Nat := 0) (res : List Byte := []) : Device :=
  let q := o.byte 3
  let quiet := bit q 1 && status != 0x40
  let batch := bit q 0 && status != 0x40 && status != 0x46
  let tag := if status = 0x46 then 0 else o.tag
  let c : Cqe := { tag := tag, res := res, status := status, detail := detail, sq := o.sq }
  let d := d.onHost fun h => { h with ops := h.ops.filter fun x => x.id != o.id }
  let d := d.when (status != 0) fun d =>
    (d.inc (Reg.HQ_STAT_COUNT o.sq 1)).onHost fun h => { h with bfail := lpush h.bfail o.sq o.bno }
  let d := if quiet && status == 0 then d
    else if batch then d.onHost fun h => { h with bwait := lpush h.bwait o.sq (o.bno, c) }
    else d.cqPush (d.cqOf o.sq) c
  (flushBatches o.sq (lget d.host.bwait o.sq).length d).showOps

/-- An inject operation completes with the fate of its frame (R497): held, or discarded under a Cullet reason. -/
def Device.injDone (d : Device) (f : Frame) (drop : Option Nat) : Device :=
  match f.inj.bind d.findOp with
  | none => d
  | some o => match drop with
    | none => d.finishOp o 0
    | some r => d.finishOp o 1 r

/-! ### Posted buffers -/

/-- The buffers of a PUNT, LEARN or AUDIT queue. -/
def Device.bufsOf (d : Device) (q : Nat) : List PostBuf := lget d.host.bufs q

/-- A PUNT queue is enabled. -/
def Device.puntQueue (d : Device) (q : Nat) : Bool :=
  d.flag (Reg.HQ_SQ_CFG_EN q) && d.get (Reg.HQ_SQ_CFG_TYPE q) == 1

/-- The first buffer of a PUNT queue that no selection has claimed. -/
def Device.freeBuf (d : Device) (q : Nat) : Option PostBuf := (d.bufsOf q).find? fun b => !b.claimed

/-- Claim a buffer. -/
def Device.claimBuf (d : Device) (q id : Nat) : Device :=
  d.onHost fun h => { h with bufs := lset h.bufs q ((lget h.bufs q).map fun b =>
    if b.op.id = id then { b with claimed := true } else b) }

/-- A POST entry that fails completes (R490, R491). -/
def Device.postFail (d : Device) (o : HostOp) (status : Nat) : Device :=
  d.finishOp o status 0 (if status = 0x46 then leBytes 2 o.sq else [])

/-- The failed entries before which no posted buffer is left complete (R492). -/
def postFails (q : Nat) : Nat → Device → Device
  | 0, d => d
  | fuel + 1, d =>
    match d.bufsOf q with
    | b :: rest =>
      if b.bad = 0 then d
      else postFails q fuel ((d.onHost fun h => { h with bufs := lset h.bufs q rest }).postFail b.op b.bad)
    | [] => d

/-- Write a buffer's bytes and complete it (R498). -/
def Device.bufDone (d : Device) (q : Nat) (b : PostBuf) (bs : List Byte) (recs : Nat) (trunc : Bool) : Device :=
  let d := d.emit (.hostWrite (d.owner q) b.addr bs)
  let d := d.onHost fun h => { h with bufs := lset h.bufs q ((lget h.bufs q).filter fun x => x.op.id != b.op.id) }
  let d := d.finishOp b.op 0 (b2n trunc) (leBytes 4 bs.length ++ leBytes 4 recs)
  postFails q (d.bufsOf q).length d

/-- Put a 32-byte record into the first buffer of a LEARN or AUDIT queue, which completes when full (R498). The flag says
whether there was a buffer. -/
def Device.bufAppend (d : Device) (q : Nat) (bs : List Byte) : Bool × Device :=
  match d.bufsOf q with
  | [] => (false, d)
  | b :: rest =>
    let first := if b.recs = 0 then d.us else b.first
    let b := { b with data := b.data ++ bs, recs := b.recs + 1, first := first }
    if b.len < b.data.length + 32 then (true, d.bufDone q b b.data b.recs false)
    else (true, d.onHost fun h => { h with bufs := lset h.bufs q (b :: rest) })

/-! ### Stamps and punt headers -/

/-- The FT value of a stitch header's stamp (R413), in ns. -/
def Device.ingressFt (d : Device) (h : Hdr) : Nat :=
  let now := d.ft / 65536
  let s := tmSec d.ft
  let s0 := s - (s + 4 - h.tsSec % 4) % 4
  if s0 * 1000000000 + h.tsNs ≤ now then s0 * 1000000000 + h.tsNs else (s0 - 4) * 1000000000 + h.tsNs

/-- The ingress stamp as delivered (R412, R413). -/
def Device.ingressStamp (d : Device) (h : Hdr) (src : Nat) : List Byte :=
  let ft := d.ingressFt h
  let step : Int := (d.tod : Int) - d.ft
  let t := ((ft : Int) * 65536 + step).toNat
  let stepped := match d.stepAt with | some s => decide (ft * 65536 < s) | none => false
  stampBytes t 0x8000 src true stepped false

/-- The 32-byte header of R499 for a frame of which `n` bytes are delivered. -/
def Device.puntHeader (d : Device) (f : Frame) (full n : Nat) : List Byte :=
  let h := f.hdr
  leBytes 2 n ++ leBytes 2 full ++ leBytes 1 f.ckind ++ leBytes 1 f.ccode ++ leBytes 2 f.src
    ++ leBytes 1 (h.tc * 16 + h.colour * 4) ++ leBytes 1 (h.queue * 16 + f.cslice) ++ leBytes 2 0
    ++ leBytes 4 (if f.ckind = 4 then f.caux else 0) ++ d.ingressStamp h f.src

/-- A KIND 5 record (R416, R499). -/
def stampRecord (s : StampRec) : List Byte :=
  leBytes 2 0 ++ leBytes 2 0 ++ leBytes 1 5 ++ leBytes 1 0 ++ leBytes 2 512 ++ leBytes 4 0 ++ leBytes 4 s.tag ++ s.stamp

/-! ### The service receive store (R542) -/

/-- The store has room for a frame of 16,411 bytes. -/
def Device.svcRoom (d : Device) : Bool :=
  decide (d.svcRx.store.length < 1024)
    && decide ((d.svcRx.store.map List.length).sum + 16411 ≤ 4194304)

/-- Put a record into the store. -/
def Device.svcPut (d : Device) (bs : List Byte) : Device :=
  { d with svcRx := { d.svcRx with store := d.svcRx.store ++ [bs] } }

/-- A transmit stamp returns to the frame's source (R416): a KIND 5 record for the host or the service store. -/
def Device.returnStamp (d : Device) (f : Frame) (stamp : List Byte) : Device :=
  match f.stampTo with
  | none => d
  | some (pq, tag) =>
    let s : StampRec := ⟨f.src, pq, tag, stamp⟩
    if f.src = 513 then d.svcPut (stampRecord s) else d.onHost fun h => { h with stamps := h.stamps ++ [s] }

end Sys2Proof.Machine
end

