-- ==== Sys2Proof/Machine/Egress.lean ====
section
/-!
DEFINITION. The egress scheduler and the start and end of transmission (R304 to R326, R33 to R36), with the meanings of its
commands.
-/
namespace Sys2Proof.Machine

/-! ### The departure store and the egress queues -/

/-- The departure store of a tile. -/
def Device.dep (d : Device) (t : Nat) : List DepFrame := lget d.path.dep t

/-- A frame of a departure store. -/
def Device.depFrame (d : Device) (t id : Nat) : Option DepFrame := (d.dep t).find? fun f => f.frame.id == id

/-- Change a frame of a departure store. -/
def Device.onDep (d : Device) (t id : Nat) (f : DepFrame → DepFrame) : Device :=
  d.onPath fun p => { p with dep := lset p.dep t ((lget p.dep t).map fun x => if x.frame.id = id then f x else x) }

/-- An egress queue. -/
def Device.egr (d : Device) (q : Nat) : List EgrEntry := lget d.path.egr q

/-- Change an egress queue. -/
def Device.onEgr (d : Device) (q : Nat) (f : List EgrEntry → List EgrEntry) : Device :=
  d.onPath fun p => { p with egr := lset p.egr q (f (lget p.egr q)) }

/-- The slots of a departure frame can be released: its last copy has been read out, or no copy was admitted (R287); a unicast
frame's when its stitches have all come. -/
def DepFrame.spent (f : DepFrame) : Bool :=
  f.refs == 0 && if f.mc then f.expanded else decide (f.total ≤ f.arrived.length)

/-- The charge of a frame goes, and its part of held(j, k) (R249, R317). -/
def Device.uncharge (d : Device) (c : Charge × Nat × Option (Nat × Nat)) : Device :=
  let d := d.credit c.1 c.2.1
  match c.2.2 with
  | none => d
  | some (src, k) => d.heldAdd src k c.2.1 false

/-- What `uncharge` takes back of a frame: a control frame, and one still charged to a flight allowance, is not in held(j, k). -/
def chargeOf (h : Hdr) (control : Bool) (c : Charge) (n : Nat) : Charge × Nat × Option (Nat × Nat) :=
  (c, n, match c with | .flight _ => none | _ => if control then none else some (h.src, h.queue))

/-- The slots of a departure frame are released once they can be, and with them go the charges that waited (R287). -/
def Device.depCleanup (d : Device) (t id : Nat) : Device :=
  let gone := (d.dep t).filter fun f => f.frame.id == id && f.spent
  let d := d.onPath fun p => { p with dep := lset p.dep t ((lget p.dep t).filter fun f => f.frame.id != id || !f.spent) }
  d.each (gone.flatMap (·.out)) Device.uncharge

/-- A copy has been read out or discarded: its departure reference goes, and its charge with the slots (R249, R287, R317). -/
def Device.releaseEntry (d : Device) (e : EgrEntry) : Device :=
  match d.depFrame e.tile e.id with
  | none => d.uncharge (chargeOf e.hdr (e.charge == .control) e.charge e.n)
  | some x =>
    (d.onDep e.tile e.id fun f => { f with refs := f.refs - 1,
                                           out := f.out ++ [chargeOf e.hdr x.frame.control e.charge e.n] }).depCleanup e.tile e.id

/-- The frame behind an entry, with the entry's header. -/
def Device.entryFrame (d : Device) (e : EgrEntry) : Frame :=
  match d.depFrame e.tile e.id with
  | some f => { f.frame with hdr := e.hdr }
  | none => { hdr := e.hdr, src := e.hdr.src }

/-- The bytes of an entry as selected, before the insertions of R34, without FCS. -/
def Device.entryBytes (d : Device) (e : EgrEntry) : List Byte :=
  match d.depFrame e.tile e.id with
  | none => []
  | some f => if f.frame.mirror.isSome then d.mirrorBytes f.frame else if f.mc then d.copyBytes f.frame e else f.frame.bytes

/-! ### Discards at selection -/

/-- Discard an entry at selection (R316): counted under a reason for a slice and a port, and in SEL_DISCARD. -/
def Device.selDiscard (d : Device) (q : Nat) (e : EgrEntry) (slice port reason : Nat) : Device :=
  let d := d.countDrop (d.entryFrame e) slice port reason
  let d := d.onEgr q fun l => l.erase e
  (d.releaseEntry e).inc (Reg.EGR_STAT_COUNT 2)

/-- A frame carries another epoch than its logical port (R30). -/
def Device.stale (d : Device) (l : Nat) (e : EgrEntry) : Bool := e.hdr.epoch != d.epoch l

/-- The discards that need neither a transmitter nor a mapping: stale epochs (R31) and no path (R365). -/
def Device.purge (d : Device) (l : Nat) : Device :=
  d.each (List.range 16) fun d k =>
    let q := qIdx l k
    let np := d.nopathDiscards l
    d.each ((d.egr q).takeWhile fun e => d.stale l e || np) fun d e =>
      d.selDiscard q e (sliceOf e.hdr.src) l (if d.stale l e then 22 else 33)

/-- The frame has been held too long (R35, R261). -/
def Device.aged (d : Device) (q : Nat) (h : Hdr) (arrival : Nat) : Bool :=
  let lim := min 1000000 (bits (d.qword q 4) 19 0)
  let held := (d.us + 2 ^ 32 - arrival) % 2 ^ 32
  let ftIn := h.tsSec * 1000000000 + h.tsNs
  let ftOut := tmSec d.ft % 4 * 1000000000 + tmNs d.ft
  (lim != 0 && decide (lim ≤ held)) || (h.ptp != 0 && decide (1000000000 ≤ (ftOut + 4000000000 - ftIn) % 4000000000))

/-! ### Pause, credit and watchdog -/

/-- A vector of MAC_FC_STATUS covers queue `k` at port `x` (R142, R146, R150). -/
def Device.fcCovers (d : Device) (x v k : Nat) : Bool :=
  if d.fcMode x = 1 then bit v 0
  else if d.fcMode x = 2 then (List.range 8).any fun p => bit v p && bit (d.qmask x p) k
  else false

/-- Queue `k` is paused at physical port `x` by received pause, and no watchdog break covers it (R142, R146, R306). -/
def Device.rxPaused (d : Device) (x k : Nat) : Bool :=
  if x < 512 then
    let st := d.rd (Reg.MAC_FC_STATUS (tileOf x) (laneIn x))
    d.fcCovers x (bits st 31 24) k && !d.fcCovers x (bits st 15 8) k
  else false

/-- A watchdog break with ACTION 1 covers queue `k` at port `x` (R146). -/
def Device.wdDiscards (d : Device) (x k : Nat) : Bool :=
  decide (x < 512) && d.flag (Reg.MAC_WD_ACTION (tileOf x) (laneIn x))
    && d.fcCovers x (d.get (Reg.MAC_FC_STATUS_WD_BREAK (tileOf x) (laneIn x))) k

/-! ### Shapers -/

/-- Tokens of shaper `n` of port `l`, in 1/200,000 byte (R310). -/
def Device.tok (d : Device) (l n : Nat) : Int := mget (fun _ => 0) d.path.tok (21 * l + n)

/-- Store tokens, and what SHP_TOK shows of them (R323). -/
def Device.setTok (d : Device) (l n : Nat) (v : Int) : Device :=
  (d.onPath fun p => { p with tok := mset (fun _ => 0) p.tok (21 * l + n) v }).set (Reg.SHP_TOK_TOKENS l n)
    (unsigned 32 (v / 200000))

/-- A shaper is enabled. -/
def Device.shpEn (d : Device) (l n : Nat) : Bool := d.flag (Reg.SHP_RATE_EN l n)

/-- A shaper is open (R310). -/
def Device.shpOpen (d : Device) (l n : Nat) : Bool := !d.shpEn l n || decide (0 ≤ d.tok l n)

/-- The shapers on the path of queue `k` (R304, R322). -/
def shpPath (k : Nat) : List Nat := [0, 1 + k / 4, 5 + k]

/-- What a selection charges a shaper (R310). -/
def Device.shpCost (d : Device) (l n len : Nat) : Int :=
  max 1 ((len : Int) + signed 8 (d.get (Reg.SHP_BURST_OVERHEAD l n))) * 200000

/-- The enabled shapers that hold a register: (port, shaper). -/
def Device.shapers (d : Device) : List (Nat × Nat) :=
  ((mrange d.regs 0xE00000 0xE81000).filter fun e =>
    let o := (e.1 - 0xE00000) % 0x400
    decide (0x100 ≤ o) && decide (o < 0x1A8) && o % 8 == 0 && bit e.2.toNat 31).map fun e =>
      ((e.1 - 0xE00000) / 0x400, ((e.1 - 0xE00000) % 0x400 - 0x100) / 8)

/-- Every 5 ns each enabled shaper adds RATE up to BURST (R310); one newly enabled is filled (R319). -/
def Device.shaperTick (d : Device) : Device :=
  let d := d.each d.shapers fun d (l, n) =>
    let cap : Int := d.get (Reg.SHP_BURST_BURST l n) * 200000
    let fill := mget (fun _ => false) d.path.shpFill (21 * l + n)
    d.setTok l n (if fill then cap else min (d.tok l n + d.get (Reg.SHP_RATE_RATE l n)) cap)
  d.onPath fun p => { p with shpFill := [] }

/-! ### Bind-Off -/

/-- Time `a` is at or after `b`, modulo 4 s. -/
def tsGe (a b : Nat) : Bool := decide ((a + 4000000000 - b % 4000000000) % 4000000000 < 2000000000)

/-- G in ns (R384, R393): 0 acts as 1, and what BIND_GUARD held when the Bind-Off began is in force. -/
def Device.bindG (d : Device) : Nat := 100 * max 1 d.unit.bind.guard

/-- A release the standby has received for a queue. -/
def Device.bindRel (d : Device) (q : Nat) : Option Release := mget (fun _ => none) d.unit.bind.rel q

/-- Bind-Off lets the head of a queue be selected (R384); it holds none of ports 512 to 515. -/
def Device.bindOk (d : Device) (q : Nat) (h : Hdr) : Bool :=
  let b := d.unit.bind
  if 8192 ≤ q then true
  else if b.side = 1 then mget (fun _ => false) b.muted q || !tsGe (d.ingressNs h) b.cut
  else if b.side = 2 then (d.bindRel q).isSome || !tsGe (d.ingressNs h + d.bindG) b.cut
  else true

/-- A queue's frames are consumed under MUTE at port `x` (R36, R384). -/
def Device.mutedAt (d : Device) (x q : Nat) : Bool :=
  let b := d.unit.bind
  if 512 ≤ x then false
  else if b.side = 1 && mget (fun _ => false) b.muted q then true
  else if b.side = 2 && (d.bindRel q).isSome then false
  else d.unit.muted

/-- A queue released to this unit discards the frame at selection (R385). -/
def Device.bindJudge (d : Device) (q : Nat) (h : Hdr) (bs : List Byte) : Bool :=
  match d.bindRel q with
  | none => false
  | some r =>
    let ts := d.ingressNs h
    let g := d.bindG
    if !tsGe (ts + g) r.cutq then true
    else if !tsGe ts (r.cutq + g) then r.crcs.contains (crc32c bs) else false

/-! ### Eligibility (R306) -/

/-- Queue `k` of logical port `l` wants credit at physical port `x` (R335); muted, credit gates nothing (R369). -/
def Device.noCredit (d : Device) (x l k : Nat) : Bool :=
  decide (x < 512) && d.isJarlis x && !d.mutedAt x (qIdx l k) && decide (signed 16 (d.get (Reg.JFL_CRED_AVAIL x k)) ≤ 0)

/-- Queue `k` of logical port `l` is paused at physical port `x`: by received pause or for want of credit. -/
def Device.paused (d : Device) (x l k : Nat) : Bool := d.rxPaused x k || d.noCredit x l k

/-- The head of the queue meets the start condition of R33: its first four stitches have come, or all it has. -/
def Device.startable (d : Device) (e : EgrEntry) : Bool :=
  match d.depFrame e.tile e.id with
  | some f => f.dead || (List.range (min 4 f.total)).all f.arrived.contains
  | none => true

/-- All stitches of a frame have come. -/
def Device.allCome (d : Device) (e : EgrEntry) : Bool :=
  match d.depFrame e.tile e.id with | some f => f.dead || decide (f.total ≤ f.arrived.length) | none => true

/-- A frame of queue `q` in tile `t` has still to enter it. -/
def DepFrame.coming (f : DepFrame) (q : Nat) : Bool :=
  !f.mc && !f.dead && !f.arrived.contains 0 && qIdx f.frame.hdr.dest f.frame.hdr.queue == q

/-- The entry waits for an earlier frame of the same ingress port that has yet to enter its queue `q` (R37): one whose first stitch
is on its way from the Yoke or, for a copy that replication made, one of its kind read back from the deep store. -/
def Device.outrun (d : Device) (q : Nat) (e : EgrEntry) : Bool :=
  let first := fun (f : Frame) => f.rep == e.rep && f.hdr.src == e.hdr.src && decide (f.ord < e.ord)
  ((d.dep e.tile).any fun f => f.coming q && first f.frame)
    || (e.rep && ((d.voq (voqKey (e.tile / 4) q)).on.any fun f => f.rep && first f))

/-- The index of HQ_PUNT_MAP for a queue of port 512 or 515 (R500). -/
def puntIdx (l k : Nat) : Nat := if l = 512 then k else 16 + k

/-- The PUNT queue of a queue of port 512 or 515, if it is mapped to an enabled one. -/
def Device.puntTarget (d : Device) (l k : Nat) : Option Nat :=
  let j := puntIdx l k
  let q := d.get (Reg.HQ_PUNT_MAP_QUEUE j)
  if d.flag (Reg.HQ_PUNT_MAP_VALID j) && d.puntQueue q then some q else none

/-- The delivery path of an internal port can take a frame of the queue, or discards it (R315, R500, R542). Port 514 takes
a frame while fewer than 64 wait at the internal-port requester (DESIGN CHOICE: the spec gives no number). -/
def Device.deliverable (d : Device) (l k : Nat) : Bool :=
  if l = 512 ∨ l = 515 then
    match d.puntTarget l k with
    | none => true
    | some q => (d.freeBuf q).isSome || d.flag (Reg.HQ_PUNT_MAP_DROP_FULL (puntIdx l k))
  else if l = 513 then d.svcRoom || bit (d.get Reg.SVC_RX_CFG_DROP_FULL) k
  else if l = 514 then decide ((lget d.path.intReady 514).length < 64)
  else true

/-- Queue `k` of logical port `l` is eligible at physical port `x`. An internal port takes a frame in one piece, so once all its
stitches have come (DESIGN CHOICE). -/
def Device.queueEligible (d : Device) (x l k : Nat) : Bool :=
  match d.egr (qIdx l k) with
  | [] => false
  | e :: _ => d.startable e && (decide (l < 512) || d.allCome e) && !d.outrun (qIdx l k) e && !d.paused x l k && (shpPath k).all (d.shpOpen l)
      && d.bindOk (qIdx l k) e.hdr && d.deliverable l k

/-- The logical ports mapped to physical port `x`, in increasing order (R312). -/
def Device.mapped (d : Device) (x : Nat) : List Nat :=
  if x < 512 then ((List.range 32).map (32 * (x / 32) + ·)).filter fun l => (d.physOf l).contains x else [x]

/-- A physical port can accept the start of a frame (R307, R315). -/
def Device.canAccept (d : Device) (x : Nat) : Bool :=
  if x < 512 then d.portEn x && d.portUp x && (lget d.path.sel x).isEmpty
    && !(d.fcMode x == 1 && d.rxPaused x 0)
  else true

/-- Some queue of `l` is eligible at `x`. -/
def Device.anyEligible (d : Device) (x l : Nat) : Bool := (List.range 16).any (d.queueEligible x l)

/-- The member of a trunk that its pointer names (R338). -/
def Device.namedMember (d : Device) (t : Nat) : Option Nat :=
  let u := d.usable t
  match u.find? fun p => decide ((d.trunk t).ptr ≤ p % 32) with
  | some p => some p
  | none => u.head?

/-- A trunk's logical port is a candidate at member `x` (R338, R344). -/
def Device.trunkCandidate (d : Device) (x l : Nat) : Bool :=
  match d.trunkOf l with
  | none => true
  | some t =>
    ((d.trunk t).phase == 0 || (d.trunk t).phase == 3) &&
      match d.namedMember t with
      | none => false
      | some m => m == x || !(lget d.path.sel m).isEmpty || !d.anyEligible m l

/-- Logical port `l` is a candidate of R307 at `x`. -/
def Device.candidate (d : Device) (x l : Nat) : Bool := d.trunkCandidate x l && d.anyEligible x l

/-! ### DWRR (R308) -/

/-- The loop of R308 over four members: which member is in the set, eligible, holds a frame; its quantum and length. It
answers the member chosen, the set's pointer and flag, and the deficits. -/
def dwrrLoop (mem elig hold : Nat → Bool) (quantum len : Nat → Nat) :
    Nat → Dwrr → List Nat → Option Nat × Dwrr × List Nat
  | 0, s, df => (none, s, df)
  | fuel + 1, s, df =>
    let m := s.ptr % 4
    let next : Dwrr := { ptr := (m + 1) % 4, credited := false }
    if !mem m then dwrrLoop mem elig hold quantum len fuel next df
    else if elig m then
      let df := if s.credited then df else df.set m (df.getD m 0 + quantum m)
      if len m ≤ df.getD m 0 then
        (some m, { ptr := m, credited := true }, df.set m (df.getD m 0 - len m))
      else dwrrLoop mem elig hold quantum len fuel next df
    else dwrrLoop mem elig hold quantum len fuel next (if hold m then df else df.set m 0)

/-- LEN of the frame a queue would yield. -/
def Device.headLen (d : Device) (l k : Nat) : Nat := match d.egr (qIdx l k) with | [] => 0 | e :: _ => e.len

/-- Weight of queue `k` (R321). -/
def Device.qWeight (d : Device) (l k : Nat) : Nat :=
  max 1 (bits (d.rd (Reg.EGR_Q_WT l (k / 4))) (8 * (k % 4) + 6) (8 * (k % 4)))

/-- Weight of group `g` (R320). -/
def Device.gWeight (d : Device) (l g : Nat) : Nat := max 1 (bits (d.rd (Reg.EGR_GRP_WT l)) (8 * g + 6) (8 * g))

/-- A DWRR set of queues, by 4 × port + group. -/
def Device.setQ (d : Device) (k : Nat) : Dwrr := mget (fun _ => {}) d.path.setQ k

/-- A DWRR set of groups, by 4 × port + level. -/
def Device.setG (d : Device) (k : Nat) : Dwrr := mget (fun _ => {}) d.path.setG k

/-- The queue that `pick_queue` names, with the set and the deficits after it (R307). -/
def Device.pickQueue (d : Device) (x l g : Nat) : Option Nat × Dwrr × List Nat :=
  let df := (List.range 4).map fun i => nget d.path.defQ (16 * l + 4 * g + i)
  let s := d.setQ (4 * l + g)
  if bit (d.get (Reg.EGR_PORT_CFG_GMODE l)) g then
    dwrrLoop (fun _ => true) (fun i => d.queueEligible x l (4 * g + i))
      (fun i => !(d.egr (qIdx l (4 * g + i))).isEmpty) (fun i => 256 * d.qWeight l (4 * g + i))
      (fun i => d.headLen l (4 * g + i)) 1024 s df
  else (([3, 2, 1, 0].find? fun i => d.queueEligible x l (4 * g + i)), s, df)

/-- Level of group `g` (R320). -/
def Device.lvl (d : Device) (l g : Nat) : Nat := bits (d.get (Reg.EGR_PORT_CFG_LVL l)) (2 * g + 1) (2 * g)

/-- The eligible groups of a port. -/
def Device.groupsEligible (d : Device) (x l : Nat) : List Nat :=
  (List.range 4).filter fun g => (List.range 4).any fun i => d.queueEligible x l (4 * g + i)

/-- The highest level that a candidate offers. -/
def Device.topLevel (d : Device) (x l : Nat) : Nat := ((d.groupsEligible x l).map (d.lvl l)).foldl max 0

/-- The group that `pick_group` names, with the set and the deficits after it, and whether the set was used (R307). -/
def Device.pickGroup (d : Device) (x l top : Nat) : Option Nat × Dwrr × List Nat × Bool :=
  let df := (List.range 4).map fun g => nget d.path.defG (4 * l + g)
  let s := d.setG (4 * l + top)
  let el := (d.groupsEligible x l).filter fun g => d.lvl l g == top
  match el with
  | [g] => (some g, s, df, false)
  | _ =>
    let (r, s, df) := dwrrLoop (fun g => d.lvl l g == top) (fun g => el.contains g)
      (fun g => (List.range 4).any fun i => !(d.egr (qIdx l (4 * g + i))).isEmpty) (fun g => 256 * d.gWeight l g)
      (fun g => match (d.pickQueue x l g).1 with | some i => d.headLen l (4 * g + i) | none => 0) 1024 s df
    (r, s, df, true)

/-! ### Tension counts (R386) -/

/-- Count a frame sent or consumed at port `x` in its Tension interval; the key and how it was counted (0 GUARD, 1 LATE, 2
COUNT), for a selection that is undone. -/
def Device.tension (d : Device) (x : Nat) (e : EgrEntry) (muted : Bool) : Option (Nat × Nat) × Device :=
  let counts := (d.role == roleActive && !muted) || (d.role == roleStandby && muted)
  if d.tensionOn && counts && decide (x < 512) then
    let t := d.ingressNs e.hdr
    let n := intervalOf t
    let r := t % 1000000
    let k := tensKey x n
    let now := d.ingressNs { tsSec := tmSec d.ft % 4, tsNs := tmNs d.ft }
    let close := 1000000 * max 1 (bits (d.tensCfg n) 23 16)
    let past := (now + 4000000000 - (n + 1) * 1000000 % 4000000000) % 4000000000
    let kind := if min r (1000000 - r) < 10 * bits (d.tensCfg n) 31 24 then 0
      else if past < 2000000000 ∧ close < past then 1 else 2
    let crc := if kind = 2 then crc32c (d.entryBytes e) else 0
    (some (k, kind), d.onTens k fun r =>
      if kind = 0 then { r with guard := min 65535 (r.guard + 1) }
      else if kind = 1 then { r with late := min 65535 (r.late + 1) }
      else { r with count := r.count + 1, bytes := r.bytes + e.len, sum := (r.sum + crc) % 2 ^ 32 })
  else (none, d)

/-- Take back a Tension count. -/
def Device.tensionUndo (d : Device) (s : Selected) : Device :=
  match s.tens with
  | none => d
  | some (k, kind) =>
    let crc := if kind = 2 then crc32c (d.entryBytes s.entry) else 0
    d.onTens k fun r =>
      if kind = 0 then { r with guard := r.guard - 1 }
      else if kind = 1 then { r with late := r.late - 1 }
      else { r with count := r.count - 1, bytes := r.bytes - s.entry.len, sum := (r.sum + 2 ^ 32 - crc) % 2 ^ 32 }

/-! ### Delivery inside the device -/

/-- A frame known to hold an uncorrectable error before it starts is discarded, and nothing is sent (R33). -/
def Device.known (d : Device) (e : EgrEntry) : Bool :=
  match d.depFrame e.tile e.id with | some f => f.bad || f.dead | none => false

/-- A frame selected for port 513 goes into the service receive store (R542). -/
def Device.deliver513 (d : Device) (e : EgrEntry) : Device :=
  let f := d.entryFrame e
  let bs := d.entryBytes e
  let d := (d.svcPut (d.puntHeader f bs.length bs.length ++ bs)).inc (Reg.SVC_STAT_COUNT 3)
  (d.releaseEntry e).inc (Reg.EGR_STAT_COUNT 0)

/-- A frame sent to port 514 re-enters as a new frame (R40). -/
def Device.deliver514 (d : Device) (e : EgrEntry) : Device :=
  let bs := d.entryBytes e
  let (id, d) := d.freshId
  let f : Frame := { id := id, bytes := bs, src := 514, arrival := d.us }
  ((d.onPath fun p => { p with intReady := lpush p.intReady 514 f }).releaseEntry e).inc (Reg.EGR_STAT_COUNT 0)

/-- Discard reason, slice and port of a chosen frame (R316, R385, R500, R542), if it is to be discarded. -/
def Device.selCheck (d : Device) (x l k : Nat) (e : EgrEntry) : Option (Nat × Nat × Nat) :=
  let q := qIdx l k
  if d.stale l e then some (22, sliceOf e.hdr.src, l)
  else if d.aged q e.hdr e.arrival then some (23, sliceOf e.hdr.src, l)
  else if d.wdDiscards x k then some (25, sliceOf x, x)
  else if decide (x < 512) && d.bindJudge q e.hdr (d.entryBytes e) then some (27, sliceOf x, x)
  else if (l = 512 ∨ l = 515) ∧ ((d.puntTarget l k).bind d.freeBuf).isNone then some (34, sliceOf e.hdr.src, l)
  else if l = 513 ∧ !d.svcRoom then some (36, sliceOf e.hdr.src, l)
  else none

/-- The sequence number and epoch of a trunk's frame: those it carries, or the next ones (R339). -/
def Device.takeSeq (d : Device) (l : Nat) (e : EgrEntry) : EgrEntry × Device :=
  match d.trunkOf l, e.seq with
  | some t, none =>
    let k := 16 * t + e.hdr.queue
    let n := nget d.jarlis.txseq k
    ({ e with seq := some (t, n, d.get (Reg.JFL_TRUNK_STATUS_TX_EPOCH t)) },
      d.onJfl fun j => { j with txseq := nset j.txseq k ((n + 1) % 2 ^ 24) })
  | _, _ => (e, d)

/-- A selection at `x` chose queue `k` of group `g` of port `l`: the rotation, the DWRR sets and the deficits after it (R307, R308).
It answers which deficits paid for the frame: those of a group and of a queue, by their keys. -/
def Device.picked (d : Device) (x l g k top : Nat) : Option Nat × Option Nat × Device :=
  let (_, sg, dg, usedG) := d.pickGroup x l top
  let (_, sq, dq) := d.pickQueue x l g
  let usedQ := bit (d.get (Reg.EGR_PORT_CFG_GMODE l)) g
  (if usedG then some (4 * l + g) else none, if usedQ then some (16 * l + k) else none,
    d.onPath fun p => { p with
      rr := nset p.rr x (l + 1),
      setG := if usedG then mset (fun _ => {}) p.setG (4 * l + top) sg else p.setG,
      defG := if usedG then (List.range 4).foldl (fun m i => nset m (4 * l + i) (dg.getD i 0)) p.defG else p.defG,
      setQ := if usedQ then mset (fun _ => {}) p.setQ (4 * l + g) sq else p.setQ,
      defQ := if usedQ then (List.range 4).foldl (fun m i => nset m (16 * l + 4 * g + i) (dq.getD i 0)) p.defQ
        else p.defQ })

/-- Deficits go back to a group and a queue (R314, R316). -/
def Device.refund (d : Device) (grp que : Option Nat) (n : Nat) : Device :=
  d.onPath fun p => { p with
    defG := match grp with | some i => nset p.defG i (nget p.defG i + n) | none => p.defG,
    defQ := match que with | some i => nset p.defQ i (nget p.defQ i + n) | none => p.defQ }

/-- The egress MAC of a muted port consumes a frame without sending it (R36): counted under MUTE. -/
def Device.muteSink (d : Device) (x : Nat) (e : EgrEntry) : Device :=
  let d := d.when (e.hdr.ptp == 3) fun d => d.returnStamp (d.entryFrame e) (stampBytes 0 0 x false false true)
  ((d.countDrop (d.entryFrame e) (sliceOf x) x 27).releaseEntry e).inc (Reg.EGR_STAT_COUNT 0)

/-- Credit blocks go back (R314, R369). -/
def Device.creditBack (d : Device) (x k n : Nat) : Device :=
  d.when (n != 0) fun d =>
    d.set (Reg.JFL_CRED_AVAIL x k) (unsigned 16 (signed 16 (d.get (Reg.JFL_CRED_AVAIL x k)) + n))

/-- Everything a successful selection does (R307, R310, R335, R338, R339). -/
def Device.commitSelect (d : Device) (x l g k top : Nat) (e : EgrEntry) : Device :=
  let q := qIdx l k
  let (grp, que, d) := d.picked x l g k top
  let costs := ((shpPath k).filter (d.shpEn l)).map fun n => (n, d.shpCost l n e.len)
  let d := d.each costs fun d c => d.setTok l c.1 (d.tok l c.1 - c.2)
  let blocks := if d.isJarlis x && !d.mutedAt x q then (e.len + 255) / 256 else 0
  let d := d.when (blocks != 0) fun d =>
    d.set (Reg.JFL_CRED_AVAIL x k) (unsigned 16 (signed 16 (d.get (Reg.JFL_CRED_AVAIL x k)) - blocks))
  let d := d.onEgr q fun es => es.drop 1
  let (e, d) := d.takeSeq l e
  let d := match d.trunkOf l with | some t => d.onTrunk t fun r => { r with ptr := x % 32 + 1 } | none => d
  let muted := d.mutedAt x q
  let (tens, d) := d.tension x e muted
  let s : Selected := { entry := e, q := q, shapers := costs.map fun c => (21 * l + c.1, c.2),
                        grp := grp.map fun i => (i, e.len), que := que.map fun i => (i, e.len), credit := blocks, tens := tens }
  if muted then d.muteSink x e
  else if decide (512 ≤ x) && d.known e then (d.countDrop (d.entryFrame e) (sliceOf x) x 24).releaseEntry e
  else if x = 513 then d.deliver513 e
  else if x = 514 then d.deliver514 e
  else if x = 512 ∨ x = 515 then
    match d.puntTarget l k with
    | none => d
    | some pq => match d.freeBuf pq with
      | none => d
      | some b => (d.claimBuf pq b.op.id).onHost fun h => { h with punt := h.punt ++ [⟨x, s, pq, b.op.id⟩] }
  else d.onPath fun p => { p with sel := lpush p.sel x s }

/-- The selection of R307 at `x`; a chosen frame that fails a check is discarded and the scheduler selects again. -/
def selectLoop (x : Nat) : Nat → Device → Device
  | 0, d => d
  | fuel + 1, d =>
    let c := (d.mapped x).filter (d.candidate x)
    let top := (c.map (d.topLevel x)).foldl max 0
    let c := c.filter fun l => d.topLevel x l == top
    let rr := nget d.path.rr x
    match (c.find? fun l => decide (rr ≤ l)).or c.head? with
    | none => d
    | some l =>
      match (d.pickGroup x l top).1 with
      | none => d
      | some g =>
        match (d.pickQueue x l g).1 with
        | none => d
        | some i =>
          let k := 4 * g + i
          match d.egr (qIdx l k) with
          | [] => d
          | e :: _ =>
            match d.selCheck x l k e with
            | some (reason, slice, port) =>
              let (grp, que, d) := d.picked x l g k top
              selectLoop x fuel ((d.refund grp que e.len).selDiscard (qIdx l k) e slice port reason)
            | none => d.commitSelect x l g k top e

/-- Physical port `x` requests a selection (R307): the discards of R31 and R365 of the logical ports at it first. -/
def Device.select (d : Device) (x : Nat) : Device :=
  let d := d.each (x :: d.mapped x) fun d l => d.purge l
  if d.canAccept x then
    let n := ((d.mapped x).flatMap fun l => (List.range 16).map fun k => (d.egr (qIdx l k)).length).sum
    selectLoop x (n + 1) d
  else d

/-! ### Undoing a selection (R314) -/

/-- Return a selected frame to the head of its queue and refund what it took. -/
def Device.giveBack (d : Device) (x : Nat) (s : Selected) : Device :=
  let d := d.tensionUndo s
  let d := d.each s.shapers fun d c => d.setTok (c.1 / 21) (c.1 % 21) (d.tok (c.1 / 21) (c.1 % 21) + c.2)
  let d := (d.refund (s.grp.map (·.1)) (s.que.map (·.1)) s.entry.len).creditBack x (s.q % 16) s.credit
  d.onEgr s.q fun es => s.entry :: es

/-- Return a selected frame whose port went down or whose mapping moved: it counts in UNDONE (R314). -/
def Device.undoOne (d : Device) (x : Nat) (s : Selected) : Device := (d.giveBack x s).inc (Reg.EGR_STAT_COUNT 1)

/-- Return every frame selected for `x` and not started. -/
def Device.undoSelected (d : Device) (x : Nat) : Device :=
  let l := lget d.path.sel x
  let d := d.onPath fun p => { p with sel := lset p.sel x [] }
  d.each l.reverse fun d s => d.undoOne x s

/-- A member that leaves a trunk by configuration still sends the frames selected for it (R344, step 2). -/
def Device.keepsSelected (d : Device) (x l : Nat) : Bool :=
  match d.trunkOf l with
  | some t => (d.trunk t).phase != 0 && d.portUp x && bit (d.trunk t).oldSet (x % 32)
  | none => false

/-- Frames selected for ports that their logical port is no longer mapped to are returned (R314). -/
def Device.undoMoved (d : Device) : Device :=
  d.each d.path.sel fun d e =>
    if e.2.any fun s => !(d.physOf (s.q / 16)).contains e.1 && !d.keepsSelected e.1 (s.q / 16) then
      d.undoSelected e.1 else d

/-! ### Transmission -/

/-- The frame in transmission at `x`. -/
def Device.txOf (d : Device) (x : Nat) : Option TxFrame := mget (fun _ => none) d.path.tx x

/-- Store the frame in transmission. -/
def Device.setTx (d : Device) (x : Nat) (t : Option TxFrame) : Device :=
  d.onPath fun p => { p with tx := mset (fun _ => none) p.tx x t }

/-- The insertions of R34 into a frame that starts at `x`: its bytes, and the effects of the time action. -/
def Device.insertions (d : Device) (x : Nat) (e : EgrEntry) : List Byte × Device :=
  let f := d.entryFrame e
  let bs := d.entryBytes e
  let bs := match e.seq with | some (_, seq, epoch) => trunkFields bs seq epoch | none => bs
  if e.hdr.ptp = 1 ∨ e.hdr.ptp = 2 then d.ptpInsert x f bs (d.isJarlis x)
  else if e.hdr.ptp = 3 then
    let t := (d.tod + d.stampAdj x true).toNat
    (bs, (d.returnStamp f (stampBytes t (tmFrac t) x true false false)).inc (Reg.TIM_STAT_COUNT 2))
  else (bs, d)

/-- During Bind-Off the active notes the time-stamp and the CRC of every frame a queue sends (R384). -/
def Device.bindSent (d : Device) (s : Selected) : Device :=
  if d.unit.bind.side = 1 then
    let a := (d.ingressNs s.entry.hdr, crc32c (d.entryBytes s.entry))
    d.onUnit fun u => { u with bind := { u.bind with sent := lpush u.bind.sent s.q a } }
  else d

/-- Every frame selected for `x` whose queue is paused goes back to it, in order (R142). -/
def Device.pausedBack (d : Device) (x : Nat) : Device :=
  let l := lget d.path.sel x
  let off := fun (s : Selected) => d.rxPaused x (s.q % 16)
  (d.onPath fun p => { p with sel := lset p.sel x (l.filter fun s => !off s) }).each (l.filter off).reverse fun d s => d.giveBack x s

/-- The egress MAC starts the selected frame (R33). One whose queue has been paused since goes back to its queue (R142), one whose
port has been muted since is consumed, with its credit returned (R36, R369). -/
def Device.txStart (d : Device) (x : Nat) : Device :=
  match d.txOf x, lget d.path.sel x with
  | none, s :: rest =>
    if d.startable s.entry then
      let d := d.onPath fun p => { p with sel := lset p.sel x rest }
      let e := s.entry
      if d.unit.muted && d.mutedAt x s.q then (d.creditBack x (s.q % 16) s.credit).muteSink x e
      else if d.rxPaused x (s.q % 16) then (d.onPath fun p => { p with sel := lset p.sel x (s :: rest) }).pausedBack x
      else match d.depFrame e.tile e.id with
      | none => d.releaseEntry e
      | some f =>
        if f.dead then d.releaseEntry e
        else if f.bad then (d.countDrop (d.entryFrame e) (sliceOf x) x 24).releaseEntry e
        else
          let (bs, d) := d.insertions x e
          ((d.bindSent s).setTx x (some ⟨e, bs, false⟩)).inc (Reg.EGR_STAT_COUNT 0)
    else d
  | _, _ => d

/-- The place of an ordered set among those due at once (R333): LINK_DOWN, LANE_WIDTH, LANE_READY, CREDIT, IDENT_A, IDENT_B. -/
def osRank (type : Nat) : Nat := [9, 3, 1, 2, 0, 4, 5].getD type 9

/-- Ordered sets that wait take one more, by rank and then by age. -/
def osInsert (a : Nat × Nat) : List (Nat × Nat) → List (Nat × Nat)
  | [] => [a]
  | b :: l => if osRank a.1 < osRank b.1 then a :: b :: l else b :: osInsert a l

/-- Send an ordered set (R333): it goes between frames, so it waits while the port's MAC sends one. -/
def Device.sendOs (d : Device) (p type payload : Nat) : Device :=
  if (d.txOf p).isSome then d.updPort p fun x => { x with osDue := osInsert (type, payload) x.osDue }
  else d.emit (osOut p type payload)

/-- The ordered sets that waited for the end of a frame are sent in their order. -/
def Device.osFlush (d : Device) (p : Nat) : Device :=
  (d.each (d.port p).osDue fun d a => d.emit (osOut p a.1 a.2)).updPort p fun x => { x with osDue := [] }

/-- The MAC finishes the frame in transmission (R33, R147). -/
def Device.txEnd (d : Device) (x : Nat) : Device :=
  match d.txOf x with
  | none => d
  | some t =>
    let d := d.setTx x none
    let f := d.depFrame t.entry.tile t.entry.id
    let dead := match f with | some f => f.dead | none => false
    let short := match f with | some f => f.bad || decide (f.arrived.length < f.total) | none => false
    let d := d.emit (.frame x t.bytes (!(dead || short)) false)
    let d := d.when (d.isJarlis x) fun d => d.updPort x fun p => { p with windowBits := p.windowBits + 8 * (t.bytes.length + 4) }
    let d := if dead || short then
        let d := d.when (!dead) fun d => d.countDrop (d.entryFrame t.entry) (sliceOf x) x 24
        d.macStat x 35
      else
        let da := beNat (slice t.bytes (if d.isJarlis x then 16 else 0) 6)
        (((d.macStat x 27 (t.bytes.length + 4)).macStat x 28).macStat x (29 + castOf da)).pmc 3 x
    (d.osFlush x).releaseEntry t.entry

/-- Link-down cuts the frame in transmission short (R147). -/
def Device.txAbort (d : Device) (x : Nat) : Device :=
  match d.txOf x with
  | none => d
  | some t =>
    let d := (d.setTx x none).emit (.frame x t.bytes false true)
    ((d.macStat x 34).countDrop (d.entryFrame t.entry) (sliceOf x) x 26).releaseEntry t.entry

/-! ### Meanings -/

/-- SHAPER_TICK (R310). -/
def execShaperTick (s : State) : Host.Outcome State Fault Refusal := s.run (·.shaperTick)

/-- SELECT (R307). -/
def execSelect (x : Fin 516) (s : State) : Host.Outcome State Fault Refusal := s.run (·.select x.val)

/-- TX_FRAME_START (R33). -/
def execTxFrameStart (x : Fin 512) (s : State) : Host.Outcome State Fault Refusal := s.run (·.txStart x.val)

/-- TX_FRAME_END (R147). -/
def execTxFrameEnd (x : Fin 512) (s : State) : Host.Outcome State Fault Refusal := s.run (·.txEnd x.val)

end Sys2Proof.Machine
end

