-- ==== Sys2Proof/Machine/Yoke.lean ====
section
/-!
DEFINITION. The Yoke crossbar and the replication of multicast frames (R273 to R288), with the meanings of their commands.
-/
namespace Sys2Proof.Machine

/-! ### Queues toward an output (R274, R276, R279) -/

/-- The tile that a port's frames cross to. -/
def egrTile (p : Nat) : Nat := if p < 512 then tileOf p else 0

/-- The place of queue `q` of R249 in the rotation toward its tile (R279). -/
def rotPos (q : Nat) : Nat := if q < 8192 then q % 128 else 128 + (q - 8192)

/-- Slots that departure frames of a kind hold or reserve in a tile. -/
def Device.depSlots (d : Device) (t : Nat) (f : DepFrame → Bool) : Nat := (((d.dep t).filter f).map (·.total)).sum

/-- The unreserved free slots of a tile (R276). -/
def Device.depFree (d : Device) (t : Nat) : Nat := 1024 - d.depSlots t fun _ => true

/-- Queue (port, queue) is open (R276). -/
def Device.queueOpen (d : Device) (q : Nat) : Bool :=
  decide (d.depSlots (egrTile (q / 16)) (fun f => !f.mc && qIdx f.frame.hdr.dest f.frame.hdr.queue == q)
    < max 1 (d.get Reg.XBR_DEP_CFG_DEP_Q))

/-- Multicast queue (tile, k) is open (R276). -/
def Device.mcOpen (d : Device) (t k : Nat) : Bool :=
  decide (d.depSlots t (fun f => f.mc && f.frame.hdr.queue == k) < max 1 (d.get Reg.XBR_DEP_CFG_DEP_MC))

/-- A start that an input could make: input, output, place in the rotation, key of its queue, multicast, and the frame. -/
structure Start where
  u : Nat
  o : Nat
  pos : Nat
  key : Nat
  mc : Bool
  frame : Frame
  deriving DecidableEq, Repr

/-- The open queues that hold a frame (R277). -/
def Device.starts (d : Device) : List Start :=
  (d.path.voq.filterMap fun e =>
    let q := e.1 % 8256
    let o := egrTile (q / 16)
    match e.2.on with
    | f :: _ => if d.queueOpen q then some ⟨4 * (e.1 / 8256) + o % 4, o, rotPos q, e.1, false, f⟩ else none
    | [] => none)
  ++ d.path.mcq.filterMap fun e =>
    let o := e.1 % 1024 / 16
    match e.2 with
    | f :: _ => if d.mcOpen o (e.1 % 16) then some ⟨4 * (e.1 / 1024) + o % 4, o, 192 + e.1 % 16, e.1, true, f⟩ else none
    | [] => none

/-- The element that comes first at or after `p` in a rotation of `n`. -/
def firstAfter {α : Type} (n p : Nat) (key : α → Nat) (l : List α) : Option α :=
  l.foldl (fun b a => match b with
    | none => some a
    | some b => if (key a + n - p) % n < (key b + n - p) % n then some a else some b) none

/-- A request of input `u` for output `o` (R277): a continuation, or a start with its stitch count. -/
structure Req where
  u : Nat
  o : Nat
  cont : Bool
  count : Nat
  start : Option Start
  deriving DecidableEq, Repr

/-- Stitches a frame carries across the Yoke. -/
def Frame.cells (f : Frame) : Nat := max 1 f.stitches.length

/-- A frame in progress from input `u` to output `o`. -/
def Device.crossing (d : Device) (u o : Nat) : Option Crossing := mget (fun _ => none) d.path.prog (64 * u + o)

/-- The requests of a plane (R277). -/
def Device.requests (d : Device) : List Req :=
  let st := d.starts
  (d.path.prog.filterMap fun e => e.2.map fun _ => ⟨e.1 / 64, e.1 % 64, true, 0, none⟩)
  ++ ((st.map fun s => 64 * s.u + s.o).eraseDups.filterMap fun k =>
    if (d.crossing (k / 64) (k % 64)).isSome then none
    else (firstAfter 208 (nget d.path.sptr k) (·.pos) (st.filter fun s => 64 * s.u + s.o == k)).map fun s =>
      ⟨s.u, s.o, false, s.frame.cells, some s⟩)

/-! ### Matching (R278) -/

/-- The grant of an output among requests. -/
def Device.grant (d : Device) (plane o : Nat) (rs : List Req) : Option Req :=
  let g := nget d.path.gptr (64 * plane + o)
  match firstAfter 64 g (·.u) (rs.filter (·.cont)) with
  | some r => some r
  | none => firstAfter 64 g (·.u) (rs.filter fun r => decide (r.count ≤ d.depFree o))

/-- The acceptance of an input among grants. -/
def Device.acceptGrant (d : Device) (plane u : Nat) (gs : List Req) : Option Req :=
  let a := nget d.path.aptr (64 * plane + u)
  match firstAfter 64 a (·.o) (gs.filter (·.cont)) with
  | some r => some r
  | none => firstAfter 64 a (·.o) gs

/-- One iteration: the new matches, the device with pointers and counters. -/
def Device.iterate (d : Device) (plane i : Nat) (reqs ms : List Req) : List Req × Device :=
  let open_ := reqs.filter fun r => !ms.any fun m => m.u == r.u || m.o == r.o
  let gs := (open_.map (·.o)).eraseDups.filterMap fun o => d.grant plane o (open_.filter fun r => r.o == o)
  let acc := (gs.map (·.u)).eraseDups.filterMap fun u => d.acceptGrant plane u (gs.filter fun r => r.u == u)
  let d := d.inc (Reg.XBR_STAT_COUNT 4) (gs.length - acc.length)
  let d := d.inc (Reg.XBR_STAT_COUNT i) acc.length
  let d := if i = 1 then d.each acc fun d r => d.onPath fun p => { p with
      gptr := nset p.gptr (64 * plane + r.o) ((r.u + 1) % 64),
      aptr := nset p.aptr (64 * plane + r.u) ((r.o + 1) % 64) } else d
  (ms ++ acc, d)

/-! ### Transfer (R279) -/

/-- The next stitch of a crossing leaves its input: its reference goes, and it is in transit on the plane. -/
def Device.sendStitch (d : Device) (plane u o : Nat) (c : Crossing) : Device :=
  let d := match c.frame.stitches[c.sent]? with | some i => d.freeStitch i | none => d
  let next : Option Crossing := if c.sent + 1 < c.frame.cells then some { c with sent := c.sent + 1 } else none
  (d.onPath fun p => { p with
    transit := lpush p.transit (4 * o + plane) ⟨c.frame, c.sent, c.mc⟩,
    prog := mset (fun _ => none) p.prog (64 * u + o) next }).inc (Reg.XBR_STAT_COUNT 0)

/-- A matched start: the frame leaves its queue, its slots are reserved, and its first stitch is sent. -/
def Device.startFrame (d : Device) (plane : Nat) (s : Start) : Device :=
  let d := if s.mc then d.onPath fun p => { p with mcq := lset p.mcq s.key ((lget p.mcq s.key).drop 1) }
    else d.onVoq s.key fun v => { v with on := v.on.drop 1 }
  let df : DepFrame := { frame := s.frame, mc := s.mc, total := s.frame.cells, refs := if s.mc then 0 else 1 }
  let d := d.onPath fun p => { p with dep := lpush p.dep s.o df,
                                      sptr := nset p.sptr (64 * s.u + s.o) ((s.pos + 1) % 208) }
  d.sendStitch plane s.u s.o ⟨s.frame, 0, s.mc⟩

/-- What a match does. -/
def Device.transfer (d : Device) (plane : Nat) (r : Req) : Device :=
  match r.start with
  | some s => d.startFrame plane s
  | none => match d.crossing r.u r.o with
    | some c => d.sendStitch plane r.u r.o c
    | none => d

/-- One cell time of a plane (R275 to R279). -/
def Device.yokeCell (d : Device) (plane : Nat) : Device :=
  let reqs := d.requests
  let held := reqs.filter fun r => !r.cont && decide (d.depFree r.o < r.count)
  let d := d.each held fun d r => (d.inc (Reg.XBR_STAT_COUNT 5)).pmc 9 r.o
  let n := if d.get Reg.XBR_CFG_ITER = 0 then 3 else d.get Reg.XBR_CFG_ITER
  let (ms, d) := (List.range n).foldl (fun (md : List Req × Device) i => md.2.iterate plane (i + 1) reqs md.1) ([], d)
  d.each ms fun d r => d.transfer plane r

/-! ### The multicast account -/

/-- The in-flight count of (group, version) (R284, R285). -/
def Device.groupInflight (d : Device) (g v : Nat) : Nat := nget d.path.inflight (2 * g + v)

/-- Change the in-flight count of a frame's (group, GVER). -/
def Device.groupFlight (d : Device) (f : Frame) (add : Bool) : Device :=
  let k := 2 * f.hdr.dest + f.hdr.gver
  d.onPath fun p => { p with inflight := nset p.inflight k (if add then nget p.inflight k + 1 else nget p.inflight k - 1) }

/-- A tile copy of a frame is done with; after the last, the account releases the frame (R286, R287). -/
def Device.mcTileDone (d : Device) (f : Frame) : Device :=
  let left := nget d.path.mcLeft f.id - 1
  let d := d.onPath fun p => { p with mcLeft := nset p.mcLeft f.id left }
  if left = 0 then (d.groupFlight f false).credit f.charge f.n else d

/-! ### Arrival (R28, R30, R281) -/

/-- The entries of a departure frame in egress queues, with their queue. -/
def Device.entriesOf (d : Device) (t id : Nat) : List (Nat × EgrEntry) :=
  d.path.egr.flatMap fun e => (e.2.filter fun x => x.tile == t && x.id == id).map fun x => (e.1, x)

/-- The ports of its copies that are selected, in transmission or in delivery. -/
def Device.takenPorts (d : Device) (t id : Nat) : List Nat :=
  let mine := fun (e : EgrEntry) => e.tile == t && e.id == id
  (d.path.sel.flatMap fun e => (e.2.filter fun s => mine s.entry).map fun s => s.q / 16)
  ++ (d.path.tx.filterMap fun e => match e.2 with
      | some x => if mine x.entry then some e.1 else none
      | none => none)
  ++ ((d.host.punt.filter fun r => mine r.sel.entry).map fun r => r.port)

/-- A departure frame is discarded with its queued copies; copies already taken for sending are counted, and end with an
inverted FCS. A tile copy not yet expanded has no egress port: it is counted for the lowest port of its tile (DESIGN
CHOICE). -/
def Device.depDiscard (d : Device) (t : Nat) (f : DepFrame) (reason : Nat) : Device :=
  let id := f.frame.id
  let es := d.entriesOf t id
  let tp := d.takenPorts t id
  let waiting := if f.mc then !f.expanded else !f.arrived.contains 0
  let count := fun (d : Device) (fr : Frame) (port : Nat) => d.countDrop fr (sliceOf port) port reason
  let d := d.onDep t id fun x => { x with dead := true }
  let d := d.each tp fun d p => count d f.frame p
  let d := d.each es fun d x =>
    let d := count d (d.entryFrame x.2) (x.1 / 16)
    (d.onEgr x.1 fun l => l.erase x.2).releaseEntry x.2
  if waiting then
    let d := count d f.frame (if f.mc then 8 * t else f.frame.hdr.dest)
    if f.mc then (d.onDep t id fun x => { x with expanded := true }).mcTileDone f.frame
    else
      let c := chargeOf f.frame.hdr f.frame.control f.frame.charge f.frame.n
      d.onDep t id fun x => { x with refs := 0, out := x.out ++ [c] }
  else d

/-- The entry of a unicast frame or mirror copy. -/
def unicastEntry (t : Nat) (f : Frame) : EgrEntry :=
  { tile := t, id := f.id, hdr := f.hdr, len := f.hdr.len, n := f.n, charge := f.charge, arrival := f.arrival,
    ord := f.ord, rep := f.rep }

/-- An entry joins a queue: before the later frames of its ingress port that came first (R37), else at the end. -/
def joinQueue (e : EgrEntry) (l : List EgrEntry) : List EgrEntry :=
  let before := l.takeWhile fun x => !(x.rep == e.rep && x.hdr.src == e.hdr.src && decide (e.ord < x.ord))
  before ++ e :: l.drop before.length

/-- A unicast frame whose first stitch has come enters its egress queue, or is discarded for a stale epoch. -/
def Device.enterQueue (d : Device) (t : Nat) (f : Frame) : Device :=
  let e := unicastEntry t f
  if d.stale f.hdr.dest e then
    (d.countDrop f (sliceOf f.src) f.hdr.dest 22).releaseEntry e
  else d.onEgr (qIdx f.hdr.dest f.hdr.queue) (joinQueue e)

/-- The header of a stitch, 16 bytes (R27): stitch `idx` of `total`. -/
def Hdr.stitch (h : Hdr) (idx total : Nat) : List Byte :=
  let kind := if total ≤ 1 then 3 else if idx = 0 then 0 else if idx + 1 = total then 2 else 1
  let body := leBytes 4 (kind * 2 ^ 30 + h.len % 2 ^ 14 * 2 ^ 16 + h.src % 2 ^ 10 * 2 ^ 6 + h.tc % 16 * 4 + h.colour % 4)
    ++ leBytes 4 (h.dtype % 4 * 2 ^ 30 + h.dest % 2 ^ 16 * 2 ^ 14 + h.queue % 16 * 2 ^ 10 + h.epoch % 256 * 4 + h.ptp % 4)
    ++ leBytes 4 (h.tsSec % 4 * 2 ^ 30 + h.tsNs % 2 ^ 30)
    ++ leBytes 2 (h.mirSession % 16 * 2 ^ 12 + b2n h.mirEn * 2 ^ 11 + h.gver % 2 * 2 ^ 10 + idx % 128 * 2)
  body ++ leBytes 2 (crc16 body)

/-- The check of a stitch header at the egress tile (R28): HCHK, and no reserved DTYPE. -/
def headerOk (bs : List Byte) : Bool := crc16 (bs.take 14) == leNat (slice bs 14 2) && decide (byteAt bs 7 / 64 < 2)

/-- A stitch arrives at tile `t` from a plane. `err` holds the bits of its header that were flipped on the way; the outcomes of
the other checks are operands of the command. -/
def Device.stitchArrive (d : Device) (t plane : Nat) (err : Nat) (parityOk eccOk : Bool) : Device :=
  match lget d.path.transit (4 * t + plane) with
  | [] => d
  | x :: rest =>
    let d := d.onPath fun p => { p with transit := lset p.transit (4 * t + plane) rest }
    let d := d.pmc 8 t
    let d := d.when (!eccOk) fun d =>
      match x.frame.stitches[x.idx]? with | some i => d.stitchError i | none => d
    let id := x.frame.id
    let d := d.when (!parityOk) fun d =>
      let d := ((d.put Reg.XBR_STATUS_PARITY true).set Reg.XBR_STATUS_PLANE plane).set Reg.XBR_STATUS_OUTPUT t
      (d.inc (Reg.XBR_STAT_COUNT 6)).critical 3 plane
    match d.depFrame t id with
    | none => d
    | some f =>
      let hchkOk := headerOk (leBytes 16 (leNat (x.frame.hdr.stitch x.idx f.total) ^^^ err))
      let d := if f.dead then d
        else if !hchkOk then d.depDiscard t f 21
        else if !parityOk then d.depDiscard t f 24
        else d.onDep t id fun f => { f with bad := f.bad || !eccOk }
      let d := d.onDep t id fun f => { f with arrived := f.arrived ++ [x.idx] }
      let live := match d.depFrame t id with | some f => !f.dead | none => false
      let d := if live && x.idx == 0 && !x.mc then d.enterQueue t x.frame else d
      d.depCleanup t id

/-! ### Replication (R282 to R287) -/

/-- A copy admitted to the deep store enters write staging as a frame of its own, with its edits made (R286, R258). -/
def Device.deepCopy (d : Device) (t : Nat) (f : Frame) (e : EgrEntry) (c : Charge) : Device :=
  let bs := d.copyBytes f e
  let (st, d) := d.takeStitches e.n
  let (id, d) := d.freshId
  let g := { f with id := id, bytes := bs, stitches := st, hdr := e.hdr, charge := c, n := e.n, isCopy := true, rep := true }
  d.enqueue (t / 4) g true

/-- One copy of a tile copy, for member record `r` (R286). -/
def Device.expandOne (d : Device) (t : Nat) (f : Frame) (r : Nat) : Device :=
  let port := bits r 29 20
  let op := bits r 18 17
  let toJ := d.jarlisPort port
  let s := t / 4
  let len := copyLen f.hdr.len op f.parse.jarlis.isSome toJ
  let q := qIdx port f.hdr.queue
  let h := { f.hdr with dtype := 0, dest := port, epoch := d.epoch port, len := len }
  let g := { f with hdr := h }
  if bit r 19 && port == f.src then d.inc (Reg.REP_STATS_COUNT s 2)
  else if f.hops0 && toJ then d.countDrop g (sliceOf f.src) f.src 32
  else if 16383 < len then d.countDrop g s port 20
  else
    let n := stitchCount len
    let (a, d) := d.admitQ q n f.hdr.colour f.control
    match a with
    | .refused _ => d.countDrop g s port 20
    | .onDie c =>
      let (ord, d) := d.freshId
      let e : EgrEntry := { tile := t, id := f.id, hdr := h, vidOp := op, vid := bits r 16 5, jarlis := toJ, len := len,
                            n := n, charge := c, arrival := f.arrival, ord := ord, rep := true }
      let d := (d.onDep t f.id fun x => { x with refs := x.refs + 1 }).onEgr q fun l => l ++ [e]
      (d.when (!f.control) fun d => d.heldAdd f.hdr.src f.hdr.queue n true).inc (Reg.REP_STATS_COUNT s 1)
    | .deep c =>
      let e : EgrEntry := { tile := t, id := f.id, hdr := h, vidOp := op, vid := bits r 16 5, jarlis := toJ, len := len,
                            n := n, charge := c, arrival := f.arrival }
      let d := d.deepCopy t f e c
      (d.when (!f.control) fun d => d.heldAdd f.hdr.src f.hdr.queue n true).inc (Reg.REP_STATS_COUNT s 1)

/-- The oldest tile copy of a tile whose expansion is not complete and whose first stitch has come. -/
def Device.expandable (d : Device) (t : Nat) : Option DepFrame :=
  (d.dep t).find? fun f => f.mc && !f.expanded && !f.dead && f.arrived.contains 0

/-- Expand one record of a tile copy; after the last, the tile copy is done (R286). -/
def Device.mcExpand (d : Device) (t : Nat) : Device :=
  match d.expandable t with
  | none => d
  | some x =>
    let f := x.frame
    let (first, count) := d.groupList t f.hdr.dest f.hdr.gver
    let d := if x.recIdx < count then d.expandOne t f (d.member t (first + x.recIdx)) else d
    if count ≤ x.recIdx + 1 then
      (((d.onDep t f.id fun y => { y with recIdx := y.recIdx + 1, expanded := true }).mcTileDone f).depCleanup t f.id)
    else d.onDep t f.id fun y => { y with recIdx := y.recIdx + 1 }

/-- The version of a group that is current (R282). -/
def Device.groupCur (d : Device) (g : Nat) : Nat := nget d.path.cur g

/-- OLD_BUSY of a group (R284, R299). -/
def Device.oldBusy (d : Device) (g : Nat) : Bool := mget (fun _ => false) d.path.oldBusy g

/-- The last frame that captured a group's other version has been replicated: OLD_BUSY clears (R284). -/
def Device.oldDrained (d : Device) (g : Nat) : Device :=
  if d.groupInflight g (1 - d.groupCur g) = 0 then
    d.onPath fun p => { p with oldBusy := mset (fun _ => false) p.oldBusy g false }
  else d

/-! ### Meanings -/

/-- YOKE_CELL (R278). -/
def execYokeCell (plane : Fin 4) (s : State) : Host.Outcome State Fault Refusal := s.run (·.yokeCell plane.val)

/-- STITCH_ARRIVE (R281). -/
def execStitchArrive (t : Fin 64) (plane : Fin 4) (err : BitVec 128) (parityOk eccOk : Bool) (s : State) :
    Host.Outcome State Fault Refusal := s.run (·.stitchArrive t.val plane.val err.toNat parityOk eccOk)

/-- MC_COPY_EXPAND (R286). -/
def execMcCopyExpand (t : Fin 64) (s : State) : Host.Outcome State Fault Refusal := s.run (·.mcExpand t.val)

/-- OLD_VERSION_DRAINED (R284). -/
def execOldVersionDrained (g : Fin 65536) (s : State) : Host.Outcome State Fault Refusal := s.run (·.oldDrained g.val)

end Sys2Proof.Machine
end

