-- ==== Sys2Proof/Machine/Repl.lean ====
section
/-!
DEFINITION. Messages on the Punty link and the active's replication store (R372, R374 to R377).
-/
namespace Sys2Proof.Machine

/-- Note that a replicated change was made or applied in the Tension interval that runs (R387). -/
def Device.replMark (d : Device) : Device :=
  let n := d.intervalNow
  if d.tensionOn then d.onUnit fun u => { u with replIn := mset (fun _ => false) u.replIn n true } else d

/-- A replication record (R375): KIND, STATUS, RLEN, OFFSET and its data, in network byte order. -/
def replRecord (kind status off : Nat) (body : List Byte) : List Byte :=
  beBytes 1 kind ++ beBytes 1 status ++ beBytes 2 (8 + body.length) ++ beBytes 4 off ++ body

/-- The active issues a record: it takes the next PSEQ, is held in the store and is sent (R375, R376). DESIGN CHOICE: a change that
hardware makes while the store is full cannot be held, so replication stops and a resync follows (R377). -/
def Device.replPush (d : Device) (r : List Byte) : Device :=
  if d.unit.repl && d.role == roleActive && decide (16384 ≤ d.unit.store.length) then d.replStop
  else if d.unit.repl && d.role == roleActive then
    let n := (d.rd Reg.UNT_PSEQ_SENT + 1) % 2 ^ 32
    let d := (d.wr Reg.UNT_PSEQ_SENT n).onUnit fun u => { u with store := u.store ++ [(n, r)] }
    ((d.inc (Reg.UNT_STAT_COUNT 4)).replMark).punty 2 n r
  else d

/-- A table command for the standby (R375): QCTL, TAG and ADDR at 0. -/
def mrvRecord (e : List Byte) (status : Nat) : List Byte :=
  replRecord 4 status 0 (patch (patch (slice e 0 64) 3 (beBytes 5 0)) 56 (beBytes 8 0))

end Sys2Proof.Machine
end

