-- ==== Sys2Proof/Machine/Table.lean ====
section
/-!
DEFINITION. The Marver table: places, keys, hash, promotion, lookups, learn events and the checks of a command (R182 to
R206).
-/
namespace Sys2Proof.Machine

/-- Change the Marver table. -/
def Device.onMrv (d : Device) (f : Marver → Marver) : Device := { d with mrv := f d.mrv }

/-! ### Entries and places -/

/-- KTYPE of a hash block (R186). -/
def keyType (k : List Byte) : Nat := byteAt k 15 / 16

/-- An entry takes an aligned pair of slots (R183). -/
def MrvEntry.wide (e : MrvEntry) : Bool := keyType e.key == 3

/-- The entry whose lowest slot has an index. -/
def Marver.at (m : Marver) (i : Nat) : Option MrvEntry := mget (fun _ => none) m.tab i

/-- Store an entry. -/
def Marver.put (m : Marver) (i : Nat) (e : Option MrvEntry) : Marver :=
  { m with tab := mset (fun _ => none) m.tab i e }

/-- A slot holds an entry or half of one. -/
def Marver.used (m : Marver) (i : Nat) : Bool :=
  (m.at i).isSome || (i % 2 == 1 && match m.at (i - 1) with | some e => e.wide | none => false)

/-- The Marver hash (R186). -/
def marverHash (block : List Byte) (seed : Nat) : Nat := crc32cUpdate (seed ^^^ 0xFFFFFFFF) block ^^^ 0xFFFFFFFF

/-- The home bucket of a key (R186). -/
def Device.home (d : Device) (key : List Byte) : Nat := marverHash key (d.rd Reg.MRV_SEED) % 262144

/-- The first overflow slot. -/
def ovfBase : Nat := 1048576

/-- The entries of the overflow store. -/
def Marver.ovf (m : Marver) : List (Nat × MrvEntry) :=
  (mrange m.tab ovfBase (ovfBase + 8192)).filterMap fun e => e.2.map fun x => (e.1, x)

/-- The index of a key's entry: its home bucket, then the overflow store. -/
def Device.findKey (d : Device) (key : List Byte) : Option Nat :=
  let b := d.home key
  let mine := fun i => match d.mrv.at i with | some e => e.key == key | none => false
  match ((List.range 4).map (4 * b + ·)).find? mine with
  | some i => some i
  | none => ((d.mrv.ovf).find? fun e => e.2.key == key).map (·.1)

/-- The bucket part of R183: the slot, the table with its bucket repacked where that helps, and whether it was. -/
def Marver.placeBucket (m : Marver) (b : Nat) (wide : Bool) : Option Nat × Marver × Bool :=
  let free := fun s => !m.used (4 * b + s)
  if !wide then (([0, 1, 2, 3].find? free).map (4 * b + ·), m, false)
  else if free 0 && free 1 then (some (4 * b), m, false)
  else if free 2 && free 3 then (some (4 * b + 2), m, false)
  else if ([0, 1, 2, 3].filter free).length = 2 then
    let lo := if free 0 then 1 else 0
    let hi := if free 2 then 2 else 3
    (some (4 * b), (m.put (4 * b + hi) (m.at (4 * b + lo))).put (4 * b + lo) none, true)
  else (none, m, false)

/-- The overflow part of R183: the lowest free slot or even pair. -/
def Marver.placeOvf (m : Marver) (wide : Bool) : Option Nat :=
  let cand := (List.range (min 8192 (4 * m.ovf.length + 4))).map (ovfBase + ·)
  if wide then cand.find? fun i => i % 2 == 0 && !m.used i && !m.used (i + 1) else cand.find? fun i => !m.used i

/-- MRV_OCC and MRV_OVF_OCC follow the table (R217). -/
def Device.mrvShow (d : Device) : Device :=
  let n := fun (l : Map (Option MrvEntry)) => (l.map fun e => match e.2 with
    | some x => if x.wide then 2 else 1
    | none => 0).sum
  (d.set Reg.MRV_OCC_USED (n (mrange d.mrv.tab 0 ovfBase))).set Reg.MRV_OVF_OCC_USED
    (n (mrange d.mrv.tab ovfBase (ovfBase + 8192)))

/-- Count a table event (R219). -/
def Device.mrvStat (d : Device) (i : Nat) (n : Nat := 1) : Device := d.inc (Reg.MRV_STAT_COUNT i) n

/-- Place a new entry (R183); `none` for TABLE_FULL. -/
def Device.mrvPlace (d : Device) (e : MrvEntry) : Option Nat × Device :=
  let (o, m, repacked) := d.mrv.placeBucket (d.home e.key) e.wide
  match o with
  | some i => (some i, ((d.onMrv fun _ => m.put i (some e)).mrvStat 10 (b2n repacked)).mrvShow)
  | none => match d.mrv.placeOvf e.wide with
    | some i => (some i, (d.onMrv fun m =>
        { m.put i (some { e with since := m.ovfNo }) with ovfNo := m.ovfNo + 1 }).mrvShow)
    | none => (none, d)

/-- An entry of an L2 key that ages: not static (R204). -/
def MrvEntry.ages (e : MrvEntry) : Bool := keyType e.key == 1 && !e.static

/-- An entry moved from `i` to `j`: where that takes it past the cursor of a running sweep, the sweep visits it all the same (R204). -/
def Marver.movedBehind (m : Marver) (e : MrvEntry) (i j : Nat) : Marver :=
  match m.sweep with
  | some c => if e.ages && decide (j < c) && decide (c ≤ i) then { m with behind := m.behind ++ [e.key] } else m
  | none => m

/-- Promotion into bucket `b` (R185): overflow entries homed there, longest in the store first. -/
def Device.promote (d : Device) (b : Nat) : Device :=
  let l := (d.mrv.ovf.filter fun e => d.home e.2.key == b).mergeSort fun x y => decide (x.2.since ≤ y.2.since)
  (d.each l fun d x =>
    let (o, m, repacked) := d.mrv.placeBucket b x.2.wide
    match o with
    | some i => ((d.onMrv fun _ => ((m.put i (some { x.2 with since := 0 })).put x.1 none).movedBehind x.2 x.1 i).mrvStat 9).mrvStat 10
        (b2n repacked)
    | none => d).mrvShow

/-- FID and address of an L2 key. -/
def keyFid (k : List Byte) : Nat := leNat (slice k 12 2) % 4096
def keyMac (k : List Byte) : Nat := leNat (slice k 0 6)

/-- A change of an L2 entry clears its tuples in all slices (R200). -/
def Device.clearTuples (d : Device) (key : List Byte) : Device :=
  if keyType key = 1 then
    d.onMrv fun m => { m with cache := (m.cache.map fun e =>
      (e.1, e.2.filter fun t => t.fid != keyFid key || t.mac != keyMac key)).filter fun e => e.2 != [] }
  else d

/-- Remove the entry at an index; promotion follows (R185). -/
def Device.mrvRemove (d : Device) (i : Nat) (e : MrvEntry) : Device :=
  ((d.onMrv fun m => m.put i none).clearTuples e.key).promote (d.home e.key)

/-- The next TSEQ (R192). -/
def Device.takeTseq (d : Device) : Nat × Device :=
  let n := (d.rd Reg.MRV_TSEQ + 1) % 2 ^ 32
  (n, d.wr Reg.MRV_TSEQ n)

/-- The index under which the entry of a slot stands: its own, or that of the even slot of a double-width entry (R188). -/
def Marver.entryIdx (m : Marver) (i : Nat) : Nat := if (m.at i).isNone && m.used i then i - 1 else i

/-- An uncorrectable slot loses its VALID, both slots of a double-width entry theirs: a critical fault (R206). The active replicates
the change that it audits (R374). -/
def Device.mrvBad (d : Device) (i : Nat) : Device :=
  let d := match d.mrv.at (d.mrv.entryIdx i) with
    | some e => (((d.onMrv fun m => m.put (m.entryIdx i) none).clearTuples e.key).mrvShow).replPush
        (mrvRecord ([2, 0, 0, 0, 0, 0, 0, 0] ++ e.key ++ leBytes 8 e.result) 0)
    | none => d
  let d := ((d.mrvStat 12).put Reg.MRV_STATUS_ECC_ERR true).set Reg.MRV_STATUS_ECC_ENTRY i
  ((d.auditEvent 4 4 i 0).eccBad 4).critical 1 4

/-- A slot that the reads of a lookup, a command, a sweep or a scrub found in error: uncorrectable or not, and its index (R206). -/
def Device.mrvEcc (d : Device) (e : Bool × Nat) : Device :=
  if e.1 then d.mrvBad e.2 else (d.mrvStat 11).eccCorrected 4

/-- The slots that the reads of a sweep or of the scrub find in error, among those that they read: a free value. -/
def Device.readErrors (d : Device) (reads : Nat → Bool) : List (Bool × Nat) :=
  ((Config.freeSlots d.freeCtr).map fun e => (e.1, e.2.val)).filter fun e => reads e.2

/-- A slot that such reads find is uncorrectable. -/
def Device.readsBad (d : Device) (reads : Nat → Bool) : Bool := (d.readErrors reads).any (·.1)

/-- A sweep or the scrub reads slots, with what R206 does for those in error. -/
def Device.readSlots (d : Device) (reads : Nat → Bool) : Device :=
  { (d.each (d.readErrors reads) Device.mrvEcc) with freeCtr := d.freeCtr + 1 }

/-- The slots of an entry that stands under an index: both of a double-width one in a bucket. -/
def onSlots (i : Nat) (e : MrvEntry) (j : Nat) : Bool := j == i || (e.wide && decide (i < 1048576) && i % 2 == 0 && j == i + 1)

/-! ### Entries as bytes (R188) -/

/-- The 32 bytes of a slot from its key half, RESULT, AGE and flags. -/
def slotBytes (half : List Byte) (result age flags : Nat) : List Byte :=
  let b := half ++ leBytes 8 result ++ leBytes 2 age ++ leBytes 1 flags
  b ++ leBytes 2 ((Config.slotEcc b).toNat % 1024) ++ leBytes 3 0

/-- Flag byte of an entry. -/
def MrvEntry.flags (e : MrvEntry) : Nat := 16 * b2n e.learned + 8 * b2n e.static + 2 * b2n e.wide + 1

/-- The slots of an entry, even slot first. -/
def MrvEntry.bytes (e : MrvEntry) : List Byte :=
  slotBytes (slice e.key 0 16) e.result e.age e.flags
    ++ (if e.wide then slotBytes (slice e.key 16 16) 0 e.age (e.flags + 4) else [])

/-- The slot at an index as the indirect window shows it (R214). -/
def Device.mrvSlot (d : Device) (i : Nat) : List Byte :=
  match d.mrv.at i with
  | some e => slice e.bytes 0 32
  | none =>
    match (if i % 2 = 1 then d.mrv.at (i - 1) else none) with
    | some e => if e.wide then slice e.bytes 32 32 else slotBytes (slice [] 0 16) 0 0 0
    | none => slotBytes (slice [] 0 16) 0 0 0

/-! ### Lookups on frames (R190, R191) -/

/-- L2, IPv4, IPv6 and MPLS keys (R186). -/
def keyL2 (fid mac : Nat) : List Byte := leBytes 12 mac ++ leBytes 2 fid ++ [0, 0x10] ++ List.replicate 16 0
def keyIp4 (vrf ip : Nat) : List Byte := leBytes 12 ip ++ leBytes 2 vrf ++ [0, 0x20] ++ List.replicate 16 0
def keyIp6 (vrf ip : Nat) : List Byte := List.replicate 12 0 ++ leBytes 2 vrf ++ [0, 0x30] ++ leBytes 16 ip
def keyMpls (label : Nat) : List Byte := leBytes 14 label ++ [0, 0x40] ++ List.replicate 16 0

/-- Look a key up. While a seed change clears the table, whether an entry is still there is free (R187). -/
def Device.mrvLookup (d : Device) (key : List Byte) : Option (Nat × MrvEntry) × Device :=
  match d.findKey key with
  | none => (none, d)
  | some i =>
    let r := (d.mrv.at i).map fun e => (i, e)
    if d.flag Reg.MRV_STATUS_SEED_BUSY then
      let (v, d) := d.draw
      (if v % 2 = 0 then r else none, d)
    else (r, d)

/-- VID of a frame (R190). -/
def Device.vidOf (d : Device) (p : Parse) (src : Nat) : Nat :=
  let v := match p.tags.head? with | some t => t.tci % 4096 | none => 0
  if v = 0 then d.get (Reg.MRV_PORT_PVID src) else v

/-! ### Learning (R198 to R202) -/

/-- DEST of MRV_LEARN_CFG selects a consumer: 1 host, 2 firmware, 0 none (R202, R216). -/
def Device.learnDest (d : Device) : Nat := let v := d.get Reg.MRV_LEARN_CFG_DEST; if v = 3 then 0 else v

/-- Depth of the learn bucket (R201, R216). -/
def Device.learnDepth (d : Device) : Nat := 1024 * max 1 (d.get Reg.MRV_LEARN_CFG_BURST_K)

/-- A notification enters the FIFO, or is dropped when that is full (R201). -/
def Device.noteEnter (d : Device) (n : LearnNote) : Device :=
  if d.mrv.fifo.length < 4096 then d.onMrv fun m => { m with fifo := m.fifo ++ [n] }
  else (d.onMrv fun m => { m with lost := true }).mrvStat 7

/-- An event of the source lookup (R198, R200, R201). -/
def Device.learnEvent (d : Device) (slice : Nat) (n : LearnNote) : Device :=
  if d.learnDest = 0 then d
  else
    let fid := keyFid n.key
    let mac := keyMac n.key
    let src := (n.port, n.remote, n.dev)
    let ttl := let t := d.get Reg.MRV_LEARN_CFG_TTL_MS; if t = 0 then 100 else t
    let c := lget d.mrv.cache slice
    if c.any fun t => t.fid == fid && t.mac == mac && t.src == src && decide (d.clock < t.time + 1600000 * ttl) then d.mrvStat 5
    else if d.get Reg.MRV_LEARN_CFG_RATE ≠ 0 ∧ d.mrv.tokens = 0 then d.mrvStat 6
    else
      let d := d.when (d.get Reg.MRV_LEARN_CFG_RATE != 0) fun d =>
        d.onMrv fun m => { m with tokens := m.tokens - 1 }
      let rest := c.filter fun t => t.fid != fid || t.mac != mac
      let rest := if 256 ≤ rest.length then rest.drop 1 else rest
      (d.onMrv fun m => { m with cache := lset m.cache slice (rest ++ [⟨fid, mac, src, d.clock⟩]) }).noteEnter n

/-- RTYPE, DEST, REMOTE and REMOTE_DEV of a RESULT (R189). -/
def resType (r : Nat) : Nat := bits r 63 62
def resDest (r : Nat) : Nat := bits r 61 46
def resRemote (r : Nat) : Bool := bit r 20
def resDev (r : Nat) : Nat := bits r 19 8

/-- The learning part of the source lookup of a frame (R190, R198, R205). -/
def Device.learnFrame (d : Device) (f : Frame) (vid : Nat) : Device :=
  let p := f.parse
  if 512 ≤ f.src ∨ p.sa = 0 ∨ bit p.sa 40 then d
  else
    let key := keyL2 (d.get (Reg.MRV_VLAN_FID vid)) p.sa
    let (port, remote, dev) := match p.jarlis with | some h => (h.srcPort, true, h.srcDev) | none => (f.src, false, 0)
    let (hit, d) := d.mrvLookup key
    let may := d.flag (Reg.MRV_PORT_LEARN_EN f.src) && d.flag (Reg.MRV_VLAN_LEARN_EN vid) && d.role != roleStandby
    let note := fun kind old => (⟨kind, port, remote, dev, vid, key.take 16, old⟩ : LearnNote)
    match hit with
    | none => if may then d.learnEvent (sliceOf f.src) (note 1 0) else d
    | some (i, e) =>
      let r := e.result
      let same := resType r == 0 && resDest r == port && resRemote r == remote && (!remote || resDev r == dev)
      let old := resDest r % 1024 + 1024 * b2n (resRemote r) + 2048 * resDev r
      if same then
        if e.static then d
        else d.onMrv fun m => m.put i (some { e with age := d.get Reg.MRV_AGE_NOW_NOW })
      else if may then d.learnEvent (sliceOf f.src) (note (if e.static then 3 else 2) old) else d

/-! ### Checks of a command (R193 to R195) -/

/-- The bytes of a range are all 0. -/
def zeroIn (bs : List Byte) (off n : Nat) : Bool := (slice bs off n).all (· == 0)

/-- A hash block is a valid key (R186). -/
def keyOk (k : List Byte) : Bool :=
  let tail := byteAt k 15 % 16 == 0 && byteAt k 14 == 0
  match keyType k with
  | 1 => zeroIn k 6 6 && decide (byteAt k 13 < 16) && tail && zeroIn k 16 16
  | 2 => zeroIn k 4 8 && decide (byteAt k 13 < 16) && tail && zeroIn k 16 16
  | 3 => zeroIn k 0 12 && decide (byteAt k 13 < 16) && tail
  | 4 => decide (byteAt k 2 < 16) && zeroIn k 3 11 && tail && zeroIn k 16 16
  | _ => false

/-- A RESULT has no reserved encoding (R189, R195). -/
def resultOk (r : Nat) (l2 : Bool) : Bool :=
  bits r 7 0 == 0 && (resType r != 0 || decide (resDest r ≤ 515)) && (decide (resType r < 2) || resDest r == 0)
    && (!resRemote r || resType r == 0) && (resType r != 3 || l2)

/-- Fields of a 64-byte command (R193). -/
def cmdKey (e : List Byte) : List Byte := slice e 8 32
def cmdResult (e : List Byte) : Nat := leNat (slice e 40 8)
def cmdFlag (e : List Byte) (i : Nat) : Bool := bit (byteAt e 1) i
def cmdAux (e : List Byte) : Nat := leNat (slice e 52 4)
def cmdAddr (e : List Byte) : Nat := leNat (slice e 56 8)

/-- The status of the checks of R195 that come before the table is looked at; 0 when they pass. -/
def cmdCheck (e : List Byte) : Nat :=
  let op := byteAt e 0
  let k := cmdKey e
  let l2 := keyType k == 1
  if op = 0 ∨ 6 < op ∨ 32 ≤ byteAt e 1 ∨ !zeroIn e 2 1 ∨ !zeroIn e 49 3 then 7
  else if (op = 1 ∨ op = 2 ∨ op = 3) ∧ !keyOk k then 5
  else if op = 5 ∧ cmdFlag e 3 ∧ !(keyOk k && l2) then 5
  else if op = 1 ∧ (!resultOk (cmdResult e) l2 ∨ byteAt e 48 % 8 ≠ 0 ∨ 32 ≤ byteAt e 48) then 6
  else if op = 2 ∧ cmdFlag e 1 ∧ !resultOk (cmdResult e) l2 then 6
  else if op = 5 ∧ !resultOk (cmdResult e) true then 6
  else 0

end Sys2Proof.Machine
end

