-- ==== Sys2Proof/Machine/Marver.lean ====
section
/-!
DEFINITION. The table engine: commands, ageing, notifications, scrub and audit of the Marver table (R187, R192 to R211),
with the meanings of their commands.
-/
namespace Sys2Proof.Machine

/-! ### Audit of table changes (R208) -/

/-- Close the open batch: its audit record (R552). -/
def Device.closeBatch (d : Device) : Device :=
  match d.mrv.batch with
  | none => d
  | some b =>
    (d.onMrv fun m => { m with batch := none }).record 5 b.origin b.oid false
      (batchBody 1 b.status b.count b.first b.last (b.crc ^^^ 0xFFFFFFFF))

/-- Origin and ORIGIN_ID of a command's source (R550). -/
def Device.tblOrigin (d : Device) (src : TblSrc) : Nat × Nat :=
  match src with
  | .host sq => if d.owner sq.val = 0 then (0, 0) else (1, d.owner sq.val)
  | .firmware c => (2, c.val)
  | .image => (3, 0)
  | .punty => (4, 0)

/-- One more command in the batch of its origin; a batch closes when the origin changes and after 256 commands. The commands of
an image are audited by their configuration record alone (R57, R548). -/
def Device.addBatch (d : Device) (o : Nat × Nat) (tseq op status : Nat) (key : List Byte) (result : Nat) : Device :=
  let d := match d.mrv.batch with
    | some b => if b.origin = o.1 ∧ b.oid = o.2 then d else d.closeBatch
    | none => d
  let bs := leBytes 1 op ++ leBytes 1 status ++ key ++ leBytes 8 result
  let b := match d.mrv.batch with
    | some b => { b with count := b.count + 1, last := tseq, status := if b.status = 0 then status else b.status,
                         crc := crc32cUpdate b.crc bs }
    | none => ⟨o.1, o.2, 1, tseq, tseq, status, crc32cUpdate 0xFFFFFFFF bs⟩
  if o.1 = 3 then d
  else
    let d := d.onMrv fun m => { m with batch := some b }
    if 256 ≤ b.count then d.closeBatch else d

/-- The digest of R207 over one entry. -/
def entryDigest (e : MrvEntry) : Nat := crc32c (e.key ++ leBytes 8 e.result)

/-! ### INSERT and DELETE (R194) -/

/-- The effect of an INSERT that passed its checks: status and index. -/
def Device.tblInsert (d : Device) (e : List Byte) : Nat × Option Nat × Device :=
  let key := cmdKey e
  let fl := byteAt e 48
  let x : MrvEntry := { key := key, result := cmdResult e, age := d.get Reg.MRV_AGE_NOW_NOW, learned := bit fl 4,
                        static := bit fl 3 }
  match d.findKey key with
  | some i =>
    match d.mrv.at i with
    | none => (2, none, d)
    | some old =>
      if !cmdFlag e 0 then (1, some i, d)
      else if old.static && !x.static then (4, some i, d)
      else (0, some i, ((d.onMrv fun m => m.put i (some { x with since := old.since })).clearTuples key).mrvStat 0)
  | none =>
    match d.mrvPlace x with
    | (some i, d) => (0, some i, (d.clearTuples key).mrvStat 0)
    | (none, d) => (3, none, (d.mrvStat 2).put Reg.MRV_STATUS_FULL true)

/-- The effect of a DELETE that passed its checks: status and index. -/
def Device.tblDelete (d : Device) (e : List Byte) : Nat × Option Nat × Device :=
  match d.findKey (cmdKey e) with
  | none => (2, none, d)
  | some i =>
    match d.mrv.at i with
    | none => (2, none, d)
    | some x =>
      if cmdFlag e 1 && x.result != cmdResult e then (8, some i, d)
      else (0, some i, (d.mrvRemove i x).mrvStat 1)

/-- A command that takes one TSEQ (R192): its status, TSEQ and index; audited in its batch and replicated. -/
def Device.tblChange (d : Device) (o : Nat × Nat) (e : List Byte) (status : Nat) : Nat × Nat × Option Nat × Device :=
  let (tseq, d) := d.takeTseq
  let (st, loc, d) :=
    if status ≠ 0 then (status, none, d)
    else if byteAt e 0 = 1 then d.tblInsert e
    else d.tblDelete e
  let d := d.addBatch o tseq (byteAt e 0) st (cmdKey e) (cmdResult e)
  (st, tseq, loc, d.replPush (mrvRecord e st))

/-! ### FLUSH_PORT (R194, R208) -/

/-- Removals recorded so far: (TSEQ, digest), in records of at most 256 that hold the command's status (R551, R552). -/
def Device.removalRecords (d : Device) (subject status : Nat) (o : Nat × Nat) (first0 : Option Nat) :
    Nat → List (Nat × Nat) → Device
  | 0, _ => d
  | fuel + 1, l =>
    let c := l.take 256
    let first := first0.getD ((c.head?.map (·.1)).getD 0)
    let last := (c.getLast?.map (·.1)).getD first
    let d := d.record 5 o.1 o.2 false (batchBody subject status c.length first last (c.foldl (fun x e => x ^^^ e.2) 0))
    if (l.drop 256).isEmpty then d else d.removalRecords subject status o none fuel (l.drop 256)

/-- An entry that a FLUSH_PORT removes (R194). -/
def flushHit (e : List Byte) (x : MrvEntry) : Bool :=
  let r := cmdResult e
  keyType x.key == 1 && resType x.result == resType r && resDest x.result == resDest r
    && resRemote x.result == resRemote r && resDev x.result == resDev r && (!x.static || cmdFlag e 2)
    && (!cmdFlag e 3 || keyFid x.key == keyFid (cmdKey e))

/-- The keys that a FLUSH_PORT removes, in index order. -/
def Device.flushKeys (d : Device) (e : List Byte) : List (List Byte) :=
  d.mrv.tab.filterMap fun t => t.2.bind fun x => if flushHit e x then some x.key else none

/-- FLUSH_PORT: its own TSEQ first, then one for each entry removed, in index order (R192, R194). It is audited by records of SUBJECT
0x3 alone, also where it fails its checks or stands in a BULK (R208). -/
def Device.tblFlush (d : Device) (o : Nat × Nat) (e : List Byte) (status : Nat) : Nat × Nat × Device :=
  let d := d.closeBatch
  let (own, d) := d.takeTseq
  let keys := if status ≠ 0 then [] else d.flushKeys e
  let (d, l) := keys.foldl (fun (s : Device × List (Nat × Nat)) k =>
    match s.1.findKey k with
    | none => s
    | some i => match s.1.mrv.at i with
      | none => s
      | some x =>
        let (t, d) := s.1.takeTseq
        ((d.mrvRemove i x).mrvStat 1, s.2 ++ [(t, entryDigest x)])) (d, [])
  let d := if o.1 = 3 then d else d.removalRecords 3 status o (some own) (l.length + 1) l
  (status, (l.getLast?.map (·.1)).getD own, d.replPush (mrvRecord e status))

/-! ### SEARCH, NEXT and BULK -/

/-- Where an output or an array of `n` bytes lies is within the memory that the source may name (R193). -/
def tblAddrOk (src : TblSrc) (addr n : Nat) : Bool :=
  match src with
  | .firmware _ => decide (addr + n ≤ 16777216)
  | .image => addr == 0
  | _ => true

/-- Write a command's output (R194): host memory or shared SRAM. -/
def Device.tblOut (d : Device) (src : TblSrc) (addr : Nat) (bs : List Byte) : Device :=
  if addr = 0 then d
  else match src with
    | .host sq => d.emit (.hostWrite (d.owner sq.val) addr bs)
    | .firmware _ => d.sramStore addr bs
    | _ => d

/-- The output of SEARCH and NEXT: the status, the index and the entry written to ADDR. ADDR is judged by the bytes that the entry
takes; DEDUCED: by 32 where none is found (R193 to R195). A memory of the host may fail the write. -/
def Device.tblFound (d : Device) (src : TblSrc) (e : List Byte) (memOk : Bool) (hit : Option (Nat × MrvEntry)) :
    Nat × Option Nat × Device :=
  let bs := match hit with | some (_, x) => x.bytes | none => []
  if cmdAddr e ≠ 0 ∧ !tblAddrOk src (cmdAddr e) (max 32 bs.length) then (9, none, d)
  else match hit with
    | none => (2, none, d)
    | some (i, _) =>
      if cmdAddr e ≠ 0 ∧ !memOk then (9, none, d) else (0, some i, d.tblOut src (cmdAddr e) bs)

/-- SEARCH: status, index. -/
def Device.tblSearch (d : Device) (src : TblSrc) (e : List Byte) (memOk : Bool) : Nat × Option Nat × Device :=
  d.tblFound src e memOk ((d.findKey (cmdKey e)).bind fun i => (d.mrv.at i).map fun x => (i, x))

/-- The walk position of an entry index (R194). -/
def walkPos (i : Nat) : Nat := if ovfBase ≤ i then i - ovfBase else i + 8192

/-- The cursor after a position. -/
def walkNext (p : Nat) : Nat := if 1056767 < p then 0xFFFFFFFF else p

/-- NEXT: status, index, the cursor for the following NEXT. A walk that fails under DMA_ERROR gives its own cursor back. -/
def Device.tblNext (d : Device) (src : TblSrc) (e : List Byte) (memOk : Bool) : Nat × Option Nat × Nat × Device :=
  let aux := cmdAux e
  let c := d.mrv.tab.filterMap fun t => t.2.bind fun x =>
    let p := walkPos t.1
    if aux ≤ p ∧ p < aux + 65536 then some (p, t.1, x) else none
  let hit := c.foldl (fun (b : Option (Nat × Nat × MrvEntry)) a =>
    match b with | none => some a | some b => if a.1 < b.1 then some a else some b) none
  let (st, loc, d) := d.tblFound src e memOk (hit.map (·.2))
  let cur := match hit with | some (p, _) => walkNext (p + 1) | none => walkNext (aux + 65536)
  (st, loc, if st = 9 then aux else cur, d)

/-- A key is homed in the region that a scrub is reading (R207). -/
def Device.mrvHeld (d : Device) (key : List Byte) : Bool :=
  match d.mrv.scrub with
  | some (r, _, _) => d.home key / 4096 == r
  | none => false

/-- A command would change a key that a scrub holds off (R207, R210). -/
def Device.tblHeld (d : Device) (e : List Byte) : Bool :=
  let op := byteAt e 0
  cmdCheck e == 0 && (((op == 1 || op == 2) && d.mrvHeld (cmdKey e)) || (op == 5 && (d.flushKeys e).any d.mrvHeld))

/-- The sub-entries of a BULK. -/
def bulkCount (e : List Byte) : Nat := cmdAux e % 65536 + 1

/-- One sub-entry of a BULK. It takes a TSEQ as the command it is, so a SEARCH, NEXT or BULK takes none (R192, R194). -/
def Device.bulkSub (d : Device) (b : BulkRun) : Nat × BulkRun × Device :=
  let o := d.tblOrigin b.src
  let x := slice b.arr (64 * b.i) 64
  let op := byteAt x 0
  let c := if op = 1 ∨ op = 2 then cmdCheck x else 7
  let (st, t, d) :=
    if op = 3 ∨ op = 4 ∨ op = 6 then (c, d.rd Reg.MRV_TSEQ, d)
    else if op = 5 then d.tblFlush o x c
    else
      let (st, t, _, d) := d.tblChange o x c
      (st, t, d)
  (st, { b with i := b.i + 1, st := if b.st = 0 then st else b.st, tseq := t,
                loc := if b.st = 0 ∧ st ≠ 0 then some b.i else b.loc }, d)

/-- The sub-entries of a BULK in order, until one fails and CONTINUE is 0: how it stands and whether it is finished. A sub-entry waits
as a command of its own would: for an audit record, for room in the replication store, for a scrub (R207, R209, R377). The records of an
image wait for none of these. -/
def bulkGo : Nat → BulkRun → Device → Bool × BulkRun × Device
  | 0, b, d => (true, b, d)
  | fuel + 1, b, d =>
    if bulkCount b.entry ≤ b.i then (true, b, d)
    else if b.src ≠ .image ∧ (!d.engineMay || d.tblHeld (slice b.arr (64 * b.i) 64)) then (false, b, d)
    else
      let (st, b, d) := d.bulkSub b
      if st ≠ 0 ∧ !cmdFlag b.entry 4 then (true, b, d) else bulkGo fuel b d

/-- The array that a BULK names: the firmware's lies in shared SRAM, that of any other source is the one that was read, which holds all
the sub-entries (R193). -/
def Device.bulkArray (d : Device) (src : TblSrc) (e : List Byte) (arr : Option (List Byte)) : Option (List Byte) :=
  let n := 64 * bulkCount e
  if cmdAddr e = 0 then none
  else match src with
    | .firmware _ => if tblAddrOk src (cmdAddr e) n then some (d.sramRead (cmdAddr e) n) else none
    | _ => arr.bind fun bs => if bs.length < n then none else some bs

/-! ### The engine takes a command -/

/-- The engine may take a command (R187, R192, R197, R209, R377): no seed change clears the table, no FLUSH_PORT or BULK runs, and the
records of a change can be written. -/
def Device.engineReady (d : Device) : Bool :=
  d.engineMay && !d.flag Reg.MRV_STATUS_SEED_BUSY && !d.flag Reg.MRV_STATUS_FLUSH_BUSY && d.mrv.bulk.isNone

/-- One command of any opcode: status, TSEQ field and LOC (R195, R196). DESIGN CHOICE: a FLUSH_PORT acts at once and shows FLUSH_BUSY,
so that commands of every queue wait, until the next clock (R197, R213). -/
def Device.tblExec (d : Device) (src : TblSrc) (e : List Byte) (arr : Option (List Byte)) (memOk : Bool) :
    Nat × Nat × Option Nat × Device :=
  let o := d.tblOrigin src
  let op := byteAt e 0
  let c := cmdCheck e
  let d := d.pmc 0xC 0
  if op = 3 then
    if c ≠ 0 then (c, d.rd Reg.MRV_TSEQ, none, d)
    else
      let (st, loc, d) := d.tblSearch src e memOk
      (st, d.rd Reg.MRV_TSEQ, loc, d)
  else if op = 4 then
    if c ≠ 0 then (c, cmdAux e, none, d)
    else
      let (st, loc, cur, d) := d.tblNext src e memOk
      (st, cur, loc, d)
  else if op = 5 then
    let (st, t, d) := d.tblFlush o e c
    (st, t, none, d.put Reg.MRV_STATUS_FLUSH_BUSY (c == 0))
  else if op = 6 then
    if c ≠ 0 then (c, d.rd Reg.MRV_TSEQ, none, d)
    else match d.bulkArray src e arr with
      | none => (9, d.rd Reg.MRV_TSEQ, none, d)
      | some bs =>
        let (fin, b, d) := bulkGo (bulkCount e) { src := src, entry := e, arr := bs, tseq := d.rd Reg.MRV_TSEQ } d
        (b.st, b.tseq, b.loc, d.when (!fin) fun d => d.onMrv fun m => { m with bulk := some b })
  else d.tblChange o e c

/-- The completion of a host's command (R196). -/
def Device.tblDone (d : Device) (o : HostOp) (st tseq : Nat) (loc : Option Nat) : Device :=
  d.finishOp o st 0 (leBytes 4 tseq ++ leBytes 4 (loc.getD 0x1FFFFF))

/-- QCTL of an entry is reserved (R491). -/
def HostOp.badQctl (o : HostOp) : Bool := decide (4 ≤ o.byte 3) || o.byte 3 % 4 == 3

/-- The status of the common checks of an entry, which come before the engine's own (R491); 0 when they pass. -/
def HostOp.tblCommon (o : HostOp) : Nat :=
  if o.badQctl then 0x40 else if o.byte 0 = 6 ∧ cmdAddr o.bytes = 0 then 0x42 else 0

/-- The oldest fetched entry of a queue. -/
def Device.tblFirst (d : Device) (sq : Nat) : Option HostOp := d.host.ops.find? fun o => o.sq == sq

/-- An entry stands at the head of a host queue of table commands. -/
def Device.tblHead (d : Device) (o : HostOp) : Bool :=
  d.get (Reg.HQ_SQ_CFG_TYPE o.sq) == 2 && d.tblFirst o.sq == some o

/-- The entries at the heads of the host queues that fail the common checks complete first. DESIGN CHOICE: such an entry reaches no
engine, so its completion holds TSEQ 0, and no LOC (R196, R491). -/
def tblHeads : Nat → Device → Device
  | 0, d => d
  | fuel + 1, d =>
    match d.host.ops.find? fun o => d.tblHead o && o.tblCommon != 0 with
    | none => d
    | some o => tblHeads fuel (d.tblDone o o.tblCommon 0 none)

/-- The bytes of a command's data in host memory cannot be reached: it waits. -/
def Device.tblBlocked (d : Device) (o : HostOp) : Bool :=
  cmdAddr o.bytes != 0 && [3, 4, 6].contains (o.byte 0) && !d.dmaOk (d.owner o.sq)

/-- The command queues in the order in which the engine's round-robin looks at them. DESIGN CHOICE: the host queues by their number,
the firmware's internal queue, Cast-On, the peer (R192). -/
def tblQueue : TblSrc → Nat
  | .host sq => sq.val
  | .firmware _ => 512
  | .image => 513
  | .punty => 514

/-- The queues that have a command waiting. Those of Cast-On and of the peer hold one only while no other queue is served (R57, R379). -/
def Device.tblWaiting (d : Device) : List Nat :=
  (d.host.ops.filterMap fun o => if d.tblHead o && !d.tblBlocked o then some o.sq else none)
    ++ (if d.mrv.fwQ = [] then [] else [512])

/-- It is a source's turn: no waiting queue stands before it in the rotation (R192). -/
def Device.tblTurn (d : Device) (src : TblSrc) : Bool :=
  let far := fun q => (q + 515 - d.mrv.rr) % 515
  d.tblWaiting.all fun q => decide (far (tblQueue src) ≤ far q)

/-- The next command of a source: its 64 bytes, the host's entry, and the source with the core that issued it. A host queue gives its
oldest fetched entry, the firmware what its internal queue holds first. -/
def Device.tblFetch (d : Device) (src : TblSrc) (entry : List Byte) : Option (List Byte × Option HostOp × TblSrc × Device) :=
  match src with
  | .host sq => match d.tblFirst sq.val with
    | some o => if d.tblHead o && !d.tblBlocked o then some (o.bytes, some o, src, d) else none
    | none => none
  | .firmware _ => match d.mrv.fwQ with
    | (c, e) :: rest => some (e, none, .firmware (Fin.ofNat 16 c), d.onMrv fun m => { m with fwQ := rest })
    | [] => some (slice entry 0 64, none, src, d)
  | _ => none

/-- A command of a source ends: the completion of a host's entry, or what the firmware counts of its inserts (R537). -/
def Device.tblEnd (d : Device) (o : Option HostOp) (src : TblSrc) (op st tseq : Nat) (loc : Option Nat) : Device :=
  match o, src with
  | some o, _ => d.tblDone o st tseq loc
  | none, .firmware _ =>
    if op = 1 then d.onMrv fun m => { m with fwInserts := m.fwInserts + b2n (st == 0), fwFull := m.fwFull + b2n (st == 3) } else d
  | none, _ => d

/-- The BULK that the engine has begun goes on. One whose queue has been reset ends in the table, with no completion (R501). -/
def Device.bulkResume (d : Device) (b : BulkRun) : Device :=
  let (fin, b, d) := bulkGo (bulkCount b.entry) b d
  if fin then (d.onMrv fun m => { m with bulk := none }).tblEnd
    (match b.src, b.gone with | .host sq, false => d.tblFirst sq.val | _, _ => none) b.src 6 b.st b.tseq b.loc
  else d.onMrv fun m => { m with bulk := some b }

/-- The engine takes the next command of a source, in its turn, if it has the row's opcode; a reserved opcode is taken in the place of
any (R195). A BULK that had to wait goes on with the next BULK row of its source. A standby takes none of these commands (R379). Those
of an image and of the peer are taken by CONFIG_RECORD and the replication rows. `ecc` are the slots that its reads found in error. -/
def Device.tblTake (d : Device) (op : Nat) (src : TblSrc) (entry : List Byte) (arr : Option (List Byte)) (memOk : Bool)
    (ecc : List (Bool × Nat)) : Device :=
  if d.role = roleStandby then d
  else match d.mrv.bulk with
    | some b =>
      if op ≠ 6 ∨ tblQueue b.src ≠ tblQueue src ∨ !d.engineMay ∨ d.flag Reg.MRV_STATUS_SEED_BUSY then d
      else (d.each ecc Device.mrvEcc).bulkResume b
    | none =>
      if !d.engineReady then d
      else
        let d := tblHeads d.host.ops.length d
        match d.tblFetch src entry with
        | none => d
        | some (e, o, by_, d') =>
          if !d.tblTurn src || !(byteAt e 0 == op || byteAt e 0 == 0 || decide (6 < byteAt e 0)) || d.tblHeld e then d
          else
            let d := (d'.each ecc Device.mrvEcc).onMrv fun m => { m with rr := (tblQueue src + 1) % 515 }
            let (st, t, loc, d) := d.tblExec by_ e arr memOk
            if d.mrv.bulk.isSome then d else d.tblEnd o by_ (byteAt e 0) st t loc

/-! ### Seed, ageing, scrub -/

/-- A completed seed pair (R187): the register, SEED_BUSY, empty learn caches, and a first sweep to come. -/
def Device.seedWrite (d : Device) (v : Nat) : Device :=
  ((d.wr Reg.MRV_SEED v).put Reg.MRV_STATUS_SEED_BUSY true).onMrv fun m => { m with cache := [], firstSweep := true }

/-- The clearing is done (R187). The commands that waited run as they are taken. -/
def Device.seedClear (d : Device) : Device :=
  if d.flag Reg.MRV_STATUS_SEED_BUSY then
    ((d.onMrv fun m => { m with tab := [] }).put Reg.MRV_STATUS_SEED_BUSY false).mrvShow
  else d

/-- The audit record of the removals of a sweep (R208). -/
def Device.sweepRecord (d : Device) : Device :=
  let (n, first, last, dig) := d.mrv.swept
  if n = 0 then d
  else (d.onMrv fun m => { m with swept := (0, 0, 0, 0) }).recordHw 5 (batchBody 2 0 n first last dig)

/-- The ager's clock ticks and a sweep starts (R203). It takes with it whether it is a first sweep, LIMIT (R215) and whether it removes
anything: with fewer than 16 free records of the hardware reserve, or a full replication store, it does not (R209, R377). -/
def Device.ageTick (d : Device) : Device :=
  ((d.sweepRecord).inc Reg.MRV_AGE_NOW_NOW).onMrv fun m =>
    { m with sweep := some 0, behind := [], sweepFirst := m.firstSweep, firstSweep := false, sweepTold := false,
             sweepLim := d.get Reg.MRV_AGE_CFG_LIMIT, sweepDef := !d.canDefer || !d.replRoom }

/-- A removal by the ager (R204, R208, R211). -/
def Device.ageRemove (d : Device) (i : Nat) (e : MrvEntry) : Device :=
  let (t, d) := d.takeTseq
  let d := (d.mrvRemove i e).mrvStat 8
  let (n, first, _, dig) := d.mrv.swept
  let d := d.onMrv fun m => { m with swept := (n + 1, if n = 0 then t else first, t, dig ^^^ entryDigest e) }
  let d := d.replPush (mrvRecord ([2, 0, 0, 0, 0, 0, 0, 0] ++ e.key ++ leBytes 8 e.result) 0)
  let d := if d.learnDest = 0 then d else
    d.noteEnter ⟨4, resDest e.result % 1024, resRemote e.result, if resRemote e.result then resDev e.result else 0, 0,
      e.key.take 16, t⟩
  if n + 1 = 256 then d.sweepRecord else d

/-- The next visit of a sweep: the entry and the table after it. An entry that a promotion moved behind the cursor comes first; then
the entries from the cursor on, in index order. -/
def Device.ageNext (d : Device) (c : Nat) : Option (Nat × MrvEntry) × Marver :=
  match d.mrv.behind with
  | k :: ks => ((d.findKey k).bind fun i => ((d.mrv.at i).filter (·.ages)).map fun e => (i, e), { d.mrv with behind := ks })
  | [] =>
    match d.mrv.tab.findSome? fun t => t.2.bind fun e => if c ≤ t.1 ∧ e.ages then some (t.1, e) else none with
    | some (i, e) => (some (i, e), { d.mrv with sweep := some (i + 1) })
    | none => (none, { d.mrv with sweep := none })

/-- An entry has reached the limit of the running sweep (R204). -/
def Device.ageOver (d : Device) (e : MrvEntry) : Bool :=
  !d.mrv.sweepFirst && d.mrv.sweepLim != 0 && decide (d.mrv.sweepLim ≤ (d.get Reg.MRV_AGE_NOW_NOW + 65536 - e.age) % 65536)
    && d.role != roleStandby

/-- The sweep visits its next entry, or ends (R204). A removal waits for the scrub of its region (R207) and for a FLUSH_PORT or BULK that
runs. An entry of which the visit reads an uncorrectable slot is gone before its age is looked at (R206). DESIGN CHOICE: a sweep that finds
the records short in its course removes nothing more (R209). -/
def Device.ageVisit (d : Device) : Device :=
  match d.mrv.sweep with
  | none => d
  | some c =>
    let (next, m) := d.ageNext c
    match next with
    | none => (d.when m.sweep.isNone (·.sweepRecord)).onMrv fun x => { m with swept := x.swept }
    | some (i, e) =>
      let bad := d.readsBad (onSlots i e)
      let d := d.readSlots (onSlots i e)
      if bad then d.onMrv fun x => { x with sweep := m.sweep, behind := m.behind }
      else if d.mrv.sweepFirst then d.onMrv fun _ => m.put i (some { e with age := d.get Reg.MRV_AGE_NOW_NOW })
      else if !d.ageOver e then d.onMrv fun _ => m
      else if d.mrv.sweepDef || !d.canDefer || !d.replRoom then
        ((d.put Reg.MRV_STATUS_AGE_DEFERRED true).mrvStat 14 (b2n (!m.sweepTold))).onMrv fun _ =>
          { m with sweepDef := true, sweepTold := true }
      else if d.mrvHeld e.key || d.flag Reg.MRV_STATUS_SEED_BUSY || d.flag Reg.MRV_STATUS_FLUSH_BUSY || d.mrv.bulk.isSome then d
      else (d.onMrv fun _ => m).ageRemove i e

/-- The learn bucket fills (R201). -/
def Device.learnRefill (d : Device) : Device :=
  d.onMrv fun m => { m with tokens := min d.learnDepth (m.tokens + d.get Reg.MRV_LEARN_CFG_RATE) }

/-- A notification as its 32 bytes (R199). -/
def LearnNote.bytes (n : LearnNote) (lost : Bool) (nseq : Nat) : List Byte :=
  leBytes 1 n.kind ++ leBytes 1 (2 * b2n n.remote + b2n lost) ++ leBytes 2 n.port
    ++ leBytes 2 (if n.remote then n.dev else 0) ++ leBytes 2 n.vid ++ slice n.key 0 16 ++ leBytes 4 n.old
    ++ leBytes 4 nseq

/-- The insert that the firmware issues for a notification (R202). -/
def LearnNote.insert (n : LearnNote) : List Byte :=
  [1, 1, 0, 0, 0, 0, 0, 0] ++ slice n.key 0 16 ++ List.replicate 16 0
    ++ leBytes 8 (2 ^ 46 * n.port + (if n.remote then 2 ^ 20 + 256 * n.dev else 0)) ++ [0x10] ++ List.replicate 15 0

/-- A Gaffer core that runs a service and is running (R546). -/
def Device.serviceCore (d : Device) (role : Nat) : Option Nat :=
  (List.range 16).find? fun n => bit (d.get (Reg.SVC_CORE_ROLE n)) role
    && (d.get (Reg.SVC_CORE_STATE n) == 1 || d.get (Reg.SVC_CORE_STATE n) == 2)

/-- A notification leaves the FIFO (R202). The firmware's insert goes into its internal queue with the core that handles the
notification; the firmware counts the notifications that ask for none. -/
def Device.learnDeliver (d : Device) : Device :=
  match d.mrv.fifo with
  | [] => d
  | n :: rest =>
    let pop := fun (d : Device) => d.onMrv fun m => { m with fifo := rest }
    let sent := fun (d : Device) => ((d.onMrv fun m => { m with lost := false }).mrvStat 4).pmc 0xD 0
    if d.learnDest = 0 then (pop d).onMrv fun m => { m with lost := true }
    else if d.learnDest = 1 then
      let q := d.get Reg.HQ_GLB_CFG_LEARN_Q
      if !d.flag Reg.HQ_GLB_CFG_LEARN_QV || !d.flag (Reg.HQ_SQ_CFG_EN q) || !d.dmaOk (d.owner q) || !d.lineOpen 33 then d
      else
        let (ok, d') := d.bufAppend q (n.bytes d.mrv.lost d.mrv.nseqHost)
        if ok then ((sent (pop d')).onMrv fun m => { m with nseqHost := (m.nseqHost + 1) % 2 ^ 32 }).lineLess 33 32 else d
    else if (d.serviceCore 3).isNone then d
    else
      let d := (sent (pop d)).onMrv fun m => { m with nseqFw := (m.nseqFw + 1) % 2 ^ 32 }
      d.onMrv fun m =>
        if n.kind = 3 then { m with fwStatic := m.fwStatic + 1 }
        else if n.kind = 4 then { m with fwAged := m.fwAged + 1 }
        else { m with fwQ := m.fwQ ++ [((d.serviceCore 3).getD 0, n.insert)] }

/-- The digest of a region (R207). -/
def Device.regionDigest (d : Device) (r : Nat) : Nat :=
  d.mrv.tab.foldl (fun x t => match t.2 with
    | some e => if d.home e.key / 4096 = r then x ^^^ entryDigest e else x
    | none => x) 0

/-- A region read begins. -/
def Device.scrubRegion (d : Device) (r : Nat) : Device :=
  d.onMrv fun m => { m with scrub := some (r, d.regionDigest r, d.rd Reg.MRV_TSEQ) }

/-- A scrub pass starts (R207). -/
def Device.scrubStart (d : Device) : Device :=
  if d.flag Reg.MRV_SCRUB_EN && d.mrv.scrub.isNone then d.scrubRegion 0 else d

/-- A slot is read with a region (R207): one of its buckets, or one of the overflow store whose entry is homed there. -/
def Device.inRegion (d : Device) (r j : Nat) : Bool :=
  if j < 1048576 then j / 16384 == r else (d.mrv.at j).any fun e => d.home e.key / 4096 == r

/-- A region read completes: its digest is published, and the next region or the end of the pass follows (R207). Only valid entries
count, so a slot that the read finds uncorrectable does not. -/
def Device.scrubDone (d : Device) : Device :=
  match d.mrv.scrub with
  | none => d
  | some (r, dig, tseq) =>
    let bad := d.readsBad (d.inRegion r)
    let d := d.readSlots (d.inRegion r)
    let dig := if bad then d.regionDigest r else dig
    let d := d.wr64 (Reg.MRV_DIGEST r) (dig + 2 ^ 32 * tseq)
    if r < 63 then d.scrubRegion (r + 1)
    else (d.onMrv fun m => { m with scrub := none }).inc Reg.MRV_SCRUB_PASSES

/-! ### Meanings -/

/-- The slots in error that an operand names. -/
def eccSlots (l : List (Bool × Fin 1056768)) : List (Bool × Nat) := l.map fun e => (e.1, e.2.val)

/-- INSERT (R194). -/
def execInsert (src : TblSrc) (cmd : TblCmd) (s : State) : Host.Outcome State Fault Refusal :=
  s.run (·.tblTake 1 src cmd.entry none true (eccSlots cmd.ecc))

/-- DELETE (R194). -/
def execDelete (src : TblSrc) (cmd : TblCmd) (s : State) : Host.Outcome State Fault Refusal :=
  s.run (·.tblTake 2 src cmd.entry none true (eccSlots cmd.ecc))

/-- SEARCH (R194). -/
def execSearch (src : TblSrc) (cmd : TblCmd) (memOk : Bool) (s : State) : Host.Outcome State Fault Refusal :=
  s.run (·.tblTake 3 src cmd.entry none memOk (eccSlots cmd.ecc))

/-- NEXT (R194). -/
def execNext (src : TblSrc) (cmd : TblCmd) (memOk : Bool) (s : State) : Host.Outcome State Fault Refusal :=
  s.run (·.tblTake 4 src cmd.entry none memOk (eccSlots cmd.ecc))

/-- FLUSH_PORT (R194). -/
def execFlushPort (src : TblSrc) (cmd : TblCmd) (s : State) : Host.Outcome State Fault Refusal :=
  s.run (·.tblTake 5 src cmd.entry none true (eccSlots cmd.ecc))

/-- BULK (R194). -/
def execBulk (src : TblSrc) (cmd : TblCmd) (arr : Option (List Byte)) (s : State) : Host.Outcome State Fault Refusal :=
  s.run (·.tblTake 6 src cmd.entry arr true (eccSlots cmd.ecc))

/-- SEED_CLEAR_DONE (R187). -/
def execSeedClearDone (s : State) : Host.Outcome State Fault Refusal := s.run (·.seedClear)

/-- AGE_TICK (R203). -/
def execAgeTick (s : State) : Host.Outcome State Fault Refusal := s.run (·.ageTick)

/-- AGE_SWEEP_VISIT (R204). -/
def execAgeSweepVisit (s : State) : Host.Outcome State Fault Refusal := s.run (·.ageVisit)

/-- LEARN_TOKEN_REFILL (R201). -/
def execLearnTokenRefill (s : State) : Host.Outcome State Fault Refusal := s.run (·.learnRefill)

/-- LEARN_NOTIFY_DELIVER (R202). -/
def execLearnNotifyDeliver (s : State) : Host.Outcome State Fault Refusal := s.run (·.learnDeliver)

/-- SCRUB_PASS_START (R207). -/
def execScrubPassStart (s : State) : Host.Outcome State Fault Refusal := s.run (·.scrubStart)

/-- SCRUB_REGION_DONE (R207). -/
def execScrubRegionDone (s : State) : Host.Outcome State Fault Refusal := s.run (·.scrubDone)

/-- AUDIT_BATCH_CLOSE (R208). -/
def execAuditBatchClose (s : State) : Host.Outcome State Fault Refusal := s.run (·.closeBatch)

end Sys2Proof.Machine
end

