-- ==== Sys2Proof/Machine/Rules.lean ====
section
/-!
DEFINITION. The rule table: its words and copies, the ternary lookup and the scrub (R166 to R174).
-/
namespace Sys2Proof.Machine

/-- Change the rule table. -/
def Device.onRules (d : Device) (f : Rules → Rules) : Device := { d with rules := f d.rules }

/-- Word `w` of rule `r`, words 0 to 43. -/
def Rules.wd (t : Rules) (r w : Nat) : Nat := (mget (fun _ => 0) t.word (64 * r + w)).toNat

/-- VALID of rule `r` in slice `s`. -/
def Rules.validIn (t : Rules) (s r : Nat) : Bool := (nget t.valid r).testBit s

/-- The key words 0 to 19 of a key (R163). -/
def keyWord (key w : Nat) : Nat := key / 2 ^ (32 * w) % 2 ^ 32

/-- A rule's VALUE and MASK match a key (R166). -/
def Rules.matches (t : Rules) (r key : Nat) : Bool :=
  (List.range 20).all fun w => (keyWord key w ^^^ t.wd r w) &&& t.wd r (20 + w) == 0

/-- The valid rule of lowest index that matches, among the banks of a lookup (R166). -/
def Device.ruleFind (d : Device) (s n key : Nat) : Option Nat :=
  (d.rules.valid.find? fun e => e.2.testBit s
    && bits (d.rd (Reg.CLS_BANK_MAP s)) (2 * (e.1 / 4096) + 1) (2 * (e.1 / 4096)) == n
    && d.rules.matches e.1 key).map (·.1)

/-- HIT counts a frame whose lookup selected the rule in this slice (R167). -/
def Device.ruleHit (d : Device) (s r : Nat) : Device :=
  d.onRules fun t => { t with hit := nset t.hit (65536 * s + r) ((nget t.hit (65536 * s + r) + 1) % 2 ^ 48) }

/-- The action of a rule (R168). -/
structure Action where
  fwd : Nat
  dest : Nat
  copyHost : Bool
  copySvc : Bool
  trap : Nat
  tc : Option Nat
  queue : Option Nat
  meter : Option Nat
  mir : Option Nat
  dscp : Option Nat
  pcp : Option Nat
  dei : Option Nat
  exp : Option Nat
  deriving DecidableEq, Repr

/-- A value with its enable bit. -/
def enabled (b : Bool) (v : Nat) : Option Nat := if b then some v else none

/-- Read the action of a rule (R168). -/
def Rules.action (t : Rules) (r : Nat) : Action :=
  let a := t.wd r 40
  let b := t.wd r 41
  let c := t.wd r 42
  { fwd := bits a 31 28, dest := bits a 27 12, copyHost := bit a 11, copySvc := bit a 10, trap := bits a 9 2,
    tc := enabled (bit b 31) (bits b 30 27), queue := enabled (bit b 26) (bits b 25 22),
    meter := enabled (bit b 21) (bits b 20 7), mir := enabled (bit b 6) (bits b 5 2),
    dscp := enabled (bit c 31) (bits c 30 25), pcp := enabled (bit c 24) (bits c 23 21),
    dei := enabled (bit c 20) (bits c 19 19), exp := enabled (bit c 18) (bits c 17 15) }

/-- A write of CONTROL with VALID 1 is rejected (R169). -/
def Action.bad (a : Action) : Bool :=
  decide (7 ≤ a.fwd) || (a.fwd == 2 && decide (515 < a.dest))
    || (decide (0xF0 ≤ a.trap) && (a.fwd == 4 || a.fwd == 5 || a.copyHost || a.copySvc))

/-- The digest of R172: words 0 to 43 and then word 63. -/
def Rules.digest (t : Rules) (r control : Nat) : Nat :=
  crc32c (((List.range 44).flatMap fun w => leBytes 4 (t.wd r w)) ++ leBytes 4 control)

/-- An uncorrectable error in the copy of a slice, found by the scrub (R174). -/
def Device.ruleBad (d : Device) (s r : Nat) : Device :=
  let v := nget d.rules.valid r
  let d := d.onRules fun t => { t with valid := nset t.valid r (setBit v s false) }
  let d := (d.put (Reg.CLS_STATUS_ECC_ERR s) true).set (Reg.CLS_STATUS_ECC_RULE s) r
  ((d.auditEvent 4 3 r s).eccBad 3).critical 1 3

/-- The scrub reads the copy of a rule: clean, corrected in place, or uncorrectable (R174). -/
def Device.ruleScrub (d : Device) (s r : Nat) (ecc : Option Bool) : Device :=
  match ecc with
  | none => d
  | some false => d.eccCorrected 3
  | some true => d.ruleBad s r

/-- RULE_SCRUB (R174). -/
def execRuleScrub (s : Fin 16) (r : Fin 65536) (ecc : Option Bool) (st : State) :
    Host.Outcome State Fault Refusal := st.run (·.ruleScrub s.val r.val ecc)

end Sys2Proof.Machine
end

