-- ==== Sys2Proof/Machine/Meter.lean ====
section
/-!
DEFINITION. Metering and colour (R223 to R243): the update of a meter by a frame or the sweep, and its words.
-/
namespace Sys2Proof.Machine

/-- Change the meters. -/
def Device.onMeters (d : Device) (f : Meters → Meters) : Device := { d with meters := f d.meters }

/-- Meter `m` of slice `s`. -/
def Device.meter (d : Device) (s m : Nat) : Meter := mget (fun _ => {}) d.meters.m (16384 * s + m)

/-- Store a meter. -/
def Device.setMeter (d : Device) (s m : Nat) (x : Meter) : Device :=
  d.onMeters fun t => { t with m := mset (fun _ => {}) t.m (16384 * s + m) x }

/-- The meter time (R229): 5 ns, modulo 2³². -/
def Device.meterNow (d : Device) : Nat := d.clock / 8 % 2 ^ 32

/-- Token units of a byte (R229). -/
def tokenUnits : Nat := 200000

/-- `fill` of R229, by type. -/
def Meter.fill (x : Meter) (type el : Nat) : Meter :=
  let cmax := x.cbs * tokenUnits
  let emax := x.ebs * tokenUnits
  let c := x.c + x.cir * el
  let excess := c - cmax
  let e := match type with
    | 0 => x.e + excess
    | 1 => x.e + x.eir * el
    | 2 => x.e + x.eir * el
    | _ => x.e + x.eir * el + excess
  { x with c := min c cmax, e := min emax e }

/-- The colouring of R229 of a frame of weight `b` token units: the colour, and the meter after it. -/
def Meter.colour (x : Meter) (type b incolour : Nat) : Nat × Meter :=
  if type = 1 then
    if incolour = 2 ∨ x.e < b then (2, x)
    else if incolour = 1 ∨ x.c < b then (1, { x with e := x.e - b })
    else (0, { x with c := x.c - b, e := x.e - b })
  else if incolour = 0 ∧ b ≤ x.c then (0, { x with c := x.c - b })
  else if incolour ≠ 2 ∧ b ≤ x.e then (1, { x with e := x.e - b })
  else (2, x)

/-- A meter whose last commit gave it time to run: filled up to `now`. -/
def Device.meterFill (d : Device) (s : Nat) (x : Meter) : Meter :=
  let now := d.meterNow
  { x.fill (d.get (Reg.MTR_PROF_CFG_TYPE s x.prof)) ((now + 2 ^ 32 - x.last) % 2 ^ 32) with last := now }

/-- The weight of a frame of length `l` in bytes: max(1, l + overhead) (R229, R233). -/
def Device.meterWeight (d : Device) (s prof l : Nat) : Nat :=
  (max 1 ((l : Int) + signed 8 (d.get (Reg.MTR_PROF_CFG_OVERHEAD s prof)))).toNat

/-- Count a frame of a colour and its bytes (R233): 48 bits, wrapping. -/
def Meter.count (x : Meter) (colour bytes : Nat) : Meter :=
  let n := x.cnt
  let up := fun i v => (n.getD i 0 + v) % 2 ^ 48
  { x with cnt := (n.set (2 * colour) (up (2 * colour) 1)).set (2 * colour + 1) (up (2 * colour + 1) bytes) }

/-- The update of a meter by a frame of length `l` (R229): the colour. -/
def Device.meterFrame (d : Device) (s m l incolour : Nat) : Nat × Device :=
  let x := d.meterFill s (d.meter s m)
  let w := d.meterWeight s x.prof l
  let inc := if d.flag (Reg.MTR_PROF_CFG_AWARE s x.prof) then (if incolour = 3 then 2 else incolour) else 0
  let (col, x) := x.colour (d.get (Reg.MTR_PROF_CFG_TYPE s x.prof)) (w * tokenUnits) inc
  (col, d.setMeter s m (x.count col w))

/-- Index of a port's registers in the slice that parses its frames (R180). -/
def portIdx (p : Nat) : Nat := if 512 ≤ p then 32 + (p - 512) else p % 32

/-- The input colour of a frame (R227). -/
def Device.inColour (d : Device) (f : Frame) : Nat :=
  let s := sliceOf f.src
  let c := match f.parse.jarlis with
    | some h => h.colour
    | none =>
      match d.get (Reg.MTR_PORT_PRECOLOUR s (portIdx f.src)), f.parse.tags.head? with
      | 1, some t => b2n (bit t.tci 12)
      | 2, some t =>
        let p := t.tci / 8192
        bits (d.get (Reg.MTR_PORT_PCP_COLOUR s (portIdx f.src))) (2 * p + 1) (2 * p)
      | _, _ => 0
  if c = 3 then 2 else c

/-- The action word of a colour (R239). -/
def Device.meterAction (d : Device) (s prof colour : Nat) : Nat :=
  if colour = 0 then d.rd (Reg.MTR_PROF_ACT_G s prof)
  else if colour = 1 then d.rd (Reg.MTR_PROF_ACT_Y s prof)
  else d.rd (Reg.MTR_PROF_ACT_R s prof)

/-- Count a slice meter statistic (R243). -/
def Device.mtrStat (d : Device) (s i : Nat) : Device := d.inc (Reg.MTR_STAT_COUNT s i)

/-- An uncorrectable error in the state of a meter (R237). -/
def Device.meterBad (d : Device) (s m : Nat) : Device :=
  let d := d.setMeter s m { d.meter s m with bad := true }
  let d := (d.put (Reg.MTR_STATUS_ECC_ERR s) true).set (Reg.MTR_STATUS_ECC_METER s) m
  (d.auditEvent 4 5 m s).eccBad 5

/-- The update reads the meter: what its ECC shows (R237): nothing, a corrected error, an uncorrectable one. -/
def Device.meterEcc (d : Device) (s m : Nat) (ecc : Option Bool) : Device :=
  match ecc with
  | none => d
  | some false => d.eccCorrected 5
  | some true => d.meterBad s m

/-- The sweep visits a meter (R230). -/
def Device.meterSweep (d : Device) (s m : Nat) (ecc : Option Bool) : Device :=
  let d := d.meterEcc s m ecc
  let x := d.meter s m
  if x.bad then d else d.setMeter s m (d.meterFill s x)

/-! ### The words of a meter (R233, R234) -/

/-- The words of a meter. -/
def Meter.words (x : Meter) : List Nat :=
  let lo := fun v => v % 2 ^ 32
  let hi := fun v => v / 2 ^ 32 % 2 ^ 16
  [x.cir, x.eir, 2 ^ 24 * x.prof + x.cbs, x.ebs, lo x.c, hi x.c, lo x.e, hi x.e, x.last, 0, 0, 0, 0, 0, 0, 0]
    ++ (x.cnt.flatMap fun v => [lo v, hi v]) ++ [0, 0, 0, 0]

/-- The staging copy of a slice's window. -/
def Device.meterStage (d : Device) (s : Nat) : List Nat := mget (fun _ => [0, 0, 0]) d.meters.stage s

/-- Words 0 to 2 go to the staging copy. -/
def Device.meterStageWrite (d : Device) (s w v : Nat) : Device :=
  let v := if w < 2 then v % 2 ^ 28 else if bit v 30 then v - 2 ^ 30 else v
  d.onMeters fun t => { t with stage := mset (fun _ => [0, 0, 0]) t.stage s ((d.meterStage s).set w v) }

/-- Word 3 commits words 0 to 3 (R234). -/
def Device.meterCommit (d : Device) (s m w3 : Nat) : Device :=
  let st := d.meterStage s
  let w2 := st.getD 2 0
  let x := d.meter s m
  let y : Meter := { x with cir := st.getD 0 0, eir := st.getD 1 0, prof := bits w2 29 24, cbs := w2 % 2 ^ 24,
                            ebs := w3 % 2 ^ 24, fresh := false, bad := false }
  let y := if x.fresh || x.bad || bit w2 31 then
      { y with c := y.cbs * tokenUnits, e := y.ebs * tokenUnits, last := d.meterNow } else y
  let d := d.setMeter s m y
  d.onMeters fun t => { t with stage := mset (fun _ => [0, 0, 0]) t.stage s (st.set 2 (w2 % 2 ^ 30)) }

/-- An even word of a 48-bit field is held (R234). -/
def Device.meterHold (d : Device) (s w v : Nat) : Device :=
  d.onMeters fun t => { t with even := nset t.even (32 * s + w) v }

/-- The odd word of a 48-bit field loads the field, and word 8 loads LAST (R234). -/
def Device.meterLoad (d : Device) (s m w v : Nat) : Device :=
  let val := nget d.meters.even (32 * s + (w - 1)) + 2 ^ 32 * (v % 2 ^ 16)
  let x := d.meter s m
  d.setMeter s m (if w = 8 then { x with last := v } else if w = 5 then { x with c := val } else if w = 7 then { x with e := val }
    else { x with cnt := x.cnt.set ((w - 17) / 2) val })

/-- The word of a meter that its window shows; a read of word 0 latches all 32 (R233). -/
def Device.meterRead (d : Device) (s m w : Nat) : Nat × Device :=
  let d := if w = 0 then d.onMeters fun t => { t with latch := lset t.latch s (d.meter s m).words } else d
  ((lget d.meters.latch s).getD w 0, d)

/-- METER_SWEEP (R230). -/
def execMeterSweep (s : Fin 16) (m : Fin 16384) (ecc : Option Bool) (st : State) :
    Host.Outcome State Fault Refusal := st.run (·.meterSweep s.val m.val ecc)

end Sys2Proof.Machine
end

