-- ==== Sys2Proof/Machine/Pipeline.lean ====
section
/-!
DEFINITION. The slice pipeline: taking, parsing, lookup, metering, edit, header capture and admission of frames (R20 to
R29, R161, R162, R170, R190, R191, R224 to R232, R245, R249 to R253, R285, R289 to R292, R331, R332, R340, R341, R414), with
the meanings of its commands.
-/
namespace Sys2Proof.Machine

/-! ### Taking frames (R22, R40, R137, R245) -/

/-- The requesters of a slice: its four tiles, and in slice 0 the internal ports. -/
def requesters (s : Nat) : Nat := if s = 0 then 5 else 4

/-- The list that requester `r` of slice `s` offers: a tile's ready list, or the first internal port with frames, 513 ahead
of 512 ahead of 514 (R40). The number is the port of an internal list, 0 for a tile. -/
def Device.offered (d : Device) (s r : Nat) : Nat × List Frame :=
  if r < 4 then (0, lget d.path.ready (4 * s + r))
  else match [513, 512, 514].find? fun p => !(lget d.path.intReady p).isEmpty with
    | some p => (p, lget d.path.intReady p)
    | none => (512, [])

/-- A frame's stitch count as received (R19). -/
def Frame.need (f : Frame) : Nat := stitchCount (f.bytes.length + 4)

/-- The slice takes a frame: its Gather blocks are freed and its stitches taken. A frame from port 513 is a control frame
(R250). -/
def Device.takeFrame (d : Device) (s r ip : Nat) (f : Frame) : Device :=
  let d := d.onPath fun p =>
    if r < 4 then { p with ready := lset p.ready (4 * s + r) ((lget p.ready (4 * s + r)).drop 1) }
    else { p with intReady := lset p.intReady ip ((lget p.intReady ip).drop 1) }
  let n := f.need
  let (st, d) := (d.freeBlocks f.src f.bytes f.blkR f.blkS).takeStitches n
  let g := { f with stitches := st, n := n, charge := .flight s, blkR := 0, blkS := 0, control := f.control || f.src == 513,
                    sfd := if f.src < 512 then f.sfd else d.ft }
  ((d.flightAdd s n).onPipe s fun p => { p with taken := p.taken ++ [g] }).pmc 0xA s

/-- Take up to `k` frames of requester `r`; a frame that finds no stitches makes the requester the one waited for. -/
def takeFrom (s r : Nat) : Nat → Nat → Device → Nat × Device
  | 0, n, d => (n, d)
  | k + 1, n, d =>
    match d.offered s r with
    | (_, []) => (n, d)
    | (ip, f :: _) =>
      if 1024 < d.flight s + f.need ∨ d.physFree < f.need then
        (n, d.onPath fun p => { p with starved := mset (fun _ => none) p.starved s (some r) })
      else
        let d := d.onPath fun p => { p with starved := mset (fun _ => none) p.starved s none }
        takeFrom s r k (n + 1) (d.takeFrame s r ip f)

/-- One clock of a slice pipeline's arbitration: up to 4 frames, at most 2 of a requester (R22). The pointer moves past the
requester served first; in a clock that serves none it stays. -/
def Device.pipelineTake (d : Device) (s : Nat) : Device :=
  let n := requesters s
  let start := nget d.path.pptr s
  let waited := mget (fun _ => none) d.path.starved s
  let rot := (List.range n).map fun i => (start + i) % n
  let order := match waited with | some b => b :: rot.filter (· != b) | none => rot
  let (k, first, d) := order.foldl (fun (a : Nat × Option Nat × Device) r =>
    let (k, first, d) := a
    match mget (fun _ => none) d.path.starved s with
    | some b => if b = r then
        let (k', d) := takeFrom s r (min 2 (4 - k)) 0 d
        (k + k', if first.isNone && decide (0 < k') then some r else first, d)
      else a
    | none =>
      let (k', d) := takeFrom s r (min 2 (4 - k)) 0 d
      (k + k', if first.isNone && decide (0 < k') then some r else first, d)) (0, none, d)
  let d := if k < 4 then d.pmc 0xB s else d
  match first with
  | some r => d.onPath fun p => { p with pptr := nset p.pptr s ((r + 1) % n) }
  | none => d

/-! ### Discards before admission -/

/-- Reasons whose frames still give their ingress mirror copy (R289). -/
def mirrorReasons : List Nat := [7, 8, 9, 10, 11, 12, 13]

/-- The stitch header of a frame from its decision (R27, R414). -/
def Device.headerOf (d : Device) (f : Frame) : Hdr :=
  let c := f.dec
  let (dtype, dest) := match c.dest with | .port p => (0, p) | .group g => (1, g) | .drop _ => (0, 0)
  let ptp := if f.src = 512 ∨ f.src = 513 then c.ptp
    else if f.src = 514 ∨ (dtype = 0 ∧ (dest = 512 ∨ dest = 513)) ∨ !f.parse.ptp then 0
    else match ptpPlace f.bytes f.jh f.parse.tpidX with
      | none => 0
      | some (o, _) =>
        if byteAt f.bytes (o + 1) % 16 ≠ 2 ∨ 4 ≤ byteAt f.bytes o % 16 then 0
        else
          let m := d.get (Reg.TIM_PORT_DLY_TC_MODE f.src)
          if m = 1 ∨ (m = 2 ∧ byteAt f.bytes o % 16 ≤ 1) then 2 else 0
  { len := f.bytes.length + 4, src := f.src, tc := c.tc, colour := c.colour, dtype := dtype, dest := dest, queue := c.queue,
    epoch := if dtype = 0 then f.hdr.epoch else 0, ptp := ptp, tsSec := tmSec f.sfd % 4, tsNs := tmNs f.sfd,
    mirSession := c.mir.getD 0, mirEn := c.mir.isSome, gver := if dtype = 1 then d.groupCur dest else 0 }

/-- A copy to an internal port (R170, R225): a frame of its own that shares the original's stitches. -/
def Device.hostCopy (d : Device) (s : Nat) (f : Frame) (port code : Nat) : Device :=
  let bs := if f.jh then f.bytes.drop 16 else f.bytes
  let n := stitchCount (bs.length + 4)
  let (id, d) := d.freshId
  let st := f.stitches.take n
  let h := { d.headerOf f with
    len := bs.length + 4, dtype := 0, dest := port, epoch := d.epoch port, ptp := 0, gver := 0, mirEn := false }
  let g := { f with id := id, bytes := bs, jh := false, stitches := st, n := n, hdr := h, charge := .none, isCopy := true,
                    mirror := none, ckind := 2, ccode := code, cslice := s, clen := bs.length, ctx := none, inj := none,
                    stampTo := none }
  (d.each st fun d i => d.refStitch i).onPipe s fun p => { p with captured := p.captured ++ [g] }

/-- The copies a decision asks for. -/
def Device.hostCopies (d : Device) (s : Nat) (f : Frame) : Device :=
  let d := match f.dec.copyHost with | some c => d.hostCopy s f 512 c | none => d
  match f.dec.copySvc with | some c => d.hostCopy s f 513 c | none => d

/-- Stitches that the first `n` stored bytes reach into (R291). -/
def storedStitches (n : Nat) : Nat := if n ≤ 192 then 1 else 1 + (n - 192 + 255) / 256

/-- A mirror copy of session `m` (R291, R292); `port` is the port of the mirrored frame. -/
def Device.mirrorFrame (d : Device) (s : Nat) (f : Frame) (m port : Nat) : Frame × Device :=
  let kind := d.get (Reg.MIR_SESSION_W0_KIND m)
  let trunc := d.get (Reg.MIR_SESSION_W0_TRUNC m)
  let tpl := if kind = 2 then min 64 (d.get (Reg.MIR_SESSION_W1_TPL_LEN m)) else 0
  let bs := if trunc = 0 then f.bytes else f.bytes.take (64 * trunc)
  let bs := if kind = 2 then bs.take (16379 - tpl) else bs
  let len := tpl + bs.length + 4
  let dest := if kind = 3 then 515 else d.get (Reg.MIR_SESSION_W0_DEST m)
  let col := d.get (Reg.MIR_SESSION_W0_COLOUR m)
  let (id, d) := d.freshId
  let st := f.stitches.take (storedStitches bs.length)
  let h := { f.hdr with len := len, dtype := 0, dest := dest, queue := d.get (Reg.MIR_SESSION_W0_QUEUE m),
                        colour := if col = 3 then 2 else col, epoch := d.epoch dest, ptp := 0, mirSession := m, mirEn := true,
                        gver := 0 }
  ({ f with id := id, bytes := bs, stitches := st, n := stitchCount len, hdr := h, charge := .none, isCopy := true,
            mirror := some port, ckind := 3, ccode := m, cslice := s, clen := bs.length, ctx := none, inj := none,
            stampTo := none }, d.each st fun d i => d.refStitch i)

/-- A candidate of session `m`: whether a copy is made (R290). -/
def Device.mirrorCandidate (d : Device) (m : Nat) : Bool × Device :=
  if d.get (Reg.MIR_SESSION_W0_KIND m) = 0 then (false, d)
  else
    let n := nget d.path.mirCnt m
    let d := d.onPath fun p => { p with mirCnt := nset p.mirCnt m (n + 1) }
    if n % 2 ^ d.get (Reg.MIR_SESSION_W0_SAMPLE m) = 0 then (true, d) else (false, d.inc (Reg.MIR_STAT_COUNT m 1))

/-- The session of the ingress copy that a frame gives, if one is made (R289, R290). -/
def Device.mirrorTake (d : Device) (f : Frame) : Option Nat × Device :=
  match f.dec.mir with
  | none => (none, d)
  | some m => let (take, d) := d.mirrorCandidate m; (if take then some m else none, d)

/-- The ingress mirror copy of a frame (R289), from its header as it stands. -/
def Device.ingressMirror (d : Device) (s : Nat) (f : Frame) (m : Option Nat) : Device :=
  match m with
  | none => d
  | some m =>
    let (g, d) := d.mirrorFrame s f m f.src
    d.onPipe s fun p => { p with captured := p.captured ++ [g] }

/-- A frame is discarded in the pipeline: after lookup its copies are still made (R170, R232, R289), before it the frame keeps its
input colour (R224); an inject entry completes with the reason (R497). -/
def Device.dropPipe (d : Device) (s : Nat) (f : Frame) (reason : Nat) (looked : Bool) : Device :=
  let f := { f with hdr := if looked then d.headerOf f
                          else { f.hdr with src := f.src, colour := d.inColour f, tsSec := tmSec f.sfd % 4,
                                            tsNs := tmNs f.sfd } }
  let d := if looked then d.hostCopies s f else d
  let (m, d) := if looked && mirrorReasons.contains reason then d.mirrorTake f else (none, d)
  let d := d.ingressMirror s f m
  (d.dropIngress f s reason).injDone f (some reason)

/-! ### Parse (R160 to R162, R331, R341) -/

/-- Descriptors in use in a slice (R340, R359). -/
def Device.descUsed (d : Device) (s : Nat) : Nat :=
  (d.jarlis.ctx.map fun e =>
    if d.get (Reg.JFL_TRUNK_CFG_SLICE (e.1 / 16)) = s then e.2.slots.length else 0).sum

/-- The check of R341 by context `k`: the Cullet reason of a discard, if any. -/
def Device.reseqCheck (d : Device) (s t : Nat) (h : JHdr) : Option Nat × Device :=
  let d := d.inc (Reg.JFL_STAT_COUNT 0)
  let k := 16 * t + h.tc
  let rx := d.get (Reg.JFL_TRUNK_STATUS_RX_EPOCH t)
  if h.epoch ≠ rx ∧ h.epoch ≠ (rx + 3) % 4 then (some 28, d)
  else
    let d := if (d.ctx k).based then d else d.onCtx k fun c => { c with next := h.seq, based := true, skip := [] }
    let c := d.ctx k
    let dist := seqDist c.next h.seq
    if 2 ^ 23 ≤ dist ∨ c.occupied h.seq ∨ c.skipped h.seq then (some 28, d)
    else
      let d := if 32768 ≤ dist then
          (d.onCtx k fun c => c.skipFrom c.next (dist - 32768 + 1)).inc (Reg.JFL_STAT_COUNT 4)
        else d
      if 65536 ≤ d.descUsed s then (some 29, d)
      else (none, d.onCtx k fun c => { c with slots := mset (fun _ => none) c.slots h.seq (some ⟨1, d.clock / 8, none⟩) })

/-- A logical port that a route names (R334). -/
def Device.route (d : Device) (dev : Nat) : Option Nat :=
  let p := d.get (Reg.JFL_ROUTE_LPORT dev)
  if d.flag (Reg.JFL_ROUTE_VALID dev) && decide (p < 512) && d.jarlisPort p then some p else none

/-- DRIFT for a frame that the check discards: for the port or group that its header names. DESIGN CHOICE: for every port where only a
lookup would tell (R331, R387). -/
def Device.reseqDrift (d : Device) (f : Frame) (h : JHdr) : Device :=
  if h.type = 1 then d.driftTo { f.hdr with dtype := 1, dest := h.dest, gver := d.groupCur h.dest }
  else if h.dest = 0xFFFF then d.driftAll f.hdr
  else if h.dstDev = d.get Reg.JFL_CFG_DEVID then d.driftTo { f.hdr with dtype := 0, dest := h.dest }
  else match d.route h.dstDev with
    | some p => d.driftTo { f.hdr with dtype := 0, dest := p }
    | none => d

/-- What the Jarlis header check makes of a frame (R331): a discard, consumption, a management frame for the agent or in
transit, or a frame that goes on. -/
inductive JCheck where
  | drop (reason : Nat)
  | consume
  | agent
  | transitMgmt
  | go
  deriving DecidableEq, Repr

/-- The checks of R331 and R329. -/
def Device.jarlisCheck (d : Device) (f : Frame) (h : JHdr) : JCheck :=
  let own := d.get Reg.JFL_CFG_DEVID
  if h.ver ≠ 1 ∨ h.type = 3 ∨ (h.type = 0 ∧ 512 ≤ h.dest ∧ h.dest ≤ 0xFFFD) ∨ (h.type = 2 ∧ byteAt f.bytes 16 ≠ 1)
      ∨ h.srcDev = own then .drop 30
  else if h.type = 2 then .consume
  else if h.type = 0 ∧ h.dest = 0xFFFE then (if h.dstDev = own then .agent else .transitMgmt)
  else .go

/-- The default TC of a frame (R162). -/
def Device.defaultTc (d : Device) (s : Nat) (f : Frame) : Nat :=
  let j := portIdx f.src
  let p := f.parse
  let dflt := d.get (Reg.CLS_PORT_DEF_TC s j)
  match p.jarlis with
  | some h => h.tc
  | none =>
    match d.get (Reg.CLS_PORT_TRUST s j) with
    | 1 => match p.tags.head? with
      | some t => let c := t.tci / 8192; bits (d.rd (Reg.CLS_PCP_MAP s j)) (4 * c + 3) (4 * c)
      | none => dflt
    | 2 => match p.l3 (d.flag (Reg.CLS_LOOKUP_CFG_HDRSEL s 0) && p.tunnel) with
      | some l =>
        let m := d.get (Reg.CLS_PORT_DSCP_MAP s j)
        bits (d.rd (Reg.CLS_DSCP_MAP s m (l.dscp / 8))) (4 * (l.dscp % 8) + 3) (4 * (l.dscp % 8))
      | none => dflt
    | _ => dflt

/-- A frame consumed at the check waits for its command; its stitches return (R331, R350). -/
def Device.consume (d : Device) (f : Frame) : Device :=
  let d := (d.releaseFrame f).slotDone f
  d.onJfl fun j => { j with awaiting := j.awaiting ++ [{ f with stitches := [], n := 0, charge := .none, ctx := none }] }

/-- A parsed frame goes to lookup with its default class. -/
def Device.toLookup (d : Device) (s : Nat) (f : Frame) : Device :=
  d.onPipe s fun p => { p with parsed := p.parsed ++ [f] }

/-- The outcome's action (R161), on a frame that passed the header checks. -/
def Device.parseAction (d : Device) (s : Nat) (f : Frame) : Device :=
  let o := f.parse.outcome
  let act := if o = 0 then 0 else bits (d.rd (Reg.PRS_OUTCOME_ACT s)) (2 * o + 1) (2 * o)
  let tc := d.defaultTc s f
  let mir := if d.flag (Reg.MIR_PORT_ING_EN f.src) then some (d.get (Reg.MIR_PORT_ING_SESSION f.src)) else none
  let f := { f with dec := { f.dec with tc := tc, queue := tc, mir := mir } }
  if act = 0 then d.toLookup s f
  else if act = 2 then
    d.toLookup s { f with dec := { f.dec with dest := .port 512, trap := 0xF0 + o }, trapCode := 0xF0 + o }
  else d.dropPipe s f (if o ≤ 5 then 5 else 6) false

/-- The parser reads the front frame of a slice. -/
def Device.frameParse (d : Device) (s : Nat) : Device :=
  match (d.pipe s).taken with
  | [] => d
  | f :: rest =>
    let d := d.onPipe s fun p => { p with taken := rest }
    let i : ParseIn := ⟨f.bytes, d.get (Reg.PRS_CFG_TPID_X s), d.get (Reg.PRS_CFG_VXLAN_PORT2 s)⟩
    let f := { f with parse := i.run f.jh, cslice := s, clen := f.bytes.length }
    if f.fixed then d.toLookup s f
    else
      let d := d.inc (Reg.PRS_STAT_COUNT s f.parse.outcome)
      match f.parse.jarlis with
      | none => d.parseAction s f
      | some h =>
        let d := d.when (h.srcDev == d.get Reg.JFL_CFG_DEVID) fun d =>
          (d.put Reg.JFL_STATUS_DUP_SEEN true).set Reg.JFL_STATUS_PORT f.src
        match d.jarlisCheck f h with
        | .drop r => d.dropPipe s f r false
        | .consume => d.consume f
        | c =>
          let (bad, f, d) :=
            if h.seqValid && decide (h.type ≤ 1) then
              match d.attached f.src with
              | some t =>
                if d.trunkEn t then
                  let (r, d) := d.reseqCheck s t h
                  (r, { f with ctx := if r.isNone then some (16 * t + h.tc, h.seq) else none }, d)
                else (none, f, d)
              | none => (none, f, d)
            else (none, f, d)
          match bad with
          | some r => (d.reseqDrift f h).dropPipe s f r false
          | none =>
            match c with
            | .agent => d.consume f
            | .transitMgmt =>
              d.toLookup s { f with fixed := true, dec := { f.dec with tc := h.tc, queue := 15, transit := true,
                                                                       colour := d.inColour f } }
            | _ => d.parseAction s f

/-! ### Lookup (R162 to R170, R190, R191) -/

/-- A Marver result of type port, group or drop as a decision (R189, R191, R334). -/
def Device.mrvHit (d : Device) (r : Nat) (c : Decision) : Decision :=
  let c := { c with tc := (enabled (bit r 45) (bits r 44 41)).getD c.tc,
                    queue := (enabled (bit r 40) (bits r 39 36)).getD c.queue,
                    meter := (enabled (bit r 35) (bits r 34 21)).or c.meter }
  if resType r = 1 then { c with dest := .group (resDest r) }
  else if resType r = 2 then { c with dest := .drop 8 }
  else if resRemote r && resDev r != d.get Reg.JFL_CFG_DEVID then
    match d.route (resDev r) with
    | some p => { c with dest := .port p, remote := some (resDev r, resDest r) }
    | none => { c with dest := .drop 31 }
  else { c with dest := .port (resDest r) }

/-- Flood (R191). -/
def Device.flood (d : Device) (vid : Nat) (c : Decision) : Decision × Device :=
  if d.flag (Reg.MRV_VLAN_FLOOD_EN vid) then
    ({ c with dest := .group (d.get (Reg.MRV_VLAN_FLOOD_GROUP vid)) }, d.mrvStat 3)
  else ({ c with dest := .drop 9 }, d)

/-- L3 miss (R191). -/
def Device.l3Miss (d : Device) (src : Nat) (c : Decision) : Decision × Device :=
  let d := d.mrvStat 13
  if d.flag (Reg.MRV_PORT_L3_MISS_TRAP src) then ({ c with dest := .port 512, trap := 0xFA }, d)
  else ({ c with dest := .drop 10 }, d)

/-- The key of the second lookup (R190). -/
def Device.l3Key (d : Device) (f : Frame) : Option (List Byte) :=
  let p := f.parse
  let vrf := d.get (Reg.MRV_PORT_VRF f.src)
  if p.kind false = 3 then p.lses.head?.map fun e => keyMpls (e / 4096)
  else p.outer.map fun l => if l.v6 then keyIp6 vrf l.dip else keyIp4 vrf l.dip

/-- The Marver result of a frame (R191). -/
def Device.marverResult (d : Device) (f : Frame) (vid : Nat) (c : Decision) : Decision × Device :=
  if f.parse.da = 0xFFFFFFFFFFFF then d.flood vid c
  else
    let (o, d) := d.mrvLookup (keyL2 (d.get (Reg.MRV_VLAN_FID vid)) f.parse.da)
    match o with
    | none => d.flood vid c
    | some (_, e) =>
      if resType e.result ≠ 3 then (d.mrvHit e.result c, d)
      else if !d.flag (Reg.MRV_PORT_L3_EN f.src) then d.flood vid c
      else match d.l3Key f with
        | none => d.l3Miss f.src c
        | some k =>
          let (o, d) := d.mrvLookup k
          match o with
          | some (_, e) => if resType e.result = 3 then d.l3Miss f.src c else (d.mrvHit e.result c, d)
          | none => d.l3Miss f.src c

/-- The result of a Jarlis header in place of the Marver result (R331). -/
def Device.headerResult (d : Device) (f : Frame) (vid : Nat) (c : Decision) : Decision × Device :=
  match f.parse.jarlis with
  | none => d.marverResult f vid c
  | some h =>
    if h.type = 1 then ({ c with dest := .group h.dest }, d)
    else if h.dest = 0xFFFF then d.marverResult f vid c
    else if h.dstDev = d.get Reg.JFL_CFG_DEVID then ({ c with dest := .port h.dest }, d)
    else match d.route h.dstDev with
      | some p => ({ c with dest := .port p, transit := true }, d)
      | none => ({ c with dest := .drop 31 }, d)

/-- The rule that lookup `n` selects for a frame (R164, R166). -/
def Device.ruleLookup (d : Device) (s n : Nat) (f : Frame) : Option Nat :=
  let p := f.parse
  let inner := d.flag (Reg.CLS_LOOKUP_CFG_HDRSEL s n) && p.tunnel
  let lay := match p.kind inner with
    | 1 => d.get (Reg.CLS_LOOKUP_CFG_L_V4 s n)
    | 2 => d.get (Reg.CLS_LOOKUP_CFG_L_V6 s n)
    | 3 => d.get (Reg.CLS_LOOKUP_CFG_L_MPLS s n)
    | _ => d.get (Reg.CLS_LOOKUP_CFG_L_OTHER s n)
  if 4 ≤ lay then none
  else d.ruleFind s n (p.key lay f.src (d.get (Reg.CLS_PORT_PORT_CLASS s (portIdx f.src))) inner)

/-- A rule hit over the decision so far (R170). `inner` is the lookup's HDRSEL. -/
def Decision.overlay (c : Decision) (mrv : Decision) (a : Action) (inner : Bool) : Decision :=
  let c := { c with tc := a.tc.getD c.tc, queue := a.queue.getD c.queue, meter := a.meter.or c.meter,
                    mir := a.mir.or c.mir, dscp := a.dscp.or c.dscp, pcp := a.pcp.or c.pcp, dei := a.dei.or c.dei,
                    exp := a.exp.or c.exp, dscpIn := if a.dscp.isSome then inner else c.dscpIn,
                    copyHost := if a.copyHost then some a.trap else c.copyHost,
                    copySvc := if a.copySvc then some a.trap else c.copySvc }
  let fwd := fun (x : Dest) (t : Nat) => { c with dest := x, trap := t, remote := none, transit := false }
  match a.fwd with
  | 1 => fwd (.drop 7) 0
  | 2 => fwd (.port a.dest) 0
  | 3 => fwd (.group a.dest) 0
  | 4 => fwd (.port 512) a.trap
  | 5 => fwd (.port 513) a.trap
  | 6 => { c with dest := mrv.dest, trap := mrv.trap, remote := mrv.remote, transit := mrv.transit }
  | _ => c

/-- The decision of a frame from its Marver result and the four lookups (R170). -/
def Device.merge (d : Device) (s : Nat) (f : Frame) (mrv : Decision) : Decision × Device :=
  let hits := (List.range 4).map fun n => (n, d.ruleLookup s n f)
  hits.foldl (fun (a : Decision × Device) h =>
    match h.2 with
    | none => a
    | some r => (a.1.overlay mrv (a.2.rules.action r) (d.flag (Reg.CLS_LOOKUP_CFG_HDRSEL s h.1)), a.2.ruleHit s r)) (mrv, d)

/-- A frame leaves lookup with its decision: discarded, or with the epoch of its destination (R27). -/
def Device.looked (d : Device) (s : Nat) (f : Frame) : Device :=
  match f.dec.dest with
  | .drop r => d.dropPipe s { f with dec := { f.dec with colour := d.inColour f } } r true
  | .port p =>
    (d.when f.dec.transit fun d => d.inc (Reg.JFL_STAT_COUNT 7)).onPipe s fun x =>
      { x with looked := x.looked ++ [{ f with hdr := { f.hdr with epoch := d.epoch p, dest := p, dtype := 0 } }] }
  | .group g => d.onPipe s fun x =>
      { x with looked := x.looked ++ [{ f with hdr := { f.hdr with epoch := 0, dest := g, dtype := 1 } }] }

/-- The lookups of the front parsed frame of a slice. -/
def Device.frameLookup (d : Device) (s : Nat) (ecc : Option (Bool × Nat)) : Device :=
  match (d.pipe s).parsed with
  | [] => d
  | f :: rest =>
    let d := d.onPipe s fun p => { p with parsed := rest }
    if f.fixed then
      match f.parse.jarlis, f.dec.transit with
      | some h, true =>
        let c := match d.route h.dstDev with
          | some p => { f.dec with dest := .port p }
          | none => { f.dec with dest := .drop 31 }
        d.looked s { f with dec := c }
      | _, _ => d.looked s f
    else if f.trapCode ≠ 0 then d.looked s f
    else
      let d := d.each ecc.toList Device.mrvEcc
      let vid := d.vidOf f.parse f.src
      let d := d.learnFrame f vid
      let (mrv, d) := d.headerResult f vid f.dec
      let (c, d) := d.merge s f mrv
      d.looked s { f with dec := c, trapCode := c.trap }

/-! ### Meter (R224, R227, R232) -/

/-- The remarks of an action word (R232) over those of the rules; whether a colour remark is applied to a header the frame
has. -/
def Device.colourRemarks (d : Device) (s : Nat) (f : Frame) (w : Nat) : Decision × Bool :=
  let c := f.dec
  let inner := d.flag (Reg.CLS_LOOKUP_CFG_HDRSEL s 0)
  let dei := bits w 30 29
  let setDei := dei == 1 || dei == 2
  let c' := { c with dei := if setDei then some (dei - 1) else c.dei,
                     pcp := (enabled (bit w 28) (bits w 27 25)).or c.pcp,
                     dscp := (enabled (bit w 24) (bits w 23 18)).or c.dscp,
                     dscpIn := if bit w 24 then inner else c.dscpIn }
  let applied := ((setDei || bit w 28) && !f.parse.tags.isEmpty)
    || (bit w 24 && (f.parse.l3 (inner && f.parse.tunnel)).isSome)
  (c', applied)

/-- The meter step of a frame with a meter: colour, drop, remarks. -/
def Device.metered (d : Device) (s m : Nat) (f : Frame) : Device :=
  let (col, d) := d.meterFrame s m (f.clen + 4) (d.inColour f)
  let f := { f with dec := { f.dec with colour := col } }
  let d := d.mtrStat s col
  let w := d.meterAction s (d.meter s m).prof col
  if col ≠ 0 ∧ bit w 31 then
    (d.mtrStat s (if col = 1 then 3 else 4)).dropPipe s f (if col = 1 then 11 else 12) true
  else
    let (c, applied) := d.colourRemarks s f w
    let d := d.when applied fun d => (d.mtrStat s 6).driftTo (d.headerOf f)
    d.onPipe s fun p => { p with metered := p.metered ++ [{ f with dec := c }] }

/-- The meter step of the front frame of a slice. -/
def Device.meterUpdate (d : Device) (s : Nat) (ecc : Option Bool) : Device :=
  match (d.pipe s).looked with
  | [] => d
  | f :: rest =>
    let d := d.onPipe s fun p => { p with looked := rest }
    let pass := fun (d : Device) (col : Nat) =>
      d.onPipe s fun p => { p with metered := p.metered ++ [{ f with dec := { f.dec with colour := col } }] }
    if f.fixed then pass d f.dec.colour
    else if 0xF0 ≤ f.trapCode ∧ f.trapCode < 0xFA then pass d (d.inColour f)
    else match f.dec.meter with
      | none => pass (d.mtrStat s 5) (d.inColour f)
      | some m =>
        let d := d.meterEcc s m ecc
        if (d.meter s m).bad then pass (d.mtrStat s 5) (d.inColour f) else d.metered s m f

/-! ### Edit (R25, R168, R244, R332) -/

/-- The bytes of a frame after the edit, and whether they begin with a Jarlis header. A multicast frame's header is left to
replication; a frame with a ready-made header, from port 513, is not edited (R350). -/
def Device.editBytes (d : Device) (f : Frame) : List Byte × Bool :=
  if f.fixed && f.jh && decide (512 ≤ f.src) then (f.bytes, true)
  else
    let bs := if f.fixed then f.bytes else remarks f
    match f.dec.dest with
    | .port p =>
      let toJ := d.jarlisPort p
      (d.jarlisEdit bs f.parse.jarlis toJ f.dec.transit f.src f.dec.queue f.dec.colour
        (jarlisTarget f.dec.dest f.dec.remote), toJ)
    | _ => (bs, f.jh)

/-- The stitches of a frame follow its length after the edit (R244, R245): `none` when an extra one cannot be taken. -/
def Device.restitch (d : Device) (s : Nat) (f : Frame) (n : Nat) : Option (Frame × Device) :=
  if n ≤ f.n then
    let extra := f.stitches.drop n
    some ({ f with stitches := f.stitches.take n, n := n }, (d.freeStitches extra).flightSub s (f.n - n))
  else if 1024 < d.flight s + (n - f.n) ∨ d.physFree < n - f.n then none
  else
    let (st, d) := d.takeStitches (n - f.n)
    some ({ f with stitches := f.stitches ++ st, n := n }, d.flightAdd s (n - f.n))

/-- The edit of the front frame of a slice. A frame that the edit step discards stands unedited: its stored bytes are never more
than 16,379 (R292). -/
def Device.frameEdit (d : Device) (s : Nat) : Device :=
  match (d.pipe s).metered with
  | [] => d
  | f :: rest =>
    let d := d.onPipe s fun p => { p with metered := rest }
    let ready := f.fixed && f.jh && decide (512 ≤ f.src)
    let spent := !ready && (match f.parse.jarlis with | some h => h.hops == 0 | none => false)
    let toJ := match f.dec.dest with | .port p => d.jarlisPort p | _ => false
    if spent && toJ then d.dropPipe s f 32 true
    else
      let (bs, jh) := d.editBytes f
      let g := { f with bytes := bs, jh := jh, hops0 := spent }
      if 16383 < bs.length + 4 then d.dropPipe s f 13 true
      else match d.restitch s g (stitchCount (bs.length + 4)) with
        | none => d.dropPipe s f 14 true
        | some (g, d) => d.onPipe s fun p => { p with edited := p.edited ++ [g] }

/-! ### Header capture (R27, R285, R289) -/

/-- The capture of the front frame of a slice: its header, its group's version, its copies. MIR_EN stands in the header unless a
copy is made (R27, R289). -/
def Device.headerCapture (d : Device) (s : Nat) : Device :=
  match (d.pipe s).edited with
  | [] => d
  | f :: rest =>
    let d := d.onPipe s fun p => { p with edited := rest }
    let (m, d) := d.mirrorTake f
    let h := d.headerOf f
    let g := { f with hdr := { h with mirEn := h.mirEn && m.isNone }, ckind := 1, ccode := f.trapCode, cslice := s, clen := f.bytes.length }
    let d := if g.hdr.dtype = 1 then d.groupFlight g true else d
    let d := d.onPipe s fun p => { p with captured := p.captured ++ [g] }
    (d.hostCopies s g).ingressMirror s g m

/-! ### Admission (R251 to R253, R285, R289) -/

/-- Fan out an admitted multicast frame (R285). A tile that is powered down gets no copy (R582). -/
def Device.fanOut (d : Device) (s : Nat) (f : Frame) : Device :=
  let tiles := (bitsSet 64 (d.groupTiles f.hdr.dest f.hdr.gver)).filter d.pwrOn
  if tiles.isEmpty then
    (((d.freeStitches f.stitches).credit f.charge f.n).groupFlight f false).inc (Reg.REP_STATS_COUNT s 3)
  else
    let d := d.each f.stitches fun d i => d.refStitch i (tiles.length - 1)
    let d := d.onPath fun p => { p with mcLeft := nset p.mcLeft f.id tiles.length }
    (d.each tiles fun d t => d.onPath fun p => { p with mcq := lpush p.mcq (1024 * s + 16 * t + f.hdr.queue) f }).inc
      (Reg.REP_STATS_COUNT s 0) tiles.length

/-- An admitted frame goes to its VOQ or is fanned out. -/
def Device.place (d : Device) (s : Nat) (f : Frame) : Device :=
  if f.hdr.dtype = 1 then d.fanOut s f
  else d.enqueue s f (match f.charge with | .dru _ => true | .dsu _ => true | _ => false)

/-- A held frame: an inject entry completes; a resequenced frame becomes ready in its slot, any other is placed (R341,
R497). -/
def Device.holdFrame (d : Device) (s : Nat) (f : Frame) : Device :=
  let d := d.injDone f none
  let f := { f with inj := none }
  match f.ctx with
  | none => d.place s f
  | some (k, seq) =>
    (d.when ((d.ctx k).behindEmpty seq) fun d => (d.inc (Reg.JFL_STAT_COUNT 1)).pmc 0xE k).onCtx k fun c =>
      { c with slots := mupd (fun _ => none) c.slots seq fun o => o.map fun x => { x with state := 2, frame := some f } }

/-- Admission of a copy (R251, R291): a refused one releases its references. -/
def Device.admitCopy (d : Device) (s : Nat) (f : Frame) : Device :=
  let (a, d) := d.admitQ (qIdx f.hdr.dest f.hdr.queue) f.n f.hdr.colour f.control
  let held := fun (d : Device) (c : Charge) (deep : Bool) =>
    let d := if f.control then d else d.heldAdd f.hdr.src f.hdr.queue f.n true
    let d := match f.mirror with | some _ => d.inc (Reg.MIR_STAT_COUNT f.hdr.mirSession 0) | none => d
    d.enqueue s { f with charge := c } deep
  match a with
  | .onDie c => held d c false
  | .deep c => held d c true
  | .refused _ =>
    let d := d.freeStitches f.stitches
    match f.mirror with
    | some p => (d.countDrop f s p 37).inc (Reg.MIR_STAT_COUNT f.hdr.mirSession 2)
    | none => d.countDrop f 0 f.hdr.dest 20

/-- The egress mirror copy of a unicast frame at its admission (R289). -/
def Device.egressMirror (d : Device) (s : Nat) (f : Frame) : Device :=
  let p := f.hdr.dest
  if d.flag (Reg.MIR_PORT_EGR_EN p) then
    let m := d.get (Reg.MIR_PORT_EGR_SESSION p)
    let (take, d) := d.mirrorCandidate m
    if take then
      let (g, d) := d.mirrorFrame s f m p
      d.admitCopy s g
    else d
  else d

/-- Admission of a unicast frame (R252). -/
def Device.admitUnicast (d : Device) (s : Nat) (f : Frame) : Device :=
  let d := d.flightSub s f.n
  let (a, d) := d.admitQ (qIdx f.hdr.dest f.hdr.queue) f.n f.hdr.colour f.control
  let held := fun (d : Device) (c : Charge) =>
    let d := if f.control then d else d.heldAdd f.hdr.src f.hdr.queue f.n true
    let f := { f with charge := c }
    (d.egressMirror s f).holdFrame s f
  match a with
  | .onDie c => held d c
  | .deep c => held d c
  | .refused r =>
    let f := { f with charge := .none }
    (((d.countDrop f s f.hdr.dest r).releaseFrame f).slotDone f).injDone f (some r)

/-- Admission of a multicast frame to its slice's account (R251). -/
def Device.admitMulticast (d : Device) (s : Nat) (f : Frame) : Device :=
  let d := d.flightSub s f.n
  if d.get (Reg.BUF_MC_USED_STITCHES s) + f.n ≤ admThreshold (d.get Reg.BUF_MC_CFG_ALPHA) 0 d.f0 then
    let d := d.charge (.mc s) f.n
    d.holdFrame s { f with charge := .mc s }
  else
    let f := { f with charge := .none }
    let d := d.groupFlight f false
    (((d.countDrop f s f.src 15).releaseFrame f).slotDone f).injDone f (some 15)

/-- Admission of the front frame of a slice (R26). -/
def Device.admission (d : Device) (s : Nat) : Device :=
  match (d.pipe s).captured with
  | [] => d
  | f :: rest =>
    let d := d.onPipe s fun p => { p with captured := rest }
    if f.isCopy then d.admitCopy s f
    else if f.hdr.dtype = 1 then d.admitMulticast s f
    else d.admitUnicast s f

/-! ### Meanings -/

/-- PIPELINE_TAKE (R22). -/
def execPipelineTake (s : Fin 16) (st : State) : Host.Outcome State Fault Refusal := st.run (·.pipelineTake s.val)

/-- FRAME_PARSE (R160). -/
def execFrameParse (s : Fin 16) (st : State) : Host.Outcome State Fault Refusal := st.run (·.frameParse s.val)

/-- FRAME_LOOKUP (R170). -/
def execFrameLookup (s : Fin 16) (ecc : Option (Bool × Fin 1056768)) (st : State) :
    Host.Outcome State Fault Refusal := st.run (·.frameLookup s.val (ecc.map fun e => (e.1, e.2.val)))

/-- METER_UPDATE (R229). -/
def execMeterUpdate (s : Fin 16) (ecc : Option Bool) (st : State) : Host.Outcome State Fault Refusal :=
  st.run (·.meterUpdate s.val ecc)

/-- FRAME_EDIT (R25). -/
def execFrameEdit (s : Fin 16) (st : State) : Host.Outcome State Fault Refusal := st.run (·.frameEdit s.val)

/-- HEADER_CAPTURE (R27). -/
def execHeaderCapture (s : Fin 16) (st : State) : Host.Outcome State Fault Refusal := st.run (·.headerCapture s.val)

/-- ADMISSION (R252). -/
def execAdmission (s : Fin 16) (st : State) : Host.Outcome State Fault Refusal := st.run (·.admission s.val)

end Sys2Proof.Machine
end

