-- ==== Sys2Proof/Machine/Port.lean ====
section
/-!
DEFINITION. Port formation, links, lane shedding and sleep (R97 to R134), with the meanings of the commands that are no
register writes.
-/
namespace Sys2Proof.Machine

/-! ### Rows of R104 -/

/-- Rate family of a rate code (R97). -/
def rateFam (r : Nat) : Nat := if 3 ≤ r then 3 else r

/-- Data rate of a lane in Gb/s (R97). -/
def rateGb (r : Nat) : Nat := [1, 10, 25, 50, 100, 200].getD r 0

/-- Width and rate code form a row of R104. -/
def rowOk (w r : Nat) : Bool :=
  (w == 1 && decide (r ≤ 5)) || (w == 2 && decide (3 ≤ r ∧ r ≤ 5)) || (w == 4 && decide (2 ≤ r ∧ r ≤ 5))
    || (w == 8 && decide (4 ≤ r ∧ r ≤ 5))

/-- FEC codes that a row allows. -/
def rowFec (w r : Nat) : List Nat :=
  if r = 0 then [0] else if r = 1 then [0, 1] else if r = 2 then (if w = 1 then [0, 1, 2] else [2]) else [3]

/-- The code that FEC 0xF selects. -/
def rowDefFec (r : Nat) : Nat := if r ≤ 1 then 0 else if r = 2 then 2 else 3

/-! ### Technologies and pages of Clause 73 (R82, R104, R111, R112) -/

/-- The technology of a row of R104. -/
def rowTech (w r : Nat) : Option Tech :=
  match w, r with
  | 1, 0 => some .kx1000 | 1, 1 => some .kr10g | 1, 2 => some .kr25g | 1, 3 => some .kr50g
  | 4, 2 => some .kr4x100g | 2, 3 => some .kr2x100g | 1, 4 => some .kr1x100g
  | 4, 3 => some .kr4x200g | 2, 4 => some .kr2x200g | 1, 5 => some .kr1x200g
  | 4, 4 => some .kr4x400g | 2, 5 => some .kr2x400g
  | 8, 4 => some .kr8x800g | 4, 5 => some .kr4x800g | 8, 5 => some .kr8x1600g
  | _, _ => none

/-- The rate code of the lane rate of a technology (R54, R82); none where it runs at none of the six. PRESUMED from IEEE 802.3 for
the technologies that are no row of R104. -/
def techCode : Tech → Option Nat
  | .kx1000 => some 0
  | .kr10g | .kr4x40g | .cr4x40g | .cr10x100g => some 1
  | .kr25g | .kr25gS | .kr4x100g | .cr4x100g => some 2
  | .kr50g | .kr2x100g | .kr4x200g => some 3
  | .kr1x100g | .kr2x200g | .kr4x400g | .kr8x800g => some 4
  | .kr1x200g | .kr2x400g | .kr4x800g | .kr8x1600g => some 5
  | .kx2500 | .kr5g | .kx4x10g | .kp4x100g => none

/-- The message page of the Jarlis capability next pages (R112): NP and MP are 1; Ack, Ack2 and Toggle, which the exchange sets, 0. -/
def jarlisMsg : BitVec 48 := BitVec.ofNat 48 (2 ^ 40 * 1 + 2 ^ 16 * 0x5A1F3C + 2 ^ 15 + 2 ^ 13 + 0x005)

/-- The unformatted page of the Jarlis capability next pages (R112). -/
def jarlisPage (shed : Bool) (dom dev : Nat) : BitVec 48 :=
  BitVec.ofNat 48 (2 ^ 36 * (dev % 4096) + 2 ^ 24 * (dom % 4096) + 2 ^ 23 * b2n shed + 2 ^ 22)

/-- Next pages received show a Jarlis peer (R82, R112): the DEVID of the page behind a Jarlis message page. -/
def jarlisDev : List (BitVec 48) → Option Nat
  | m :: u :: rest =>
    let v := m.toNat
    if bit v 13 && bits v 10 0 == 5 && bits v 39 16 == 0x5A1F3C && bits v 43 40 == 1 then some (bits u.toNat 47 36)
    else jarlisDev (u :: rest)
  | _ => none

/-- Fields of a TILE_PORT_CFG word (R128). -/
def cfgEn (v : Nat) : Bool := bit v 31
def cfgWidth (v : Nat) : Nat := bits v 27 24
def cfgRate (v : Nat) : Nat := bits v 23 20
def cfgFec (v : Nat) : Nat := bits v 19 16
def cfgAn (v : Nat) : Nat := bits v 15 14
def cfgKind (v : Nat) : Nat := bits v 13 13

/-- FEC 0xF is replaced by the row's default (R109). -/
def cfgNorm (v : Nat) : Nat :=
  if cfgFec v = 0xF ∧ rowOk (cfgWidth v) (cfgRate v) then withBits v 19 16 (rowDefFec (cfgRate v)) else v

/-- Lanes of a port, as indices within the tile. -/
def cfgLanes (k v : Nat) : List Nat := (List.range (cfgWidth v)).map (k + ·)

/-! ### PLLs (R98, R99, R587) -/

/-- Lanes that use PLL `j` of a tile. -/
def Device.pllLanes (d : Device) (t j : Nat) : Nat :=
  d.get (if j = 0 then Reg.TILE_PLL_STATUS_PLL0_LANES t else Reg.TILE_PLL_STATUS_PLL1_LANES t)

def Device.pllOn (d : Device) (t j : Nat) : Bool :=
  d.flag (if j = 0 then Reg.TILE_PLL_STATUS_PLL0_ON t else Reg.TILE_PLL_STATUS_PLL1_ON t)

def Device.pllLocked (d : Device) (t j : Nat) : Bool :=
  d.flag (if j = 0 then Reg.TILE_PLL_STATUS_PLL0_LOCK t else Reg.TILE_PLL_STATUS_PLL1_LOCK t)

def Device.pllFam (d : Device) (t j : Nat) : Nat :=
  d.get (if j = 0 then Reg.TILE_PLL_STATUS_PLL0_FAM t else Reg.TILE_PLL_STATUS_PLL1_FAM t)

/-- Store the state of a PLL: powered, locked, family, lanes. -/
def Device.setPll (d : Device) (t j : Nat) (on lock : Bool) (fam lanes : Nat) : Device :=
  if j = 0 then
    (((d.put (Reg.TILE_PLL_STATUS_PLL0_ON t) on).put (Reg.TILE_PLL_STATUS_PLL0_LOCK t) lock).set
      (Reg.TILE_PLL_STATUS_PLL0_FAM t) fam).set (Reg.TILE_PLL_STATUS_PLL0_LANES t) lanes
  else
    (((d.put (Reg.TILE_PLL_STATUS_PLL1_ON t) on).put (Reg.TILE_PLL_STATUS_PLL1_LOCK t) lock).set
      (Reg.TILE_PLL_STATUS_PLL1_FAM t) fam).set (Reg.TILE_PLL_STATUS_PLL1_LANES t) lanes

/-- A mask of lanes. -/
def laneMask (ls : List Nat) : Nat := ls.foldl (fun m l => m ||| 2 ^ l) 0

/-- Take lanes out of a mask. -/
def maskMinus (m ls : Nat) : Nat := (bitsSet 8 m).foldl (fun a i => if ls.testBit i then a else a ||| 2 ^ i) 0

/-- The PLL that R99 assigns to a family, `mine` being the lanes of the port written: its number and whether it must be
retuned. -/
def Device.pllAssign (d : Device) (t fam mine : Nat) : Option (Nat × Bool) :=
  match [0, 1].find? fun j => d.pllOn t j && d.pllFam t j == fam with
  | some j => some (j, false)
  | none => match [0, 1].find? fun j => maskMinus (d.pllLanes t j) mine == 0 with
    | some j => some (j, true)
    | none => none

/-- The PLLs of a tile that are still to be retuned, in write order (R99). -/
def Device.retunes (d : Device) (t : Nat) : List Nat := lget d.power.retune t

/-- Change them. -/
def Device.setRetunes (d : Device) (t : Nat) (l : List Nat) : Device := d.onPower fun x => { x with retune := lset x.retune t l }

/-- Lanes leave their PLL; one without users is powered down (R587). -/
def Device.pllRelease (d : Device) (t mine : Nat) : Device :=
  d.each [0, 1] fun d j =>
    let l := maskMinus (d.pllLanes t j) mine
    if l = 0 then (d.setPll t j false false 0 0).setRetunes t ((d.retunes t).filter (· != j))
    else d.setPll t j (d.pllOn t j) (d.pllLocked t j) (d.pllFam t j) l

/-- A port takes its PLL (R99); one that must be retuned is the last to be. -/
def Device.pllTake (d : Device) (t fam old new : Nat) : Device :=
  match d.pllAssign t fam (old ||| new) with
  | none => d
  | some (j, retune) =>
    let d := if retune then (d.setPll t j true false fam new).setRetunes t ((d.retunes t).filter (· != j) ++ [j])
      else d.setPll t j true (d.pllLocked t j) fam (maskMinus (d.pllLanes t j) old ||| new)
    let o := 1 - j
    let l := maskMinus (d.pllLanes t o) (old ||| new)
    if l = 0 then (d.setPll t o false false 0 0).setRetunes t ((d.retunes t).filter (· != o))
    else d.setPll t o (d.pllOn t o) (d.pllLocked t o) (d.pllFam t o) l

/-- The assignments that wait for a tile to be awake are made, in write order (R581). -/
def Device.pllSettle (d : Device) (t : Nat) : Device :=
  let l := lget d.power.assign t
  let d := d.onPower fun x => { x with assign := lset x.assign t [] }
  d.each l fun d a =>
    let v := d.rd (Reg.TILE_PORT_CFG t a.1)
    d.pllTake t (rateFam (cfgRate v)) a.2 (laneMask (cfgLanes a.1 v))

/-- The port of lane index `k` takes its PLL, `old` being the lanes it had. A retune in a tile that is down, and what follows one, waits for
the tile to be awake (R99, R581). -/
def Device.pllAsk (d : Device) (t k old : Nat) : Device :=
  let v := d.rd (Reg.TILE_PORT_CFG t k)
  let fam := rateFam (cfgRate v)
  let new := laneMask (cfgLanes k v)
  let l := lget d.power.assign t
  if d.pwrOn t || (l.isEmpty && (d.pllAssign t fam (old ||| new)).all fun a => !a.2) then d.pllTake t fam old new
  else
    let was := ((l.find? fun a => a.1 == k).map (·.2)).getD 0
    d.onPower fun x => { x with assign := lset x.assign t (l.filter (fun a => a.1 != k) ++ [(k, old ||| was)]) }

/-- The PLL of a port is locked. -/
def Device.portPllLocked (d : Device) (p : Nat) : Bool :=
  [0, 1].any fun j => bit (d.pllLanes (tileOf p) j) (laneIn p) && d.pllLocked (tileOf p) j

/-! ### Checks of a port write (R101) -/

/-- POS_k over the lanes of a port is a permutation of them (R108). -/
def mapOk (pos : Nat) (ls : List Nat) : Bool :=
  ls.all fun l => ls.any fun k => bits pos (3 * k + 2) (3 * k) == l

/-- The reason code of the first rule of R101 that a write with EN 1 breaks; 0 for none. DESIGN CHOICE: a WIDTH other than 1, 2, 4 or 8,
for which R5 gives no alignment, passes ALIGN, is tested for OVERLAP over its WIDTH lanes from the lowest, and then breaks COMBO. -/
def Device.portReason (d : Device) (p v : Nat) : Nat :=
  let t := tileOf p
  let k := laneIn p
  let w := cfgWidth v
  let r := cfgRate v
  let ls := cfgLanes k v
  let others := (d.portsOfTile t).filter (· != p)
  let old := if d.portEn p then laneMask (cfgLanes k (d.rd (Reg.TILE_PORT_CFG t k))) else 0
  if (w = 2 ∨ w = 4 ∨ w = 8) ∧ k % w ≠ 0 then 1
  else if others.any fun q => ls.any fun l => decide (laneIn q ≤ l) && decide (l < laneIn q + d.width q) then 2
  else if !rowOk w r || !(rowFec w r).contains (cfgFec v) || cfgAn v == 3 || (cfgAn v == 2 && cfgKind v == 0)
      || (cfgKind v == 1 && (decide (r < 3) || cfgFec v != 3 || bit v 10)) || (cfgKind v == 0 && bit v 11) then 3
  else if ((d.pllSettle t).pllAssign t (rateFam r) (old ||| laneMask ls)).isNone then 4
  else if !mapOk (d.get (Reg.TILE_TXMAP_POS t)) ls then 5
  else if !bit (d.get Reg.PWR_CLK_STATUS_SERDES_REF) (t / 4) then 6
  else 0

/-! ### Link state -/

/-- TILE_PORT_STATUS.STATE (R129). -/
def Device.portState (d : Device) (p : Nat) : Nat := d.get (Reg.TILE_PORT_STATUS_STATE (tileOf p) (laneIn p))

/-- Store STATE. -/
def Device.setPortState (d : Device) (p v : Nat) : Device := d.set (Reg.TILE_PORT_STATUS_STATE (tileOf p) (laneIn p)) v

/-- The configuration word of a port. -/
def Device.portCfg (d : Device) (p : Nat) : Nat := d.rd (Reg.TILE_PORT_CFG (tileOf p) (laneIn p))

/-- A unicast frame to port `p` of an old epoch. -/
def Device.staleHdr (d : Device) (p : Nat) (h : Hdr) : Bool := h.dtype == 0 && h.dest == p && h.epoch != d.epoch p

/-- The frames still in the device that carry an old epoch of port `p` (R31). -/
def Device.staleCount (d : Device) (p : Nat) : Nat :=
  let st := fun (f : Frame) => d.staleHdr p f.hdr
  let n := fun (l : List Frame) => (l.filter st).length
  (d.path.pipe.map fun e => n e.2.looked + n e.2.metered + n e.2.edited + n e.2.captured).sum
    + (d.path.voq.map fun e => n e.2.on + (e.2.deep.filter fun f => st f.frame).length).sum
    + (d.path.dep.map fun e => (e.2.filter fun f => !f.mc && !f.arrived.contains 0 && st f.frame).length).sum
    + (d.path.egr.map fun e => if e.1 / 16 = p then (e.2.filter fun x => d.staleHdr p x.hdr).length else 0).sum
    + (d.path.sel.map fun e => (e.2.filter fun x => d.staleHdr p x.entry.hdr).length).sum
    + (d.jarlis.ctx.map fun c => (c.2.slots.filter fun s => match s.2 with
        | some x => (match x.frame with | some f => st f | none => false)
        | none => false).length).sum

/-- The next pages that a port with AN 2 sends (R112). -/
def Device.nextPages (d : Device) (p : Nat) : List (BitVec 48) :=
  if cfgAn (d.portCfg p) = 2 then
    [jarlisMsg, jarlisPage (bit (d.portCfg p) 11) (d.get Reg.JFL_CFG_DOMAIN) (d.get Reg.JFL_CFG_DEVID)]
  else []

/-- What a port's Clause 73 exchange or training starts with: the one technology of its row, the FEC its bits match, its next pages (R111,
R112). A port with AN 0 sends none of them. -/
def Device.anOut (d : Device) (p : Nat) : Output :=
  let c := d.portCfg p
  .linkStart p (cfgAn c) (if cfgAn c = 0 then none else rowTech (cfgWidth c) (cfgRate c)) (cfgFec c) (d.nextPages p)

/-- Auto-negotiation or training starts (R102, R111). With AN 2 the pages announce SHED (R113). -/
def Device.linkStart (d : Device) (p : Nat) : Device :=
  let an := cfgAn (d.portCfg p)
  let d := (d.setPortState p (if an = 0 then 3 else 2)).put (Reg.TILE_PORT_STATUS_JARLIS_OK (tileOf p) (laneIn p)) false
  let shed := an == 2 && bit (d.portCfg p) 11
  (d.updPort p fun x => { x with trained := false, identA := none, identB := none, came := none, sentShed := shed }).emit (d.anOut p)

/-- A port starts from its PLL: PLL wait, stale wait, or AN or training (R102, R129). During Cast-On it waits for step 12 (R58). -/
def Device.portStart (d : Device) (p : Nat) : Device :=
  let t := tileOf p
  let k := laneIn p
  let held := d.staleCount p != 0
  let d := d.put (Reg.TILE_PORT_STATUS_STALE_WAIT t k) held
  if !d.portPllLocked p || d.boot.run then d.setPortState p 1
  else if held then d.setPortState p 0xB
  else d.linkStart p

/-- Set or clear LANE_STATUS bits of lanes of a port. -/
def Device.lanesPut (d : Device) (ls : List Nat) (f : Nat → Nat → Field) (v : Bool) : Device :=
  d.each ls fun d l => d.put (f (tileOf l) (laneIn l)) v

/-- Credit returned so far and LASTF of a port start anew (R335). -/
def Device.creditReset (d : Device) (p : Nat) (up : Bool) : Device :=
  if d.isJarlis p then
    d.each (List.range 16) fun d k =>
      let d := d.set (Reg.JFL_CRED_AVAIL p k) 0
      d.onJfl fun j => { j with
        freed := nset j.freed (16 * p + k) (if up then d.get (Reg.JFL_CRED_GRANT p k) else 0),
        lastf := nset j.lastf (16 * p + k) 0 }
  else d

/-- The trunks that a port is a member of or attached to look at their ports again (R344, R346, R365). -/
def Device.trunksOfPort (d : Device) (p : Nat) : Device :=
  let d := match d.trunkOfMember p with
    | some t =>
      let d := d.trunkUpdate t false
      if (d.usable t).isEmpty then d else d.clearNopath fun b => b.2.1 == 2 && b.2.2 == t
    | none => d
  match d.attached p with
  | some t => d.checkAttached t
  | none => d

/-- A PRBS generator replaces the traffic of a lane of the port (R133). -/
def Device.prbsOn (d : Device) (p : Nat) : Bool :=
  (d.lanes p).any fun l => let g := bits (d.rd (Reg.LANE_CTRL (tileOf l) (laneIn l))) 3 2; g == 1 || g == 2

/-- A port reports link-up (R114, R115, R129), unless a PRBS generator replaces its traffic (R133). -/
def Device.linkUp (d : Device) (p : Nat) : Device :=
  if d.prbsOn p then d else
  let t := tileOf p
  let k := laneIn p
  let c := d.portCfg p
  let d := (d.put (Reg.TILE_PORT_STATUS_LINK t k) true).setPortState p 4
  let d := (d.set (Reg.TILE_PORT_STATUS_RATE_ACT t k) (cfgRate c)).set (Reg.TILE_PORT_STATUS_FEC_ACT t k) (cfgFec c)
  let d := (d.set (Reg.TILE_SHED_STATUS_TX_LANES t k) (cfgWidth c)).set (Reg.TILE_SHED_STATUS_RX_LANES t k) (cfgWidth c)
  let d := (d.lanesPut (d.lanes p) Reg.LANE_STATUS_CDR_LOCK true).lanesPut (d.lanes p) Reg.LANE_STATUS_SIG_DET true
  let d := d.updPort p fun x => { x with firstWindow := true, windowBits := 0, pending := none, restoring := false,
                                         restoreQueued := false, trained := false, dark := 0 }
  let d := d.creditReset p true
  let d := d.each (d.groupsOf p) fun d g => d.linkFlag g.1 g.2 false
  (d.trunksOfPort p).undoMoved

/-- A port goes link-down (R114, R121, R136, R147, R314, R335, R344, R363), its receivers as they are. `counted` says that LINK_LOSS
counts it. -/
def Device.linkLost (d : Device) (p : Nat) (counted : Bool) : Device :=
  let t := tileOf p
  let k := laneIn p
  if !d.portUp p then d.rxAbort p
  else
    let d := ((d.put (Reg.TILE_PORT_STATUS_LINK t k) false).rxAbort p).txAbort p
    let d := d.undoSelected p
    let d := d.when counted fun d => (d.inc (Reg.TILE_PORT_STATUS_LINK_LOSS t k)).accAdd (0x1000 + 160 * p)
    let d := (d.set (Reg.TILE_SHED_STATUS_TX_LANES t k) 0).set (Reg.TILE_SHED_STATUS_RX_LANES t k) 0
    let d := d.lanesPut (d.lanes p) Reg.LANE_STATUS_SHED false
    let d := d.updPort p fun x => { x with pending := none, restoring := false, restoreQueued := false, windowBits := 0,
                                           dark := 0, osDue := [] }
    let d := d.creditReset p false
    let d := d.each (d.groupsOf p) fun d g =>
      if d.get (Reg.PRT_GRP_CFG_HOLDOFF_US g.1) = 0 then d.linkFlag g.1 g.2 true else d
    (d.trunksOfPort p).undoMoved

/-- A port goes link-down and its receivers start anew: by its configuration, a survey, a PLL or a retraining. -/
def Device.linkDown (d : Device) (p : Nat) (counted : Bool) : Device :=
  (d.linkLost p counted).lanesPut (d.lanes p) Reg.LANE_STATUS_CDR_LOCK false

/-! ### Writes of TILE_PORT_CFG (R102) -/

/-- EN 0 → 1. NO_RATE no longer holds of its lanes (R96). A reference input that has returned is used again (R588). -/
def Device.portEnable (d : Device) (p v : Nat) : Device :=
  let t := tileOf p
  let d := d.onPower fun x => { x with refIdle := mset (fun _ => false) x.refIdle (t / 4) false }
  let d := (d.wr (Reg.TILE_PORT_CFG t (laneIn p)) v).pllAsk t (laneIn p) 0
  let d := d.each (d.lanes p) fun d l => d.put (Reg.SRV_LANE_LO_NO_RATE l) false
  let d := d.reserveSet p
  let d := d.each (d.groupsOf p) fun d g => d.reselect g.1
  (d.portStart p).undoMoved

/-- WIDTH, RATE, FEC, AN or KIND changed with EN 1. A sleeping port wakes, and its tile with it (R123, R581). -/
def Device.portChange (d : Device) (p v : Nat) : Device :=
  let t := tileOf p
  let k := laneIn p
  let old := laneMask (cfgLanes k (d.portCfg p))
  let d := d.linkDown p false
  let d := d.when (d.flag (Reg.TILE_PORT_STATUS_ASLEEP t k)) fun d => d.wakeAsk t
  let d := d.lanesPut (d.lanes p) Reg.LANE_STATUS_ASLEEP false
  let d := (d.put (Reg.TILE_PORT_STATUS_ASLEEP t k) false).updPort p fun x => { x with probing := false }
  let d := (d.wr (Reg.TILE_PORT_CFG t k) v).pllAsk t k old
  let d := d.each (d.lanes p) fun d l => d.put (Reg.SRV_LANE_LO_NO_RATE l) false
  (d.portStart p).undoMoved

/-- EN 1 → 0. -/
def Device.portDelete (d : Device) (p v : Nat) : Device :=
  let t := tileOf p
  let k := laneIn p
  let old := laneMask (cfgLanes k (d.portCfg p))
  let d := d.linkDown p false
  let d := d.lanesPut (d.lanes p) Reg.LANE_STATUS_ASLEEP false
  let was := (((lget d.power.assign t).find? fun a => a.1 == k).map (·.2)).getD 0
  let d := d.onPower fun x => { x with assign := lset x.assign t ((lget x.assign t).filter fun a => a.1 != k) }
  let d := (d.wr (Reg.TILE_PORT_CFG t k) v).pllRelease t (old ||| was)
  let d := (d.put (Reg.TILE_PORT_STATUS_ASLEEP t k) false).put (Reg.TILE_PORT_STATUS_STALE_WAIT t k) false
  let d := (d.put (Reg.TILE_PORT_STATUS_JARLIS_OK t k) false).setPortState p 0
  let d := d.updPort p fun x => { x with epoch := (x.epoch + 1) % 256, probing := false, trained := false }
  let d := d.reserveSet p
  let d := d.each (d.groupsOf p) fun d g => d.reselect g.1
  (d.trunksOfPort p).undoMoved

/-- The ports that shed and restore together: the members of the port's trunk, or the port alone (R117). -/
def Device.shedGroup (d : Device) (p : Nat) : List Nat :=
  match d.trunkOfMember p with
  | some t => d.trunkMembers t
  | none => [p]

/-- Fields of the shedding configuration in force. -/
def Device.shedHi (d : Device) (p : Nat) : Nat := bits (d.port p).shedCfg.toNat 31 24
def Device.shedLo (d : Device) (p : Nat) : Nat := bits (d.port p).shedCfg.toNat 23 16
def Device.shedMin (d : Device) (p : Nat) : Nat := 2 ^ bits (d.port p).shedCfg.toNat 7 6
def Device.shedWindow (d : Device) (p : Nat) : Nat :=
  let w := bits (d.port p).shedCfg.toNat 15 8
  if w = 0 then 10 else w

/-- CFG_BAD (R115, R117). -/
def Device.shedBad (d : Device) (p : Nat) : Bool :=
  let g := d.shedGroup p
  decide (d.shedHi p ≤ d.shedLo p) || decide (d.width p < d.shedMin p)
    || g.any fun q => d.width q != d.width p || cfgRate (d.portCfg q) != cfgRate (d.portCfg p)

/-- CFG_BAD follows the configuration. -/
def Device.shedShow (d : Device) (p : Nat) : Device :=
  d.put (Reg.TILE_SHED_STATUS_CFG_BAD (tileOf p) (laneIn p)) (d.shedBad p)

/-- CFG_BAD of several ports follows. -/
def Device.shedShows (d : Device) (ps : List Nat) : Device := d.each ps Device.shedShow

/-- A restore to full width begins, or waits for the end of a shed (R119, R121). -/
def Device.restoreStart (d : Device) (p : Nat) : Device :=
  let n := d.get (Reg.TILE_SHED_STATUS_TX_LANES (tileOf p) (laneIn p))
  if (d.port p).pending.isSome then d.updPort p fun x => { x with restoreQueued := true }
  else if d.portUp p && decide (n < d.width p) && !(d.port p).restoring then
    d.updPort p fun x => { x with restoring := true }
  else d

/-- A sleeping port wakes, and its tile with it (R123, R581). -/
def Device.wake (d : Device) (p : Nat) : Device :=
  let t := tileOf p
  let k := laneIn p
  if d.flag (Reg.TILE_PORT_STATUS_ASLEEP t k) then
    let d := (d.put (Reg.TILE_PORT_STATUS_ASLEEP t k) false).updPort p fun x => { x with probing := false }
    ((d.lanesPut (d.lanes p) Reg.LANE_STATUS_ASLEEP false).wakeAsk t).portStart p
  else d

/-- POLICY, SHED_EN, SLEEP_EN or PROBE_S only. -/
def Device.portOption (d : Device) (p v : Nat) : Device :=
  let old := d.portCfg p
  let d := d.wr (Reg.TILE_PORT_CFG (tileOf p) (laneIn p)) v
  let d := d.when (bit old 11 && !bit v 11) fun d => d.each (d.shedGroup p) fun d q => d.restoreStart q
  if bit old 10 && !bit v 10 then d.wake p else d

/-- An accepted write of TILE_PORT_CFG (R102). SHED_EN from 0 to 1 ends SHED_OFF (R120), and CFG_BAD follows (R115, R117). -/
def Device.portWrite (d : Device) (p v : Nat) : Device :=
  let old := d.portCfg p
  let t := tileOf p
  let k := laneIn p
  let d := d.when (!bit old 11 && bit v 11) fun d =>
    (d.put (Reg.TILE_SHED_STATUS_SHED_OFF t k) false).updPort p fun x => { x with wakeFails := 0 }
  let d :=
    if !cfgEn old && cfgEn v then d.portEnable p v
    else if cfgEn old && !cfgEn v then d.portDelete p v
    else if cfgEn v && (bits old 27 13 != bits v 27 13) then d.portChange p v
    else if cfgEn v then d.portOption p v
    else d.wr (Reg.TILE_PORT_CFG t k) v
  d.shedShows (d.shedGroup p)

/-- A port retrains at full width: link-down, then from its PLL. A port that sleeps goes on sleeping (R122). -/
def Device.retrain (d : Device) (p : Nat) (counted : Bool) : Device :=
  if d.flag (Reg.TILE_PORT_STATUS_ASLEEP (tileOf p) (laneIn p)) then d else (d.linkDown p counted).portStart p

/-- A write of TILE_TXMAP is a permutation over every enabled port (R108). -/
def Device.txmapOk (d : Device) (t v : Nat) : Bool :=
  (d.portsOfTile t).all fun p => mapOk v (cfgLanes (laneIn p) (d.portCfg p))

/-- An accepted write of TILE_TXMAP: every enabled port whose lanes it changes retrains. -/
def Device.txmapWrite (d : Device) (t v : Nat) : Device :=
  let old := d.get (Reg.TILE_TXMAP_POS t)
  let d := d.set (Reg.TILE_TXMAP_POS t) v
  d.each (d.portsOfTile t) fun d p =>
    if (cfgLanes (laneIn p) (d.portCfg p)).any fun k => bits old (3 * k + 2) (3 * k) != bits v (3 * k + 2) (3 * k) then
      d.retrain p false else d

/-- A write of LANE_CTRL (R133). Writing PRBS_CHK restarts PRBS_ERR (R134). Under a PRBS generator the port is down and tries to come back
(R114); `linkUp` holds it down until the generator is off. -/
def Device.laneCtrlWrite (d : Device) (t k v : Nat) : Device :=
  let old := d.rd (Reg.LANE_CTRL t k)
  let d := (d.wr (Reg.LANE_CTRL t k) v).set (Reg.LANE_STATUS_PRBS_ERR t k) 0
  match d.portOfLane (8 * t + k) with
  | none => d
  | some p =>
    if bits old 1 0 ≠ bits v 1 0 then d.retrain p false
    else if d.portUp p && d.prbsOn p then (d.linkLost p false).setPortState p 5
    else d

/-! ### Bringing up -/

/-- STALE_DRAIN_DONE (R31). -/
def Device.staleDone (d : Device) (p : Nat) : Device :=
  let f := Reg.TILE_PORT_STATUS_STALE_WAIT (tileOf p) (laneIn p)
  if d.flag f && d.staleCount p == 0 then
    let d := d.put f false
    if d.portState p = 0xB then d.linkStart p else d
  else d

/-- A tile PLL may lock: its tile is awake and its reference input present and in use (R99, R100, R581, R588). -/
def Device.pllMay (d : Device) (t : Nat) : Bool :=
  d.pwrOn t && bit (d.get Reg.PWR_CLK_STATUS_SERDES_REF) (t / 4) && !mget (fun _ => false) d.power.refIdle (t / 4)

/-- A PLL may be retuned only when those written before it have been (R99). -/
def Device.retuneTurn (d : Device) (t j : Nat) : Bool := !(d.retunes t).contains j || (d.retunes t).head? == some j

/-- PLL_LOCK (R99): the ports that wait for the PLL start. -/
def Device.pllLock (d : Device) (t j : Nat) : Device :=
  if d.pllOn t j && !d.pllLocked t j && d.pllMay t && d.retuneTurn t j then
    let d := (d.setPll t j true true (d.pllFam t j) (d.pllLanes t j)).setRetunes t ((d.retunes t).filter (· != j))
    d.each (d.portsOfTile t) fun d p =>
      if d.portState p = 1 ∧ bit (d.pllLanes t j) (laneIn p) then d.portStart p else d
  else d

/-- Loss of lock of a tile PLL: its ports go link-down and wait (R100). -/
def Device.tilePllLoss (d : Device) (t j : Nat) : Device :=
  if d.pllOn t j && d.pllLocked t j then
    let used := d.pllLanes t j
    let d := d.setPll t j true false (d.pllFam t j) used
    let d := d.each (d.portsOfTile t) fun d p =>
      if bit used (laneIn p) && !d.flag (Reg.TILE_PORT_STATUS_ASLEEP t (laneIn p)) then (d.linkDown p true).setPortState p 1 else d
    if used = 0 then d else d.critical 2 (16 + 2 * t + j)
  else d

/-- A tile PLL loses lock: after ready with the consequences of R100; before, it only loses lock. -/
def Device.tilePllRef (d : Device) (t j : Nat) : Device :=
  if d.get Reg.GLB_BOOT_STATUS_STATE = 0xC then d.tilePllLoss t j
  else d.setPll t j (d.pllOn t j) false (d.pllFam t j) (d.pllLanes t j)

/-- PLL_LOSS of a PLL of R587: a tile PLL, or one of PLLs 0 to 4, of which the core PLL's loss is critical (R380). -/
def Device.pllLoss (d : Device) (n : Nat) : Device :=
  if 16 ≤ n then d.tilePllRef ((n - 16) / 2) (n % 2)
  else
    let l := d.get Reg.PWR_CLK_STATUS_LOCK
    if bit l n then
      let d := d.pllBit n false
      if n = 1 then d.critical 2 1 else d
    else d

/-- AN_PAGE_EXCHANGE_DONE (R111): the partner advertises the technology of the port's row or not. With AN 2 the Jarlis pages follow. -/
def Device.anDone (d : Device) (p : Nat) (techs : List Tech) : Device :=
  let st := d.portState p
  let c := d.portCfg p
  let common := (rowTech (cfgWidth c) (cfgRate c)).any techs.contains
  if d.portEn p && (st == 2 || st == 7 || st == 8) && cfgAn (d.portCfg p) != 0 then
    if !common then (d.setPortState p 8).emit (d.anOut p)
    else if cfgAn (d.portCfg p) = 1 then d.setPortState p 3
    else d.setPortState p 2
  else d

/-- PARALLEL_DETECT (R111). -/
def Device.parallelDetect (d : Device) (p : Nat) : Device :=
  let st := d.portState p
  let c := d.portCfg p
  if d.portEn p && (st == 2 || st == 7 || st == 8) && cfgAn c == 1 && decide (cfgRate c ≤ 1) then d.linkUp p else d

/-- The identity of a peer (R327): accepted, or the port stays down as NOT_JARLIS. -/
def Device.identityOk (d : Device) (p jver dom dev : Nat) : Bool × Device :=
  let stay := fun (d : Device) => d.setPortState p 9
  if jver ≠ 1 then (false, stay d)
  else if dom ≠ d.get Reg.JFL_CFG_DOMAIN then
    (false, stay ((d.put Reg.JFL_STATUS_DOMAIN_MISMATCH true).set Reg.JFL_STATUS_PORT p))
  else if dev = d.get Reg.JFL_CFG_DEVID then
    (false, stay (((d.put Reg.JFL_STATUS_DUP_ID true).set Reg.JFL_STATUS_PORT p).auditEvent 8 p dev 0))
  else
    let d := (d.put (Reg.TILE_PORT_STATUS_JARLIS_OK (tileOf p) (laneIn p)) true).set (Reg.SRV_LANE_HI_PARTNER_DEVID p) dev
    (true, d.updPort p fun x => { x with came := some (jver, dom, dev) })

/-- JARLIS_PAGES_RECEIVED (R113, R327); no page is JVER 0. -/
def Device.jarlisPages (d : Device) (p jver dom dev : Nat) (shed : Bool) : Device :=
  if d.portState p = 2 ∧ cfgAn (d.portCfg p) = 2 then
    let (ok, d) := d.identityOk p jver dom dev
    if ok then (d.updPort p fun x => { x with peerShed := shed }).setPortState p 3 else d
  else d

/-- A port that stayed down as NOT_JARLIS starts again (R113, R327). -/
def Device.notJarlisRetry (d : Device) (p : Nat) : Device := if d.portState p = 9 then d.linkStart p else d

/-- TRAINING_COMPLETE (R111): link-up, or on a Jarlis port without pages the wait for its peer's ordered sets (R113). -/
def Device.trained (d : Device) (p : Nat) : Device :=
  if d.portState p ≠ 3 then d
  else if d.isJarlis p && !d.flag (Reg.TILE_PORT_STATUS_JARLIS_OK (tileOf p) (laneIn p)) then
    d.updPort p fun x => { x with trained := true }
  else d.linkUp p

/-- A condition of R114 can hold on lane `k` of a port: the lane carries data, since a fault on a lane that the peer has shed has no effect
(R121), and codewords are uncorrectable only under an RS FEC. -/
def Device.faultOn (d : Device) (p k : Nat) (cause : LinkCause) : Bool :=
  decide (k < d.width p) && !bit (d.port p).dark k && (cause != .fec || decide (2 ≤ cfgFec (d.portCfg p)))

/-- LINK_DOWN: a declared condition (R114). Without energy, or without CDR lock, LANE_STATUS shows it (R134). -/
def Device.linkFault (d : Device) (p : Nat) (cause : LinkCause) (k : Nat) : Device :=
  if d.portUp p && d.faultOn p k cause then
    let d := (d.linkLost p true).setPortState p 5
    match cause with
    | .signal => (d.lanesPut [p + k] Reg.LANE_STATUS_SIG_DET false).lanesPut [p + k] Reg.LANE_STATUS_CDR_LOCK false
    | .cdr => d.lanesPut [p + k] Reg.LANE_STATUS_CDR_LOCK false
    | _ => d
  else d

/-- LINK_REACQUIRED (R114). -/
def Device.linkReacquired (d : Device) (p : Nat) : Device := if d.portState p = 5 then d.linkUp p else d

/-- REACQUIRE_TIMEOUT (R114). -/
def Device.reacquireTimeout (d : Device) (p : Nat) : Device := if d.portState p = 5 then d.linkStart p else d

/-! ### Shedding (R115 to R121) -/

/-- Active transmit lanes. -/
def Device.txLanes (d : Device) (p : Nat) : Nat := d.get (Reg.TILE_SHED_STATUS_TX_LANES (tileOf p) (laneIn p))

/-- Shedding is in use in the transmit direction (R113, R115). -/
def Device.shedAllowed (d : Device) (p : Nat) : Bool :=
  d.portUp p && d.isJarlis p && decide (2 ≤ d.width p) && bit (d.portCfg p) 11 && (d.port p).sentShed && (d.port p).peerShed
    && !d.shedBad p && !d.flag (Reg.TILE_SHED_STATUS_SHED_OFF (tileOf p) (laneIn p))

/-- The lane-width marker (R118, R333). -/
def Device.laneMarker (d : Device) (p w : Nat) : Device :=
  let f := Reg.TILE_SHED_STATUS_LANE_EPOCH (tileOf p) (laneIn p)
  let e := (d.get f + 1) % 4
  (d.set f e).sendOs p 2 (e * 2 ^ 18 + w * 2 ^ 14)

/-- A shed to `n` lanes begins (R118). -/
def Device.shedStart (d : Device) (p n : Nat) : Device :=
  (d.laneMarker p n).updPort p fun x => { x with pending := some n }

/-- The next window begins under the configuration as it stands (R116, R130). -/
def Device.windowNext (d : Device) (p : Nat) : Device :=
  let c := BitVec.ofNat 32 (d.rd (Reg.TILE_SHED_CFG (tileOf p) (laneIn p)))
  (d.updPort p fun x => { x with windowBits := 0, firstWindow := false, shedCfg := c }).shedShow p

/-- SHED_WINDOW_END (R116, R117): a restore is decided whether shedding is allowed or not (R119). DESIGN CHOICE: where the TILE_SHED_CFG words of a
trunk's members differ, that of the port named governs; and every member must be allowed to shed. -/
def Device.shedWindowEnd (d : Device) (p : Nat) : Device :=
  let g := d.shedGroup p
  let first := g.any fun q => (d.port q).firstWindow
  let busy := g.any fun q => (d.port q).pending.isSome || (d.port q).restoring
  let ok := g.all d.shedAllowed
  let sent := (g.map fun q => (d.port q).windowBits).sum
  let n := d.txLanes p
  let cap := fun (k : Nat) => (g.map fun q => k * rateGb (cfgRate (d.portCfg q)) * d.shedWindow q * 1000000).sum
  let d :=
    if first || busy then d
    else if n < d.width p ∧ d.shedHi p * cap n < sent * 100 then d.each g fun d q => d.restoreStart q
    else if ok ∧ 2 ≤ n ∧ d.shedMin p ≤ n / 2 ∧ sent * 100 ≤ d.shedLo p * cap (n / 2) then
      d.each g fun d q => d.shedStart q (n / 2)
    else d
  d.each g fun d q => d.windowNext q

/-- The egress occupancy of physical port `p` (R116). DESIGN CHOICE: the stitches, on die and deep, of the queues of the logical ports at `p`
(R318); copies of multicast frames, which admission counts by group, are left out. -/
def Device.portOccupancy (d : Device) (p : Nat) : Nat :=
  ((d.mapped p).flatMap fun l => (List.range 16).map fun k =>
    let c := d.qc (qIdx l k)
    c.ru + c.su + c.dru + c.dsu).sum

/-- OCCUPANCY_RESTORE (R116). -/
def Device.occupancyRestore (d : Device) (p : Nat) : Device :=
  let w := d.get (Reg.TILE_SHED_CFG_WAKE_KST (tileOf p) (laneIn p))
  if w ≠ 0 ∧ d.txLanes p < d.width p ∧ w * 1024 < d.portOccupancy p then
    d.each (d.shedGroup p) fun d q => d.restoreStart q
  else d

/-- A completed change of width (R118, R119): the lanes whose logical position (R108) is `n` or more are shed. -/
def Device.widthDone (d : Device) (p n : Nat) : Device :=
  let t := tileOf p
  let k := laneIn p
  let d := (d.set (Reg.TILE_SHED_STATUS_TX_LANES t k) n).inc (Reg.TILE_SHED_STATUS_CHANGES t k)
  let pos := d.get (Reg.TILE_TXMAP_POS t)
  d.each (d.lanes p) fun d l =>
    let i := laneIn l
    d.put (Reg.LANE_STATUS_SHED t i) (decide (k + n ≤ bits pos (3 * i + 2) (3 * i)))

/-- SHED_DONE (R118). -/
def Device.shedDone (d : Device) (p : Nat) : Device :=
  match (d.port p).pending with
  | none => d
  | some n =>
    let q := (d.port p).restoreQueued
    let d := (d.widthDone p n).updPort p fun x => { x with pending := none, restoreQueued := false, windowBits := 0 }
    if q then d.restoreStart p else d

/-- The lanes of a port that a mask from its lowest lane names. -/
def Device.maskLanes (d : Device) (p m : Nat) : List Nat := (d.lanes p).filter fun l => m.testBit (l - p)

/-- The receivers of lanes of a port lock or are powered down (R118, R119): the AON signal detector shows the energy. -/
def Device.rxLanes (d : Device) (ls : List Nat) (on : Bool) : Device :=
  (d.lanesPut ls Reg.LANE_STATUS_CDR_LOCK on).lanesPut ls Reg.LANE_STATUS_SIG_DET on

/-- LANE_WIDTH_RECEIVED: the receiver follows the marker, and powers down the lanes that no longer carry data (R118, R333). -/
def Device.laneWidth (d : Device) (p w dark : Nat) : Device :=
  if d.portUp p && d.isJarlis p && (w == 1 || w == 2 || w == 4 || w == 8) && decide (w ≤ d.width p) then
    let dark := if w = d.width p then 0 else dark
    let d := d.rxLanes (d.maskLanes p (d.port p).dark) true
    let d := d.rxLanes (d.maskLanes p dark) false
    (d.updPort p fun x => { x with dark := dark }).set (Reg.TILE_SHED_STATUS_RX_LANES (tileOf p) (laneIn p)) w
  else d

/-- SHED_LANES_LOCKED: the receivers of the shed lanes hold lock again, and LANE_READY is sent (R119). -/
def Device.lanesLocked (d : Device) (p : Nat) : Device :=
  if d.portUp p && d.isJarlis p && decide (d.get (Reg.TILE_SHED_STATUS_RX_LANES (tileOf p) (laneIn p)) < d.width p) then
    (d.rxLanes (d.maskLanes p (d.port p).dark) true).sendOs p 3 (d.width p * 2 ^ 14)
  else d

/-- LANE_READY_RECEIVED: the marker for full width, on all lanes (R119). -/
def Device.laneReady (d : Device) (p w : Nat) : Device :=
  if (d.port p).restoring && w == d.width p then
    ((d.laneMarker p w).widthDone p w).updPort p fun x =>
      { x with restoring := false, wakeFails := 0, firstWindow := true, windowBits := 0 }
  else d

/-- RESTORE_TIMEOUT (R120). -/
def Device.restoreTimeout (d : Device) (p : Nat) : Device :=
  if (d.port p).restoring then
    let t := tileOf p
    let k := laneIn p
    let d := (d.incSat (Reg.TILE_SHED_STATUS_WAKE_FAIL t k)).updPort p fun x =>
      { x with restoring := false, wakeFails := x.wakeFails + 1 }
    if 3 ≤ (d.port p).wakeFails then
      ((d.put (Reg.TILE_SHED_STATUS_SHED_OFF t k) true).updPort p fun x => { x with wakeFails := 0 }).retrain p true
    else d
  else d

/-! ### Sleep (R122 to R124) -/

/-- SLEEP_ENTER: 1 s link-down without energy, so that no signal detector of the port sees any. -/
def Device.sleepEnter (d : Device) (p : Nat) : Device :=
  let t := tileOf p
  let k := laneIn p
  if d.portEn p && !d.isJarlis p && bit (d.portCfg p) 10 && !d.portUp p && !d.flag (Reg.TILE_PORT_STATUS_ASLEEP t k) then
    (((d.lanesPut (d.lanes p) Reg.LANE_STATUS_SIG_DET false).put (Reg.TILE_PORT_STATUS_ASLEEP t k) true).lanesPut (d.lanes p) Reg.LANE_STATUS_ASLEEP true).setPortState p 6
  else d

/-- SLEEP_WAKE: the lowest lane's signal detector has seen energy for 1 ms (R123). -/
def Device.sleepWake (d : Device) (p : Nat) : Device :=
  if d.flag (Reg.TILE_PORT_STATUS_ASLEEP (tileOf p) (laneIn p)) then (d.lanesPut [p] Reg.LANE_STATUS_SIG_DET true).wake p else d

/-- WAKE_PROBE (R124). -/
def Device.wakeProbe (d : Device) (p : Nat) : Device :=
  if d.flag (Reg.TILE_PORT_STATUS_ASLEEP (tileOf p) (laneIn p)) && bits (d.portCfg p) 7 0 != 0 && !(d.port p).probing then
    let d := (d.wakeAsk (tileOf p)).updPort p fun x => { x with probing := true }
    d.each (d.lanes p) fun d l => d.emit (.transmit l (cfgAn (d.portCfg p) != 0))
  else d

/-- WAKE_PROBE_END; `energy` says that the partner's energy was seen (R124). -/
def Device.wakeProbeEnd (d : Device) (p : Nat) (energy : Bool) : Device :=
  if (d.port p).probing then
    let d := d.updPort p fun x => { x with probing := false }
    if energy then (d.lanesPut [p] Reg.LANE_STATUS_SIG_DET true).wake p else d
  else d

/-! ### Meanings -/

/-- STALE_DRAIN_DONE (R31). -/
def execStaleDrainDone (p : Fin 512) (s : State) : Host.Outcome State Fault Refusal := s.run (·.staleDone p.val)

/-- PLL_LOCK (R99). -/
def execPllLock (t : Fin 64) (j : Fin 2) (s : State) : Host.Outcome State Fault Refusal :=
  s.run (·.pllLock t.val j.val)

/-- PLL_LOSS (R100, R587). -/
def execPllLoss (n : Fin 144) (s : State) : Host.Outcome State Fault Refusal := s.run (·.pllLoss n.val)

/-- AN_PAGE_EXCHANGE_DONE (R111). -/
def execAnPageExchangeDone (p : Fin 512) (techs : List Tech) (s : State) : Host.Outcome State Fault Refusal :=
  s.run (·.anDone p.val techs)

/-- PARALLEL_DETECT (R111). -/
def execParallelDetect (p : Fin 512) (s : State) : Host.Outcome State Fault Refusal := s.run (·.parallelDetect p.val)

/-- TRAINING_COMPLETE (R111). -/
def execTrainingComplete (p : Fin 512) (s : State) : Host.Outcome State Fault Refusal := s.run (·.trained p.val)

/-- JARLIS_PAGES_RECEIVED (R113). -/
def execJarlisPagesReceived (p : Fin 512) (jver : BitVec 4) (domain devid : BitVec 12) (shed : Bool) (s : State) :
    Host.Outcome State Fault Refusal := s.run (·.jarlisPages p.val jver.toNat domain.toNat devid.toNat shed)

/-- NOT_JARLIS_RETRY (R113). -/
def execNotJarlisRetry (p : Fin 512) (s : State) : Host.Outcome State Fault Refusal := s.run (·.notJarlisRetry p.val)

/-- LINK_DOWN (R114). -/
def execLinkDown (x : LinkFault) (s : State) : Host.Outcome State Fault Refusal :=
  s.run (·.linkFault x.port.val x.cause x.lane.val)

/-- LINK_REACQUIRED (R114). -/
def execLinkReacquired (p : Fin 512) (s : State) : Host.Outcome State Fault Refusal := s.run (·.linkReacquired p.val)

/-- REACQUIRE_TIMEOUT (R114). -/
def execReacquireTimeout (p : Fin 512) (s : State) : Host.Outcome State Fault Refusal :=
  s.run (·.reacquireTimeout p.val)

/-- SHED_WINDOW_END (R116). -/
def execShedWindowEnd (p : Fin 512) (s : State) : Host.Outcome State Fault Refusal := s.run (·.shedWindowEnd p.val)

/-- OCCUPANCY_RESTORE (R116). -/
def execOccupancyRestore (p : Fin 512) (s : State) : Host.Outcome State Fault Refusal :=
  s.run (·.occupancyRestore p.val)

/-- SHED_DONE (R118). -/
def execShedDone (p : Fin 512) (s : State) : Host.Outcome State Fault Refusal := s.run (·.shedDone p.val)

/-- LANE_WIDTH_RECEIVED (R118). -/
def execLaneWidthReceived (p : Fin 512) (w : WidthSet) (s : State) : Host.Outcome State Fault Refusal :=
  s.run (·.laneWidth p.val w.width.toNat w.dark.toNat)

/-- SHED_LANES_LOCKED (R119). -/
def execShedLanesLocked (p : Fin 512) (s : State) : Host.Outcome State Fault Refusal := s.run (·.lanesLocked p.val)

/-- LANE_READY_RECEIVED (R119). -/
def execLaneReadyReceived (p : Fin 512) (width : BitVec 4) (s : State) : Host.Outcome State Fault Refusal :=
  s.run (·.laneReady p.val width.toNat)

/-- RESTORE_TIMEOUT (R120). -/
def execRestoreTimeout (p : Fin 512) (s : State) : Host.Outcome State Fault Refusal := s.run (·.restoreTimeout p.val)

/-- SLEEP_ENTER (R122). -/
def execSleepEnter (p : Fin 512) (s : State) : Host.Outcome State Fault Refusal := s.run (·.sleepEnter p.val)

/-- SLEEP_WAKE (R123). -/
def execSleepWake (p : Fin 512) (s : State) : Host.Outcome State Fault Refusal := s.run (·.sleepWake p.val)

/-- WAKE_PROBE (R124). -/
def execWakeProbe (p : Fin 512) (s : State) : Host.Outcome State Fault Refusal := s.run (·.wakeProbe p.val)

/-- WAKE_PROBE_END (R124). -/
def execWakeProbeEnd (p : Fin 512) (energy : Bool) (s : State) : Host.Outcome State Fault Refusal :=
  s.run (·.wakeProbeEnd p.val energy)

end Sys2Proof.Machine
end

