-- ==== Sys2Proof/Machine/Jarlis.lean ====
section
/-!
DEFINITION. The Jarlis fabric: identity, ordered sets, credits, the release of resequenced frames, trunks and their epoch
changes (R327 to R347), with the meanings of the commands that are no register writes.
-/
namespace Sys2Proof.Machine

/-! ### Identity (R327, R328) -/

/-- The device's identity changes: every enabled Jarlis port goes link-down and starts again (R328). -/
def Device.identityChange (d : Device) : Device :=
  d.each ((List.range 512).filter fun p => d.portEn p && d.isJarlis p) fun d p => (d.linkDown p false).portStart p

/-- The payload of IDENT_A that a port sends (R333). -/
def Device.identA (d : Device) (p : Nat) : Nat :=
  let shed := bit (d.portCfg p) 11
  let trunked := (d.trunkOfMember p).isSome
  2 ^ 16 + 2 ^ 15 * b2n shed + 2 ^ 14 + 2 ^ 13 * b2n trunked + d.get Reg.JFL_CFG_DEVID

/-- IDENT_SEND (R328): a port that is up, or that waits for its peer's identity (R113). Where no pages did, they announce SHED (R115). -/
def Device.identSend (d : Device) (p : Nat) : Device :=
  if d.isJarlis p && (d.portUp p || (d.port p).trained) then
    let d := (d.sendOs p 5 (d.identA p)).sendOs p 6 (d.get Reg.JFL_CFG_DOMAIN)
    let c := d.portCfg p
    if cfgAn c = 2 then d else d.updPort p fun x => { x with sentShed := bit c 11 }
  else d

/-- The peer's TRUNKED as its latest IDENT_A shows it; a change of it is a change by configuration (R337, R344). -/
def Device.peerTrunk (d : Device) (p : Nat) (v : Bool) : Device :=
  if d.peerTrunked p = v then d
  else
    let d := d.onJfl fun j => { j with trunked := mset (fun _ => false) j.trunked p v }
    match d.trunkOfMember p with
    | some t =>
      let d := (d.trunkUpdate t true).undoMoved
      if (d.usable t).isEmpty then d else d.clearNopath fun b => b.2.1 == 2 && b.2.2 == t
    | none => d

/-- A port that is up hears another identity than it came up with (R328). -/
def Device.identChanged (d : Device) (p : Nat) : Bool :=
  let x := d.port p
  match x.came with
  | none => false
  | some (v, dom, dev) =>
    (match x.identA with | some (v', dev') => v' != v || dev' != dev | none => false)
      || (match x.identB with | some dom' => dom' != dom | none => false)

/-- The identity received so far decides: an up port restarts on a change; a trained port that waits comes up or stays down
(R113, R327, R328). -/
def Device.identJudge (d : Device) (p : Nat) : Device :=
  if d.portUp p then (if d.identChanged p then (d.linkDown p true).linkStart p else d)
  else if (d.port p).trained && d.portState p == 3 then
    match (d.port p).identA, (d.port p).identB with
    | some (v, dev), some dom =>
      let (ok, d) := d.identityOk p v dom dev
      if ok then d.linkUp p else d
    | _, _ => d
  else d

/-- IDENT_RECEIVED: IDENT_A (or IDENT_B) with its payload (R333). A peer that sheds no more makes the port restore full width (R119). -/
def Device.identReceived (d : Device) (p : Nat) (b : Bool) (v : Nat) : Device :=
  if !(d.portEn p && d.isJarlis p) then d
  else if b then (d.updPort p fun x => { x with identB := some (v % 4096) }).identJudge p
  else
    let an := cfgAn (d.portCfg p)
    let was := (d.port p).peerShed
    let now := bit v 15 && (was || an != 2)
    let d := d.updPort p fun x => { x with identA := some (bits v 19 16, v % 4096), peerShed := now }
    let d := d.when (was && !now) fun d => d.each (d.shedGroup p) fun d q => d.restoreStart q
    (d.peerTrunk p (bit v 13)).identJudge p

/-! ### Ordered sets and credit (R333, R335) -/

/-- ORDERED_SET_UNKNOWN (R333). -/
def Device.orderedSetUnknown (d : Device) (p : Nat) : Device :=
  if d.portEn p && d.isJarlis p then (d.put Reg.JFL_STATUS_OS_UNKNOWN true).set Reg.JFL_STATUS_PORT p else d

/-- LINK_DOWN_OS_SEND (R333). -/
def Device.linkDownSend (d : Device) (p : Nat) : Device :=
  if d.portEn p && d.isJarlis p && !d.portUp p then d.sendOs p 4 0 else d

/-- CREDIT_SEND (R335). -/
def Device.creditSend (d : Device) (p k : Nat) : Device :=
  if d.isJarlis p && d.portUp p then d.sendOs p 1 (k * 65536 + nget d.jarlis.freed (16 * p + k)) else d

/-- CREDIT_RECEIVED (R335). -/
def Device.creditReceived (d : Device) (p k freed : Nat) : Device :=
  if d.isJarlis p && d.portUp p then
    let i := 16 * p + k
    let add := (freed + 65536 - nget d.jarlis.lastf i % 65536) % 65536
    let avail := d.get (Reg.JFL_CRED_AVAIL p k)
    (d.set (Reg.JFL_CRED_AVAIL p k) ((avail + add) % 65536)).onJfl fun j => { j with lastf := nset j.lastf i freed }
  else d

/-! ### Release and timeout (R342, R343, R346) -/

/-- The slot at NEXT, if a context can release it: `none` for a skipped sequence number. -/
def Ctx.releasable (c : Ctx) : Option (Option Slot) :=
  match mget (fun _ => none) c.slots c.next with
  | some x => if x.state = 1 then none else some (some x)
  | none => if c.skipped c.next ∨ (c.ending ∧ c.slots ≠ []) then some none else none

/-- NEXT advances past its slot and the runs of skipped numbers behind it go; an ending context with no slot left is unbased
(R346). -/
def Ctx.advance (c : Ctx) : Ctx :=
  let slots := mset (fun _ => none) c.slots c.next none
  let next := (c.next + 1) % 2 ^ 24
  let c := { c with slots := slots, next := next, freed := true,
                    skip := c.skip.filter fun r => decide (seqDist next (r.1 + r.2 - 1) < 2 ^ 23) }
  if c.ending && slots.isEmpty then { next := c.next } else c

/-- Release the slot at NEXT of context `k` of slice `s`. -/
def Device.releaseSlot (d : Device) (s k : Nat) (x : Option Slot) : Device :=
  let d := d.onCtx k Ctx.advance
  match x with
  | none => d.inc (Reg.JFL_STAT_COUNT 2)
  | some x => match x.state, x.frame with
    | 2, some f => d.place s { f with ctx := none }
    | _, _ => d

/-- The contexts of a slice that hold something, as keys 16 × trunk + class. -/
def Device.contextsOf (d : Device) (s : Nat) : List Nat :=
  (d.jarlis.ctx.map fun e => e.1).filter fun k => d.get (Reg.JFL_TRUNK_CFG_SLICE (k / 16)) == s

/-- Up to `n` slots are released, the contexts being served round-robin from the slice's pointer. -/
def releaseLoop (s : Nat) : Nat → Device → Device
  | 0, d => d
  | n + 1, d =>
    let ks := (d.contextsOf s).filter fun k => (d.ctx k).releasable.isSome
    let ptr := nget d.jarlis.relPtr s
    match (ks.find? fun k => decide (ptr ≤ k)).or ks.head? with
    | none => d
    | some k =>
      let d := d.onJfl fun j => { j with relPtr := nset j.relPtr s ((k + 1) % 4096) }
      match (d.ctx k).releasable with
      | some x => releaseLoop s n (d.releaseSlot s k x)
      | none => d

/-- RESEQ_RELEASE: one clock of a slice (R342). -/
def Device.reseqRelease (d : Device) (s : Nat) : Device := releaseLoop s 4 d

/-- The distance from NEXT to the lowest occupied slot. -/
def Ctx.lowest (c : Ctx) : Option Nat :=
  (c.slots.map fun e => seqDist c.next e.1).min?

/-- RESEQ_TIMEOUT of context `k`: the empty slots below the lowest occupied one are skipped (R343). -/
def Device.reseqTimeout (d : Device) (k : Nat) : Device :=
  let c := d.ctx k
  match c.lowest with
  | some n =>
    if 0 < n ∧ !c.skipped c.next then (d.onCtx k fun c => c.skipFrom c.next n).inc (Reg.JFL_STAT_COUNT 3) else d
  | none => d

/-! ### Trunks (R337, R344 to R346, R355) -/

/-- The members that CFG and MEMBERS words name. -/
def memberPorts (slice members : Nat) : List Nat := (bitsSet 32 members).map (32 * slice + ·)

/-- The checks of R337 on words CFG and MEMBERS as they would stand. -/
def Device.trunkOk (d : Device) (t cfg members : Nat) : Bool :=
  let slice := bits cfg 30 27
  let others := d.trunks.filter (· != t)
  ((memberPorts slice members).all fun p =>
      d.portEn p && d.isJarlis p && !(others.any fun u => (d.trunkMembers u).contains p))
    && !(d.trunkEn t && d.get (Reg.JFL_TRUNK_CFG_SLICE t) != slice)

/-- A write of MEMBERS is refused while CHANGING is 1 (R337). -/
def Device.trunkChanging (d : Device) (t : Nat) : Bool := d.flag (Reg.JFL_TRUNK_STATUS_CHANGING t)

/-- A port is no longer attached (R346). -/
def Device.detach (d : Device) (p : Nat) : Device :=
  match d.attached p with
  | none => d
  | some t => (d.onJfl fun j => { j with attach := mset (fun _ => (0, false)) j.attach p (0, false) }).checkAttached t

/-- Attachment follows a change of the members (R346): a port put in is attached, one taken out stays until a marker or a
timeout. -/
def Device.attachSet (d : Device) (t : Nat) (old new : List Nat) : Device :=
  let d := d.each (old.filter fun p => !new.contains p) fun d p =>
    if d.attached p = some t then
      d.onJfl fun j => { j with attach := mset (fun _ => (0, false)) j.attach p (t + 1, true) }
    else d
  d.each new fun d p =>
    let was := d.attached p
    let d := d.onJfl fun j => { j with attach := mset (fun _ => (0, false)) j.attach p (t + 1, false) }
    match was with
    | some u => if u = t then d else d.checkAttached u
    | none => d

/-- A change of a trunk is decided (R344, step 1). -/
def Device.changeStart (d : Device) (t : Nat) (oldSet : Nat) : Device :=
  if (d.trunk t).phase = 0 then
    (d.onTrunk t fun x => { x with phase := 1, oldSet := oldSet, fromEmpty := oldSet == 0 }).put
      (Reg.JFL_TRUNK_STATUS_CHANGING t) true
  else d.onTrunk t fun x => { x with again := true }

/-- A trunk that is disabled stops: no further trunk frames, its contexts released as at reset (R347). -/
def Device.trunkStop (d : Device) (t : Nat) : Device :=
  let d := d.onTrunk t fun x => { x with cur := 0, phase := 0, again := false }
  let d := (d.put (Reg.JFL_TRUNK_STATUS_CHANGING t) false).set (Reg.JFL_TRUNK_STATUS_USABLE t) 0
  (d.endContexts t).undoMoved

/-- An accepted write of word CFG of a trunk. -/
def Device.trunkCfgStore (d : Device) (t v : Nat) : Device :=
  let was := d.trunkEn t
  let old := d.trunkMembers t
  let d := d.wr (Reg.JFL_TRUNK_CFG t) v
  let d := d.attachSet t old (d.trunkMembers t)
  if !was && bit v 31 then
    let d := d.trunkUpdate t true
    if (d.usable t).isEmpty then d else d.clearNopath fun b => b.2.1 == 2 && b.2.2 == t
  else if was && !bit v 31 then d.trunkStop t
  else d

/-- A change of a trunk's words, after which CFG_BAD follows at the ports that were members and those that are (R117). -/
def Device.trunkShows (d : Device) (t : Nat) (f : Device → Device) : Device :=
  let old := d.trunkMembers t
  let d := f d
  d.shedShows (old ++ (d.trunkMembers t).filter fun p => !old.contains p)

/-- A write of word CFG of a trunk. -/
def Device.trunkCfgWrite (d : Device) (t v : Nat) : Device := d.trunkShows t fun d => d.trunkCfgStore t v

/-- An accepted write of word MEMBERS of a trunk: with EN 1 it starts an epoch change. -/
def Device.trunkMembersStore (d : Device) (t v : Nat) : Device :=
  let old := d.trunkMembers t
  let oldSet := (d.trunk t).cur
  let d := (d.wr (Reg.JFL_TRUNK_MEMBERS t) v).attachSet t old (memberPorts (d.get (Reg.JFL_TRUNK_CFG_SLICE t)) v)
  if d.trunkEn t then
    let d := (d.trunkUpdate t true).undoMoved
    let d := if (d.trunk t).phase = 0 then d.changeStart t oldSet else d
    if (d.usable t).isEmpty then d else d.clearNopath fun b => b.2.1 == 2 && b.2.2 == t
  else d

/-- A write of word MEMBERS of a trunk. -/
def Device.trunkMembersWrite (d : Device) (t v : Nat) : Device := d.trunkShows t fun d => d.trunkMembersStore t v

/-- EPOCH_CHANGE_START: selection of the trunk's frames has stopped (R344, steps 1 and 2). -/
def Device.epochStart (d : Device) (t : Nat) : Device :=
  if (d.trunk t).phase = 1 then d.onTrunk t fun x => { x with phase := 2 } else d

/-- Frames of a trunk that are selected or in transmission. -/
def Device.trunkSending (d : Device) (t : Nat) : Bool :=
  let of := fun (e : EgrEntry) => match e.seq with | some (u, _, _) => u == t | none => false
  d.path.sel.any (fun e => e.2.any fun s => of s.entry)
    || d.path.tx.any fun e => match e.2 with | some x => of x.entry | none => false

/-- An EPOCH marker of trunk `t` for member `p`, without its FCS (R345). -/
def Device.markerBytes (d : Device) (t p epoch : Nat) : List Byte :=
  let h : JHdr := { type := 2, epoch := epoch, tc := 15, srcDev := d.get Reg.JFL_CFG_DEVID, srcPort := p }
  h.toBytes ++ beBytes 1 1 ++ beBytes 3 0 ++ (List.range 16).flatMap fun k => beBytes 3 (nget d.jarlis.txseq (16 * t + k))

/-- EPOCH_MARKER_SEND (R344, steps 3 and 4). A muted port sends no frame. -/
def Device.markerSend (d : Device) (t : Nat) : Device :=
  let tr := d.trunk t
  if tr.phase = 2 ∧ !d.trunkSending t then
    let f := Reg.JFL_TRUNK_STATUS_TX_EPOCH t
    let d := d.when (!tr.fromEmpty) fun d => d.set f ((d.get f + 1) % 4)
    let d := d.inc (Reg.JFL_STAT_COUNT 5)
    let e := d.get f
    let all := (bitsSet 32 (tr.oldSet ||| tr.cur)).map (d.trunkBase t + ·)
    let d := d.each (all.filter fun p => d.portUp p && !d.unit.muted) fun d p =>
      let d := d.updPort p fun x => { x with windowBits := x.windowBits + 8 * 72 }
      (((d.emit (.frame p (d.markerBytes t p e) true false)).macStat p 27 72).macStat p 28).pmc 3 p
    d.onTrunk t fun x => { x with phase := 3, oldSet := x.cur }
  else d

/-- EPOCH_CHANGE_END (R344, step 5). -/
def Device.epochEnd (d : Device) (t : Nat) : Device :=
  let tr := d.trunk t
  if tr.phase = 3 then
    let d := (d.onTrunk t fun x => { x with phase := 0, again := false }).put (Reg.JFL_TRUNK_STATUS_CHANGING t) false
    if tr.again then d.changeStart t tr.oldSet else d
  else d

/-- NEXT_k of a marker (R345). -/
def markerNext (bs : List Byte) (k : Nat) : Nat := beNat (slice bs (20 + 3 * k) 3)

/-- A marker bases the contexts of its trunk, or lowers the NEXT of one that a data frame based and that has released nothing
(R346, R347); any other, a duplicate among them, changes nothing. -/
def Ctx.marker (c : Ctx) (n : Nat) : Ctx :=
  if !c.based then { c with based := true, next := n, skip := [], freed := false }
  else if !c.freed && decide (seqDist n c.next < 2 ^ 23) then { c with next := n }
  else c

/-- EPOCH_MARKER_RECEIVED: the oldest control frame received on port `p` acts (R346). -/
def Device.markerReceived (d : Device) (p : Nat) : Device :=
  match d.jarlis.awaiting.find? fun f => f.src == p && (readJHdr f.bytes).type == 2 with
  | none => d
  | some f =>
    let d := d.onJfl fun j => { j with awaiting := j.awaiting.erase f }
    match d.attached p with
    | none => d
    | some t =>
      let d := d.set (Reg.JFL_TRUNK_STATUS_RX_EPOCH t) (readJHdr f.bytes).epoch
      let d := d.inc (Reg.JFL_STAT_COUNT 6)
      let d := d.each (List.range 16) fun d k => d.onCtx (16 * t + k) fun c => c.marker (markerNext f.bytes k)
      if (mget (fun _ => (0, false)) d.jarlis.attach p).2 then d.detach p else d

/-- TRUNK_DETACH_TIMEOUT (R346). -/
def Device.detachTimeout (d : Device) (p : Nat) : Device :=
  if (mget (fun _ => (0, false)) d.jarlis.attach p).2 then d.detach p else d

/-! ### Management frames (R350) -/

/-- The agent originates a management frame with a PDU: a frame of port 513 with a ready header and a fixed destination. -/
def Device.mgmtOriginate (d : Device) (dev : Nat) (pdu : List Byte) : Device :=
  let h : JHdr := { tc := 15, hops := d.get Reg.JFL_CFG_HOP_INIT, srcDev := d.get Reg.JFL_CFG_DEVID, dstDev := dev,
                    srcPort := 513, dest := 0xFFFE }
  let bs := h.toBytes ++ pdu
  let bs := bs ++ List.replicate (60 - bs.length) 0
  let (id, d) := d.freshId
  let dest := match d.route dev with | some p => Dest.port p | none => Dest.drop 31
  let f : Frame := { id := id, bytes := bs, src := 513, arrival := d.us, fixed := true, jh := true,
                     dec := { dest := dest, tc := 15, queue := 15 } }
  d.onPath fun p => { p with intReady := lpush p.intReady 513 f }

/-- The PDU of a management frame. -/
def Frame.pdu (f : Frame) : List Byte := f.bytes.drop 16

/-- A PDU is well formed (R351): COUNT 1 to 32, and its operations lie within the frame. -/
def pduOk (pdu : List Byte) : Bool :=
  decide (1 ≤ byteAt pdu 1) && decide (byteAt pdu 1 ≤ 32) && decide (8 + 16 * byteAt pdu 1 ≤ pdu.length)

/-- A management frame for this device waits for the agent, a response or not. -/
def Device.mgmtWaiting (d : Device) (response : Bool) : Option Frame :=
  d.jarlis.awaiting.find? fun f => (readJHdr f.bytes).type != 2 && (byteAt f.pdu 0 == 2) == response

/-- The frame is discarded under MGMT_DROP. -/
def Device.mgmtDrop (d : Device) (f : Frame) : Device := d.countDrop f (sliceOf f.src) f.src 38

/-- MGMT_FRAME_DELIVER: the agent accepts a request or discards the frame (R350 to R352). -/
def Device.mgmtDeliver (d : Device) : Device :=
  match d.mgmtWaiting false with
  | none => d
  | some f =>
    let d := d.onJfl fun j => { j with awaiting := j.awaiting.erase f }
    let src := (readJHdr f.bytes).srcDev
    let request := byteAt f.pdu 0 == 1
    let allowed := d.flag Reg.JFL_MGMT_CFG_EN && (d.flag Reg.JFL_MGMT_CFG_ANY_SRC || src == d.get Reg.JFL_MGMT_CFG_SRC_DEV)
    if request && pduOk f.pdu && allowed && decide (d.jarlis.mgmt.length < 16) then
      d.onJfl fun j => { j with mgmt := j.mgmt ++ [(src, f.pdu)] }
    else (d.when request fun d => d.inc Reg.JFL_MGMT_STATUS_REFUSED).mgmtDrop f

/-! ### Meanings -/

/-- IDENT_SEND (R328). -/
def execIdentSend (p : Fin 512) (s : State) : Host.Outcome State Fault Refusal := s.run (·.identSend p.val)

/-- IDENT_RECEIVED (R328). -/
def execIdentReceived (p : Fin 512) (identB : Bool) (payload : BitVec 20) (s : State) :
    Host.Outcome State Fault Refusal := s.run (·.identReceived p.val identB payload.toNat)

/-- IDENT_RETRY (R327). -/
def execIdentRetry (p : Fin 512) (s : State) : Host.Outcome State Fault Refusal := s.run (·.notJarlisRetry p.val)

/-- ORDERED_SET_UNKNOWN (R333). -/
def execOrderedSetUnknown (p : Fin 512) (s : State) : Host.Outcome State Fault Refusal :=
  s.run (·.orderedSetUnknown p.val)

/-- LINK_DOWN_OS_SEND (R333). -/
def execLinkDownOsSend (p : Fin 512) (s : State) : Host.Outcome State Fault Refusal := s.run (·.linkDownSend p.val)

/-- CREDIT_SEND (R335). -/
def execCreditSend (p : Fin 512) (k : Fin 16) (s : State) : Host.Outcome State Fault Refusal :=
  s.run (·.creditSend p.val k.val)

/-- CREDIT_RECEIVED (R335). -/
def execCreditReceived (p : Fin 512) (k : Fin 16) (freed : BitVec 16) (s : State) : Host.Outcome State Fault Refusal :=
  s.run (·.creditReceived p.val k.val freed.toNat)

/-- RESEQ_RELEASE (R342). -/
def execReseqRelease (sl : Fin 16) (s : State) : Host.Outcome State Fault Refusal := s.run (·.reseqRelease sl.val)

/-- RESEQ_TIMEOUT (R343). -/
def execReseqTimeout (t : Fin 256) (k : Fin 16) (s : State) : Host.Outcome State Fault Refusal :=
  s.run (·.reseqTimeout (16 * t.val + k.val))

/-- EPOCH_CHANGE_START (R344). -/
def execEpochChangeStart (t : Fin 256) (s : State) : Host.Outcome State Fault Refusal := s.run (·.epochStart t.val)

/-- EPOCH_MARKER_SEND (R344). -/
def execEpochMarkerSend (t : Fin 256) (s : State) : Host.Outcome State Fault Refusal := s.run (·.markerSend t.val)

/-- EPOCH_CHANGE_END (R344). -/
def execEpochChangeEnd (t : Fin 256) (s : State) : Host.Outcome State Fault Refusal := s.run (·.epochEnd t.val)

/-- EPOCH_MARKER_RECEIVED (R346). -/
def execEpochMarkerReceived (p : Fin 512) (s : State) : Host.Outcome State Fault Refusal :=
  s.run (·.markerReceived p.val)

/-- TRUNK_DETACH_TIMEOUT (R346). -/
def execTrunkDetachTimeout (p : Fin 512) (s : State) : Host.Outcome State Fault Refusal :=
  s.run (·.detachTimeout p.val)

/-- MGMT_FRAME_DELIVER (R350). -/
def execMgmtFrameDeliver (s : State) : Host.Outcome State Fault Refusal := s.run (·.mgmtDeliver)

end Sys2Proof.Machine
end

