-- ==== Sys2Proof/Machine/Deep.lean ====
section
/-!
DEFINITION. The deep store (R433 to R457) and the spill engine (R257 to R260), the recompute of the minima (R255) and the
drop-capture bucket (R263), with the meanings of the commands that are no register writes.
-/
namespace Sys2Proof.Machine

/-! ### Stacks and slots (R433, R434) -/

/-- Change the deep store. -/
def Device.onDst (d : Device) (f : DeepStore → DeepStore) : Device := { d with deep := f d.deep }

/-- DST_STACK.STATE of a stack (R453): 0 OFF, 1 CHECK, 2 IN_SERVICE, 3 FAILED, 4 TEST. -/
def Device.stackState (d : Device) (k : Nat) : Nat := d.get (Reg.DST_STACK_STATE k)

/-- The stacks in service. -/
def Device.inService (d : Device) : List Nat := (List.range 4).filter fun k => d.stackState k == 2

/-- Fields of a slot index. -/
def slotStack (s : Nat) : Nat := bits s 27 26
def slotRow (s : Nat) : Nat := bits s 25 13
def slotBank (s : Nat) : Nat := bits s 12 7
def slotPc (s : Nat) : Nat := bits s 4 0

/-- The pair (stack, PC) of a slot, as 32 × stack + PC. -/
def slotPair (s : Nat) : Nat := 32 * slotStack s + slotPc s

/-- The slot at place `i` of a pair, counting from its lowest slot. -/
def pairSlot (pair i : Nat) : Nat := pair / 32 * 2 ^ 26 + i * 32 + pair % 32

/-- The row of a slot: the four slots of a row share it. -/
def slotRowKey (s : Nat) : Nat := withBits s 6 5 0

/-- A slot of a retired row (R445). -/
def Device.slotRetired (d : Device) (s : Nat) : Bool := mget (fun _ => false) d.deep.retired (slotRowKey s)

/-! ### Free slots (R436) -/

/-- Requests for the eight bursts of each slot enter the queues of their PCs (R434, R439). -/
def Device.request (d : Device) (write : Bool) (slots : List Nat) : Device :=
  d.each slots fun d s => d.onDst fun x =>
    { x with req := lset x.req (slotPair s) (lget x.req (slotPair s) ++ (List.range 8).map fun b => ⟨write, s, b, 0⟩) }

/-- Take a slot of a pair: from its cache, its free blocks, or at the high-water mark. Slots of retired rows are skipped. A block is read
as a whole slot (R439; DESIGN CHOICE). -/
def takeSlot (pair : Nat) : Nat → Device → Option Nat × Device
  | 0, d => (none, d)
  | fuel + 1, d =>
    match lget d.deep.cache pair with
    | s :: rest =>
      let d := d.onDst fun x => { x with cache := lset x.cache pair rest }
      if d.slotRetired s then takeSlot pair fuel d else (some s, d)
    | [] => match lget d.deep.blocks pair with
      | (b, l) :: rest =>
        let d := d.onDst fun x => { x with blocks := lset x.blocks pair rest, cache := lset x.cache pair (l ++ [b]) }
        takeSlot pair fuel (d.request false [b])
      | [] =>
        let i := nget d.deep.mark pair
        if 2 ^ 21 ≤ i then (none, d)
        else
          let d := d.onDst fun x => { x with mark := nset x.mark pair (i + 1) }
          if d.slotRetired (pairSlot pair i) then takeSlot pair fuel d else (some (pairSlot pair i), d)

/-- Give slots to `n` stitches from consecutive lists: over the stacks in service first, the PCs second. -/
def takeSlots : Nat → Nat → Device → List Nat × Device
  | 0, _, d => ([], d)
  | _, 0, d => ([], d)
  | fuel + 1, n + 1, d =>
    let svc := d.inService
    if svc.isEmpty then ([], d)
    else
      let (i, pc) := d.deep.rot
      let pair := 32 * svc.getD (i % svc.length) 0 + pc
      let next := if i + 1 < svc.length then (i + 1, pc) else (0, (pc + 1) % 32)
      let (o, d) := takeSlot pair (5 * d.deep.retired.length + 3) (d.onDst fun x => { x with rot := next })
      match o with
      | some s => let (l, d) := takeSlots fuel n d; (s :: l, d)
      | none => takeSlots fuel (n + 1) d

/-- A slot is freed: not in a stack out of service, not in a retired row. A full cache of 64 writes a free block, as a whole slot (R439;
DESIGN CHOICE). -/
def Device.freeSlot (d : Device) (s : Nat) : Device :=
  let pair := slotPair s
  if d.stackState (slotStack s) ≠ 2 ∨ d.slotRetired s then d
  else
    let c := s :: lget d.deep.cache pair
    if c.length < 64 then d.onDst fun x => { x with cache := lset x.cache pair c }
    else (d.onDst fun x => { x with cache := lset x.cache pair [],
                                    blocks := lset x.blocks pair ((s, c.drop 1) :: lget x.blocks pair) }).request true [s]

/-- Requests for slots leave the queues: done, or cancelled. -/
def Device.unrequest (d : Device) (slots : List Nat) : Device :=
  d.each slots fun d s => d.onDst fun x =>
    { x with req := lset x.req (slotPair s) ((lget x.req (slotPair s)).filter fun r => r.slot != s) }

/-! ### Capacity -/

/-- Slots of retired rows in service. -/
def Device.retiredSlots (d : Device) : Nat :=
  4 * (d.deep.retired.filter fun e => e.2 && d.stackState (slotStack e.1) == 2).length

/-- BUF_DEEP_EFF follows the slots in service (R445); a change starts a recompute (R255). -/
def Device.deepCapacity (d : Device) : Device :=
  let u := (67108864 * d.inService.length - d.retiredSlots) / 4096
  if d.deepUnits = u then d else (d.set Reg.BUF_DEEP_EFF_UNITS u).recomputeStart

/-- Forget what the free lists of a stack hold (R447, R448). -/
def Device.dropLists (d : Device) (k : Nat) : Device :=
  d.onDst fun x => { x with mark := merase x.mark (32 * k) (32 * k + 32), cache := merase x.cache (32 * k) (32 * k + 32),
                            blocks := merase x.blocks (32 * k) (32 * k + 32) }

/-! ### Failure of a stack (R446, R447) -/

/-- The requests of the frames in write staging that have no slots enter, oldest frame first. -/
def Device.spillFeed (d : Device) : Device :=
  if d.inService.isEmpty then d
  else d.each d.path.voq fun d e =>
    d.each ((List.range e.2.deep.length).filter fun i =>
        match e.2.deep[i]? with | some f => f.state == 0 && f.slots.isEmpty | none => false) fun d i =>
      match (d.voq e.1).deep[i]? with
      | none => d
      | some f =>
        let (l, d) := takeSlots (f.frame.n + 128) f.frame.n d
        (d.onVoq e.1 fun v => { v with deep := v.deep.set i { f with slots := l } }).request true l

/-- Writes to a stack that were not complete are issued again elsewhere. -/
def Device.reissue (d : Device) (k : Nat) : Device :=
  d.each d.path.voq fun d e =>
    d.each (List.range e.2.deep.length) fun d i =>
      match (d.voq e.1).deep[i]? with
      | none => d
      | some f =>
        let lost := f.slots.filter fun s => slotStack s == k
        if f.state ≠ 0 ∨ lost.isEmpty then d
        else if d.inService.isEmpty then
          (d.unrequest f.slots).onVoq e.1 fun v => { v with deep := v.deep.set i { f with slots := [] } }
        else
          let (l, d) := takeSlots (lost.length + 128) lost.length d
          let slots := (f.slots.foldl (fun (a : List Nat × List Nat) s =>
            if slotStack s = k then (a.1 ++ a.2.take 1, a.2.drop 1) else (a.1 ++ [s], a.2)) ([], l)).1
          ((d.onVoq e.1 fun v => { v with deep := v.deep.set i { f with slots := slots } }).request true l).inc
            (Reg.DST_STAT_COUNT 6) lost.length

/-- The frames that a failed stack holds part of will be discarded at read-back, also if the stack returns before (R447); what the
stack held of them is gone. -/
def Device.deepLost (d : Device) (k : Nat) : Device :=
  d.onPath fun p => { p with voq := p.voq.map fun e => (e.1, { e.2 with deep := e.2.deep.map fun f =>
    if (f.slots.any fun s => slotStack s == k) then
      { f with slots := f.slots.filter fun s => slotStack s != k, drop := some 24 } else f }) }

/-- A stack leaves service, or fails its check, with a cause of R446 (R447). -/
def Device.stackFail (d : Device) (k cause : Nat) : Device :=
  let d := (d.set (Reg.DST_STACK_STATE k) 3).set (Reg.DST_STACK_CAUSE k) cause
  let d := d.put (Reg.DST_STACK_ROTATE k) false
  let d := d.set Reg.DST_STATUS_STACK_FAIL (setBit (d.get Reg.DST_STATUS_STACK_FAIL) k true)
  let d := (d.inc (Reg.DST_STAT_COUNT 7)).when (cause == 2) fun d => d.inc (Reg.DST_STAT_COUNT 5) 8
  let d := (((d.dropLists k).reissue k).deepLost k).deepCapacity
  let d := d.when d.inService.isEmpty fun d => d.pwrDown 114
  (d.auditEvent 7 k cause 0).event 6 k cause

/-- STACK_FAILURE: a cause of R446 in a stack in service. -/
def Device.stackFailure (d : Device) (k cause : Nat) : Device :=
  if d.stackState k = 2 ∧ cause ≠ 0 then d.stackFail k cause else d

/-- The requests and open rows of a stack are abandoned. -/
def Device.abandon (d : Device) (k : Nat) : Device :=
  d.onDst fun x => { x with req := merase x.req (32 * k) (32 * k + 32), openRow := merase x.openRow (2048 * k) (2048 * k + 2048) }

/-- STACK_POWER_DOWN: outstanding commands are abandoned, and the stack's domain goes down (R447, step 6). -/
def Device.stackOff (d : Device) (k : Nat) : Device :=
  if d.stackState k = 3 then (d.pwrDown (84 + k)).abandon k else d

/-- HBM_CHECK_DONE (R438, R448). The check runs when the stack is awake (R579); a stack in service needs the spill engine (R577). -/
def Device.hbmCheck (d : Device) (k : Nat) (pass : Bool) : Device :=
  if d.stackState k ≠ 1 ∨ !d.pwrOn (84 + k) then d
  else if pass then
    (((((d.set (Reg.DST_STACK_STATE k) 2).set (Reg.DST_STACK_CAUSE k) 0).put (Reg.DST_STACK_ROTATE k) false).dropLists
      k).deepCapacity).wakeAsk 114
  else
    let d := d.set Reg.GLB_BOOT_WARN_HBM_OFF (setBit (d.get Reg.GLB_BOOT_WARN_HBM_OFF) k true)
    d.stackFail k 6

/-- A stack is powered up for its check, with no row retired (R448). -/
def Device.stackCheck (d : Device) (k : Nat) : Device :=
  let d := ((d.set (Reg.DST_STACK_STATE k) 1).put (Reg.DST_STACK_ROTATE k) true).wakeAsk (84 + k)
  ((d.dropLists k).abandon k).onDst fun x =>
    { x with retired := merase x.retired (2 ^ 26 * k) (2 ^ 26 * (k + 1)), retTimes := lset x.retTimes k [] }

/-- A command of DST_STACK_CMD (R452). -/
def Device.stackCommand (d : Device) (k cmd : Nat) : Device :=
  let st := d.stackState k
  if cmd = 1 ∧ st = 2 then d.stackFail k 5
  else if cmd = 2 ∧ (st = 0 ∨ st = 3) then
    (((d.set (Reg.DST_STACK_STATE k) 4).put (Reg.DST_STACK_ROTATE k) true).wakeAsk (84 + k)).abandon k
  else if cmd = 3 ∧ (st = 0 ∨ st = 3 ∨ st = 4) then d.stackCheck k
  else if cmd = 4 ∧ (st = 3 ∨ st = 4) then ((d.set (Reg.DST_STACK_STATE k) 0).put (Reg.DST_STACK_ROTATE k) false).pwrDown (84 + k)
  else d.put Reg.DST_STATUS_CMD_REJ true

/-! ### Errors (R444, R445) -/

/-- Retire the row of a slot (R445); 16 in 1 s fail the stack (R446). -/
def Device.retireRow (d : Device) (s : Nat) : Device :=
  let k := slotStack s
  if d.slotRetired s then d
  else
    let d := d.onDst fun x => { x with retired := mset (fun _ => false) x.retired (slotRowKey s) true }
    let d := ((d.inc (Reg.DST_STAT_COUNT 4) 4).put Reg.DST_STATUS_RETIRE true).auditEvent 7 k 0 (slotRow s)
    let l := d.ft :: (lget d.deep.retTimes k).filter fun t => decide (d.ft < t + secUnits)
    let d := (d.onDst fun x => { x with retTimes := lset x.retTimes k l }).deepCapacity
    if 16 ≤ l.length then d.stackFailure k 3 else d

/-- An uncorrectable burst of a slot (R444, R445). -/
def Device.deepBad (d : Device) (s : Nat) : Device :=
  let d := ((d.inc (Reg.DST_STAT_COUNT 3)).put Reg.DST_STATUS_UNC_ERR true).eccBad 10
  let d := (d.set Reg.DST_ERR_STACK (slotStack s)).set Reg.DST_ERR_PC (slotPc s)
  let d := (d.set Reg.DST_ERR_BANK (slotBank s)).set Reg.DST_ERR_ROW (slotRow s)
  let again := d.deep.errs.any fun e => e.1 == slotRowKey s && decide (d.ft < e.2 + secUnits)
  let d := d.onDst fun x => { x with errs := ((slotRowKey s, d.ft) :: x.errs).take 256 }
  if again then d.retireRow s else d

/-- A corrected error (R444). -/
def Device.deepCorrected (d : Device) : Device := (d.inc (Reg.DST_STAT_COUNT 2)).eccCorrected 10

/-! ### The spill engine (R258 to R260) -/

/-- Bytes of stitch `i` of a frame as a slot holds them: the first at an offset of 64 (R19, R435). What stands in the
headroom and behind the last byte is filled with 0 (DESIGN CHOICE). -/
def slotPayload (bs : List Byte) (i : Nat) : List Byte :=
  if i = 0 then List.replicate 64 0 ++ slice bs 0 192 else slice bs (192 + 256 * (i - 1)) 256

/-- The place of the oldest frame of a deep segment in write staging. -/
def Voq.firstWrite (v : Voq) : Option Nat := v.deep.findIdx? fun f => f.state == 0

/-- SPILL_WRITE_DONE of VOQ `k`: its oldest frame in write staging is written and its Skein stitches are freed. -/
def Device.spillDone (d : Device) (k : Nat) : Device :=
  if d.inService.isEmpty then d
  else
    let d := match (d.voq k).firstWrite with
      | some i => match (d.voq k).deep[i]? with
        | some f => if f.slots.isEmpty then
            let (l, d) := takeSlots (f.frame.n + 128) f.frame.n d
            d.onVoq k fun v => { v with deep := v.deep.set i { f with slots := l } } else d
        | none => d
      | none => d
    match (d.voq k).firstWrite with
    | none => d
    | some i => match (d.voq k).deep[i]? with
      | none => d
      | some f =>
        let n := f.frame.n
        let put := fun (m : Map (List Byte)) (j : Nat) => lset m (f.slots.getD j 0) (slotPayload f.frame.bytes j)
        let d := (d.unrequest f.slots).onDst fun x => { x with mem := (List.range f.slots.length).foldl put x.mem }
        let d := (d.freeStitches f.frame.stitches).inc (Reg.DST_STAT_COUNT 0) f.slots.length
        let d := d.onPath fun p => { p with wstage := p.wstage - n }
        d.onVoq k fun v => { v with deep := v.deep.set i { f with frame := { f.frame with stitches := [] }, state := 1 } }

/-- A frame of a deep segment is discarded at read-back: BUFFER_ERROR counts in the slice of its egress port, AGED in its ingress slice
(R262). -/
def Device.deepDrop (d : Device) (f : Frame) (reason : Nat) : Device :=
  let d := (d.countDrop f (sliceOf (if reason = 24 then f.hdr.dest else f.hdr.src)) f.hdr.dest reason).releaseFrame f
  if f.control then d else d.heldAdd f.hdr.src f.hdr.queue f.n false

/-- READBACK_START of VOQ `k` (R259): its oldest deep frame that is not in read staging enters it. Whether it is too old is judged here,
once; DESIGN CHOICE: AGED goes before BUFFER_ERROR. -/
def Device.readbackStart (d : Device) (k : Nat) : Device :=
  let v := d.voq k
  if d.get Reg.BUF_SPILL_CFG_RB_LO ≤ (v.on.map fun f => f.n).sum then d
  else match v.deep.findIdx? fun f => f.state != 2 with
    | none => d
    | some i => match v.deep[i]? with
      | none => d
      | some f =>
        let n := f.frame.n
        let drop := if d.aged (k % 8256) f.frame.hdr f.frame.arrival then some 23 else f.drop
        if 16384 < d.path.rstage + n then d
        else if f.state = 0 then
          let d := (d.unrequest f.slots).each f.slots fun d s => d.freeSlot s
          let d := d.onPath fun p => { p with wstage := p.wstage - n, rstage := p.rstage + n }
          d.onVoq k fun v => { v with deep := v.deep.set i { f with slots := [], state := 2, drop := drop } }
        else if drop.isSome then
          (d.onPath fun p => { p with rstage := p.rstage + n }).onVoq k fun v =>
            { v with deep := v.deep.set i { f with state := 2, drop := drop } }
        else if d.physFree < n then d
        else
          let (st, d) := d.takeStitches n
          let d := (d.onPath fun p => { p with rstage := p.rstage + n }).request false f.slots
          d.onVoq k fun v => { v with deep := v.deep.set i { f with frame := { f.frame with stitches := st }, state := 2 } }

/-- READBACK_DONE of VOQ `k` (R259): the frame at the head of the deep segment joins the on-die segment or is discarded for
age, a stack that failed or an uncorrectable burst, which `ecc` gives with the stitch. -/
def Device.readbackDone (d : Device) (k : Nat) (ecc : Option (Bool × Nat)) : Device :=
  match (d.voq k).deep with
  | [] => d
  | f :: rest =>
    if f.state ≠ 2 then d
    else
      let fr := f.frame
      let d := (d.onVoq k fun v => { v with deep := rest }).onPath fun p => { p with rstage := p.rstage - fr.n }
      let d := d.unrequest f.slots
      let free := fun (d : Device) => d.each f.slots fun d s => d.freeSlot s
      match f.drop with
      | some r => (free d).deepDrop fr r
      | none =>
        let d := d.inc (Reg.DST_STAT_COUNT 1) f.slots.length
        match ecc, f.slots[(ecc.getD (false, 0)).2]? with
        | some (true, _), some s => (free (d.deepBad s)).deepDrop fr 24
        | some (false, _), some _ => (free d.deepCorrected).onVoq k fun v => { v with on := v.on ++ [fr] }
        | _, _ => (free d).onVoq k fun v => { v with on := v.on ++ [fr] }

/-- A frame admitted to the deep store of queue `q` waits in a resequencing slot: it is in write staging (R258, R341). -/
def Device.deepWaiting (d : Device) (q : Nat) : Bool :=
  d.jarlis.ctx.any fun e => e.2.slots.any fun s => match s.2.bind (·.frame) with
    | some f => f.charge == .dru q || f.charge == .dsu q
    | none => false

/-- SPILL_EXIT of queue `q` (R260). -/
def Device.spillExit (d : Device) (q : Nat) : Device :=
  if (d.qc q).spill && !d.deepWaiting q && (List.range 16).all fun s => (d.voq (voqKey s q)).deep.isEmpty then
    d.onQc q fun c => { c with spill := false }
  else d

/-! ### Scheduling of a pseudo-channel (R439 to R442) -/

/-- The open row of bank `b` of a pair. -/
def Device.openRow (d : Device) (pair b : Nat) : Option Nat := mget (fun _ => none) d.deep.openRow (64 * pair + b)

/-- Open a row, or close the bank. -/
def Device.setRow (d : Device) (pair b : Nat) (r : Option Nat) : Device :=
  d.onDst fun x => { x with openRow := mset (fun _ => none) x.openRow (64 * pair + b) r }

/-- A request hits the open row of its bank. -/
def Device.rowHit (d : Device) (pair : Nat) (r : DramReq) : Bool := d.openRow pair (slotBank r.slot) == some (slotRow r.slot)

/-- The request a pseudo-channel issues: its place in the queue. In rotating mode the next bank in rotation that has a
request (R441); else one passed HIT_CAP times, the oldest row hit, or the oldest (R439). -/
def Device.dramPick (d : Device) (pair : Nat) (rotating : Bool) : Option Nat :=
  let q := (lget d.deep.req pair).take 64
  if rotating then
    let b0 := nget d.deep.rotBank pair
    ((List.range 64).map fun i => (b0 + i) % 64).findSome? fun b => q.findIdx? fun r => slotBank r.slot == b
  else
    let cap := max 1 (d.get Reg.DST_CFG_HIT_CAP)
    ((q.findIdx? fun r => decide (cap ≤ r.passed)).or (q.findIdx? (d.rowHit pair))).or (q.findIdx? fun _ => true)

/-- DRAM_COMMAND_SLOT of a pseudo-channel. -/
def Device.dramSlot (d : Device) (k pc : Nat) : Device :=
  let d := d.spillFeed
  let pair := 32 * k + pc
  let rotating := d.stackState k == 1 || d.stackState k == 4
  match d.dramPick pair rotating with
  | none => d
  | some i => match (lget d.deep.req pair)[i]? with
    | none => d
    | some r =>
      let b := slotBank r.slot
      let hit := d.rowHit pair r
      let d := d.pmc (if hit then 0x12 else 0x13) pair
      let idle := d.get Reg.DST_CFG_IDLE_NS
      let d := d.setRow pair b (if idle = 0 then none else some (slotRow r.slot))
      let l := lget d.deep.req pair
      let older := (l.take i).map fun x => if hit && !rotating then { x with passed := x.passed + 1 } else x
      d.onDst fun x => { x with req := lset x.req pair (older ++ l.drop (i + 1)),
                                rotBank := if rotating then nset x.rotBank pair ((b + 1) % 64) else x.rotBank }

/-- ROW_IDLE_CLOSE and BANK_REFRESH close the row of a bank (R440, R442). -/
def Device.rowClose (d : Device) (k pc b : Nat) : Device := d.setRow (32 * k + pc) b none

/-! ### Recompute and drop capture -/

/-- RECOMPUTE_DONE (R255): an event that came meanwhile starts another. -/
def Device.recomputeDone (d : Device) : Device :=
  if d.flag Reg.BUF_STATUS_RECALC then
    let again := d.path.recalcAgain
    ((d.recompute).put Reg.BUF_STATUS_RECALC again).onPath fun p => { p with recalcAgain := false }
  else d

/-- DROP_CAPTURE_REFILL (R263). -/
def Device.captureRefill (d : Device) : Device := d.onPath fun p => { p with dmirTok := d.get Reg.BUF_DMIR_CFG_RATE }

/-! ### Meanings -/

/-- RECOMPUTE_START (R255). -/
def execRecomputeStart (s : State) : Host.Outcome State Fault Refusal := s.run (·.recomputeStart)

/-- RECOMPUTE_DONE (R255). -/
def execRecomputeDone (s : State) : Host.Outcome State Fault Refusal := s.run (·.recomputeDone)

/-- SPILL_WRITE_DONE (R258). -/
def execSpillWriteDone (sl : Fin 16) (q : Fin 8256) (s : State) : Host.Outcome State Fault Refusal :=
  s.run (·.spillDone (voqKey sl.val q.val))

/-- READBACK_START (R259). -/
def execReadbackStart (sl : Fin 16) (q : Fin 8256) (s : State) : Host.Outcome State Fault Refusal :=
  s.run (·.readbackStart (voqKey sl.val q.val))

/-- READBACK_DONE (R259). -/
def execReadbackDone (sl : Fin 16) (q : Fin 8256) (ecc : Option (Bool × Fin 65)) (s : State) :
    Host.Outcome State Fault Refusal := s.run (·.readbackDone (voqKey sl.val q.val) (ecc.map fun e => (e.1, e.2.val)))

/-- SPILL_EXIT (R260). -/
def execSpillExit (q : Fin 8256) (s : State) : Host.Outcome State Fault Refusal := s.run (·.spillExit q.val)

/-- DROP_CAPTURE_REFILL (R263). -/
def execDropCaptureRefill (s : State) : Host.Outcome State Fault Refusal := s.run (·.captureRefill)

/-- HBM_CHECK_DONE (R438). -/
def execHbmCheckDone (k : Fin 4) (pass : Bool) (s : State) : Host.Outcome State Fault Refusal :=
  s.run (·.hbmCheck k.val pass)

/-- DRAM_COMMAND_SLOT (R439). -/
def execDramCommandSlot (k : Fin 4) (pc : Fin 32) (s : State) : Host.Outcome State Fault Refusal :=
  s.run (·.dramSlot k.val pc.val)

/-- ROW_IDLE_CLOSE (R440). -/
def execRowIdleClose (k : Fin 4) (pc : Fin 32) (b : Fin 64) (s : State) : Host.Outcome State Fault Refusal :=
  s.run (·.rowClose k.val pc.val b.val)

/-- BANK_REFRESH (R442). -/
def execBankRefresh (k : Fin 4) (pc : Fin 32) (b : Fin 64) (s : State) : Host.Outcome State Fault Refusal :=
  s.run (·.rowClose k.val pc.val b.val)

/-- STACK_FAILURE (R447). -/
def execStackFailure (k : Fin 4) (cause : Fin 7) (s : State) : Host.Outcome State Fault Refusal :=
  s.run (·.stackFailure k.val cause.val)

/-- STACK_POWER_DOWN (R447). -/
def execStackPowerDown (k : Fin 4) (s : State) : Host.Outcome State Fault Refusal := s.run (·.stackOff k.val)

end Sys2Proof.Machine
end

