-- ==== Sys2Proof/Machine/Time.lean ====
section
/-!
DEFINITION. The time unit: the two counters, the servo, 1PPS, the time-of-day UART and SyncE (R407 to R409, R417 to R423),
with the meanings of the commands that are no register writes.
-/
namespace Sys2Proof.Machine

/-- Change the time unit. -/
def Device.onTime (d : Device) (f : TimeUnit → TimeUnit) : Device := { d with time := f d.time }

/-! ### Counting (R407, R408) -/

/-- A counter wraps at 2⁶⁴ seconds. -/
def tmMod : Nat := 2 ^ 64 * secUnits

/-- f in units of 2⁻⁴⁰ (R408, R428): the ppb value rounded down (DESIGN CHOICE: the spec gives no rounding). -/
def freqUnits (f : Int) : Int := f * 65536 / 1000000000

/-- TIM_FREQ, TIM_HOLD_FREQ show f and avg. -/
def Device.showFreq (d : Device) : Device :=
  (d.set Reg.TIM_FREQ_F (unsigned 32 (freqUnits d.time.f))).set Reg.TIM_HOLD_FREQ_AVG (unsigned 32 (freqUnits d.time.avg))

/-- One cycle of the clock that counts: a core clock of 0.625 ns × (1 + f), or before the core PLL locks a cycle of 40 ns of
the AON reference. -/
def Device.tick (d : Device) : Device :=
  if d.flag Reg.TIM_STATUS_CORE_CLK then
    let inc := (40960 * (2 ^ 40 + freqUnits d.time.f) + d.time.part).toNat
    let u := inc / 2 ^ 40
    ({ d with clock := d.clock + 1, ft := (d.ft + u) % tmMod, tod := (d.tod + u) % tmMod }).onTime fun t =>
      { t with part := inc % 2 ^ 40 }
  else { d with ft := (d.ft + 40 * 65536) % tmMod, tod := (d.tod + 40 * 65536) % tmMod }

/-- ToD steps to a value (R409): FT is not touched. -/
def Device.stepTod (d : Device) (t : Nat) : Device :=
  (({ d with tod := t % tmMod, stepAt := some d.ft }).inc (Reg.TIM_STAT_COUNT 6)).put Reg.TIM_STATUS_STEPPED true

/-- The value in TIM_SET (R427). -/
def Device.timSet (d : Device) : Nat :=
  (d.get Reg.TIM_SET_W2_SEC_LO + 2 ^ 32 * d.get Reg.TIM_SET_W3_SEC_HI) * secUnits
    + min (d.get Reg.TIM_SET_W1_NS) 999999999 * 65536 + d.get Reg.TIM_SET_W0_FRAC

/-- A write of word 3 of TIM_SET commits the step (R409). -/
def Device.todStep (d : Device) : Device := d.stepTod d.timSet

/-- The four words of a counter (R427). -/
def timeWords (t : Nat) : List Nat := [tmFrac t, tmNs t, tmSec t % 2 ^ 32, tmSec t / 2 ^ 32]

/-- A read of word 0 latches all four words; `at_` is where the latch holds them. -/
def Device.timeLatch (d : Device) (at_ : Nat) (ws : List Nat) : Device :=
  let put := fun (m : Map Word) (i : Nat) => mset (fun _ => 0) m (at_ + i) (BitVec.ofNat 32 (ws.getD i 0))
  d.onTime fun t => { t with latch := (List.range 4).foldl put t.latch }

/-! ### The servo (R417 to R419) -/

/-- TIM_STATUS.STATE: 0 FREE, 1 ACQUIRE, 2 TRACK, 3 HOLD. -/
def Device.servoState (d : Device) : Nat := d.get Reg.TIM_STATUS_STATE

/-- An offset in units of 2⁻¹⁶ ns; the flag says that it stepped ToD. -/
def Device.servo (d : Device) (o : Int) : Bool × Device :=
  let st := d.servoState
  let t := d.time
  let (st, i) := if st = 3 then (if t.before = 1 then 1 else 2, -t.avg) else if st = 0 then (1, 0) else (st, t.i)
  let stepUs := d.get Reg.TIM_LOCK_STEP_US
  if stepUs ≠ 0 ∧ stepUs * 1000 * 65536 ≤ o.natAbs then
    let d := d.stepTod (((d.tod : Int) - o) % tmMod).toNat
    (true, ((d.set Reg.TIM_STATUS_STATE 1).set Reg.TIM_STATUS_LOCK_CNT 0).onTime fun t => { t with i := i })
  else
    let kp := d.get (if st = 1 then Reg.TIM_GAIN_ACQ_KP else Reg.TIM_GAIN_TRK_KP)
    let ki := d.get (if st = 1 then Reg.TIM_GAIN_ACQ_KI else Reg.TIM_GAIN_TRK_KI)
    let i := i + ki * o
    let lim : Int := max 1 (d.get Reg.TIM_CFG_FMAX_PPM) * 1000 * 2 ^ 24
    let f := max (-lim) (min lim (-(kp * o + i)))
    let lockNs := d.get Reg.TIM_LOCK_LOCK_NS * 65536
    let cnt := if o.natAbs < lockNs then min 255 (d.get Reg.TIM_STATUS_LOCK_CNT + 1) else 0
    let st := if st = 1 ∧ d.get Reg.TIM_LOCK_LOCK_N ≤ cnt then 2 else st
    let lost := decide (st = 2 ∧ 4 * lockNs ≤ o.natAbs)
    let avg := t.avg + (f - t.avg) / 2 ^ d.get Reg.TIM_CFG_AVG_SH
    let d := (d.set Reg.TIM_STATUS_STATE (if lost then 1 else st)).set Reg.TIM_STATUS_LOCK_CNT (if lost then 0 else cnt)
    (false, (d.onTime fun t => { t with f := f, i := i, avg := avg }).showFreq)

/-- An offset written to TIM_OFFSET (R417): a measurement is counted, a step is not. -/
def Device.offsetWrite (d : Device) : Bool × Device :=
  let (stepped, d) := d.servo (signed 48 (d.get Reg.TIM_OFFSET_OFFSET))
  (stepped, if stepped then d else d.inc (Reg.TIM_STAT_COUNT 5))

/-- The servo enters holdover, from ACQUIRE or TRACK only (R418). -/
def Device.holdover (d : Device) : Device :=
  let st := d.servoState
  if st = 1 ∨ st = 2 then
    ((d.set Reg.TIM_STATUS_STATE 3).onTime fun t => { t with before := st, f := t.avg }).showFreq
  else d

/-- HOLDOVER_TIMEOUT: no offset for HOLD_MS, where 0 means never. -/
def Device.holdTimeout (d : Device) : Device := if d.get Reg.TIM_CFG_HOLD_MS = 0 then d else d.holdover

/-- TIM_CTRL.ACQUIRE: TRACK or HOLD goes back to ACQUIRE with i kept (R418). -/
def Device.acquire (d : Device) : Device :=
  if d.servoState = 2 ∨ d.servoState = 3 then d.set Reg.TIM_STATUS_STATE 1 else d

/-- A write of TIM_CTRL (R426). -/
def Device.timCtrl (d : Device) (v : Nat) : Device :=
  (d.when (bit v 31) fun d => d.holdover).when (bit v 30) fun d => d.acquire

/-! ### 1PPS and time of day (R422, R423) -/

/-- The PPS_OUT edge: ToD stands at a whole second plus OUT_ADJ_NS. -/
def Device.ppsOut (d : Device) : Device :=
  if d.flag Reg.TIM_PPS_OUT_EN then
    let adj : Int := signed 16 (d.get Reg.TIM_PPS_OUT_OUT_ADJ_NS) * 65536
    let sec := (((d.tod : Int) - adj + secUnits / 2) / secUnits).toNat
    (d.emit (.pin "PPS_OUT" .high)).onTime fun t => { t with edge := some sec }
  else d

/-- The PPS_OUT pin falls after WIDTH_MS. -/
def Device.ppsFall (d : Device) : Device := d.emit (.pin "PPS_OUT" .low)

/-- A time (of ToD, possibly before 0 s) as a counter value. -/
def wrapTime (t : Int) : Nat := (t % tmMod).toNat

/-- A rising PPS_IN edge (R422, R423). -/
def Device.ppsIn (d : Device) : Device :=
  let adj : Int := signed 16 (d.get Reg.TIM_PPS_IN_ADJ_NS) * 65536
  let t := wrapTime ((d.tod : Int) - adj)
  let d := if d.flag Reg.TIM_PPS_IN_EN then
      let bs := stampBytes t (tmFrac t) 0 true false false
      let d := d.each (List.range 4) fun d w => d.wr (Reg.TIM_PPS_IN_TS w) (leNat (slice bs (4 * w) 4))
      let d := d.inc Reg.TIM_STATUS_PPS_IN_CNT
      if d.get Reg.TIM_CFG_OFFSET_SRC = 1 then
        let r := t % secUnits
        let o : Int := if r < secUnits / 2 then r else (r : Int) - secUnits
        let (stepped, d) := d.servo o
        if stepped then d else d.inc (Reg.TIM_STAT_COUNT 5)
      else d
    else d
  if d.flag Reg.TIM_TOD_CFG_RX_APPLY && d.time.rxWait then
    let bs := (List.range 4).flatMap fun w => leBytes 4 (d.rd (Reg.TIM_TOD_RX w))
    let sec := beNat (slice bs 4 6) + 1
    (d.stepTod (wrapTime (sec * secUnits - adj))).onTime fun t => { t with rxWait := false }
  else d

/-- The message that names a PPS_OUT edge (R423). -/
def Device.todMessage (d : Device) (sec : Nat) : List Byte :=
  let st := d.servoState
  let m := beBytes 2 0x4854 ++ beBytes 1 1 ++ beBytes 1 (b2n (st == 2) + 2 * b2n (st == 3) + 4 * b2n (st == 0))
    ++ beBytes 6 sec ++ beBytes 2 (d.get Reg.TIM_TOD_CFG_UTC_OFF) ++ beBytes 2 0
  m ++ beBytes 2 (crc16 m)

/-- TOD_MESSAGE_SEND. -/
def Device.todSend (d : Device) : Device :=
  match d.time.edge with
  | none => d
  | some sec =>
    let d := d.onTime fun t => { t with edge := none }
    if d.flag Reg.TIM_TOD_CFG_TX_EN then d.emit (.tod (d.todMessage sec)) else d

/-- TOD_MESSAGE_RECEIVED. -/
def Device.todReceived (d : Device) (bs : List Byte) : Device :=
  if d.flag Reg.TIM_TOD_CFG_RX_EN then
    if bs.length = 16 ∧ crc16 (bs.take 14) = be16 bs 14 then
      (d.each (List.range 4) fun d w => d.wr (Reg.TIM_TOD_RX w) (leNat (slice bs (4 * w) 4))).onTime fun t =>
        { t with rxWait := true }
    else d.inc (Reg.TIM_STAT_COUNT 7)
  else d

/-! ### SyncE (R421) -/

/-- A lane gives a recovered clock: it is not squelched. -/
def Device.synceLane (d : Device) (l : Nat) : Bool :=
  match d.portOfLane l with
  | none => false
  | some p => d.portUp p && d.flag (Reg.LANE_STATUS_CDR_LOCK (tileOf l) (laneIn l))
      && !d.flag (Reg.TILE_PORT_STATUS_ASLEEP (tileOf p) (laneIn p)) && !d.flag (Reg.LANE_STATUS_SHED (tileOf l) (laneIn l))

/-- An output follows its primary lane, else its backup, else is held low. -/
def Device.synce (d : Device) (k : Nat) : Device :=
  let f := d.get (Reg.TIM_SYNCE_FREQ k)
  if f = 0 ∨ f = 3 then (d.put (Reg.TIM_SYNCE_SQUELCH k) false).put (Reg.TIM_SYNCE_ON_BACKUP k) false
  else
    let p := d.synceLane (d.get (Reg.TIM_SYNCE_PRIMARY k))
    let b := d.flag (Reg.TIM_SYNCE_BACKUP_EN k) && d.synceLane (d.get (Reg.TIM_SYNCE_BACKUP k))
    (d.put (Reg.TIM_SYNCE_SQUELCH k) (!p && !b)).put (Reg.TIM_SYNCE_ON_BACKUP k) (!p && b)

/-- SYNCE_SQUELCH: the primary lane is unusable. -/
def Device.synceSquelch (d : Device) (k : Nat) : Device :=
  if d.synceLane (d.get (Reg.TIM_SYNCE_PRIMARY k)) then d else d.synce k

/-- SYNCE_RETURN: the primary lane is usable again. -/
def Device.synceReturn (d : Device) (k : Nat) : Device :=
  if d.synceLane (d.get (Reg.TIM_SYNCE_PRIMARY k)) then d.synce k else d

/-! ### Meanings -/

/-- HOLDOVER_TIMEOUT (R418). -/
def execHoldoverTimeout (s : State) : Host.Outcome State Fault Refusal := s.run (·.holdTimeout)

/-- PPS_OUT_EDGE (R422). -/
def execPpsOutEdge (s : State) : Host.Outcome State Fault Refusal := s.run (·.ppsOut)

/-- PPS_OUT_FALL (R422). -/
def execPpsOutFall (s : State) : Host.Outcome State Fault Refusal := s.run (·.ppsFall)

/-- PPS_IN_EDGE (R422). -/
def execPpsInEdge (s : State) : Host.Outcome State Fault Refusal := s.run (·.ppsIn)

/-- TOD_MESSAGE_SEND (R423). -/
def execTodMessageSend (s : State) : Host.Outcome State Fault Refusal := s.run (·.todSend)

/-- TOD_MESSAGE_RECEIVED (R423). -/
def execTodMessageReceived (bs : List Byte) (s : State) : Host.Outcome State Fault Refusal := s.run (·.todReceived bs)

/-- SYNCE_SQUELCH (R421). -/
def execSynceSquelch (k : Fin 2) (s : State) : Host.Outcome State Fault Refusal := s.run (·.synceSquelch k.val)

/-- SYNCE_RETURN (R421). -/
def execSynceReturn (k : Fin 2) (s : State) : Host.Outcome State Fault Refusal := s.run (·.synceReturn k.val)

end Sys2Proof.Machine
end

