-- ==== Sys2Proof/Machine/Protect.lean ====
section
/-!
DEFINITION. Link protection: the checks of bindings, the requests of a group and its timers (R361 to R366), with the
meanings of the commands that are no register writes.
-/
namespace Sys2Proof.Machine

/-- The logical ports bound to a group. -/
def Device.boundTo (d : Device) (g : Nat) : List Nat :=
  (d.bindings.filter fun b => b.2.1 == 1 && b.2.2 == g).map fun b => b.1

/-- The reason code of the first rule of R361 that a group breaks with CFG word `v`, for logical ports `ls`; 0 for none. -/
def Device.groupReason (d : Device) (v : Nat) (ls : List Nat) : Nat :=
  let w := bits v 29 20
  let p := bits v 19 10
  if 512 ≤ w ∨ 512 ≤ p then 5
  else if ls.any fun l => l / 32 != w / 32 || l / 32 != p / 32 then 1
  else if d.isJarlis w != d.isJarlis p then 2
  else if !d.portEn w || !d.portEn p || !bit v 31 then 3
  else if w == p || (d.trunkOfMember w).isSome || (d.trunkOfMember p).isSome then 4
  else 0

/-- The reason code for a write of PRT_BIND_p (R361). -/
def Device.bindReason (d : Device) (p v : Nat) : Nat :=
  let i := bits v 11 0
  match bits v 31 30 with
  | 0 => 0
  | 1 => d.groupReason (d.rd (Reg.PRT_GRP_CFG i)) (p :: d.boundTo i)
  | 2 =>
    if 256 ≤ i then 3
    else if d.get (Reg.JFL_TRUNK_CFG_SLICE i) ≠ p / 32 then 1
    else if !d.trunkEn i then 3 else 0
  | _ => 3

/-- The reason code for a write of PRT_GRP_g word CFG (R361): only one that leaves EN at 1 is checked. -/
def Device.grpReason (d : Device) (g v : Nat) : Nat := if bit v 31 then d.groupReason v (d.boundTo g) else 0

/-- PRT_STATUS after a rejection (R361). -/
def Device.badBind (d : Device) (reason index : Nat) : Device :=
  ((d.put Reg.PRT_STATUS_BAD_BIND true).set Reg.PRT_STATUS_REASON reason).set Reg.PRT_STATUS_INDEX index

/-- An accepted write of PRT_BIND_p (R362, R365): a logical port that has a path by it discards no longer. -/
def Device.bindWrite (d : Device) (p v : Nat) : Device :=
  let d := d.wr (Reg.PRT_BIND p) v
  (d.when (!(d.physOf p).isEmpty) fun d => { d with nopath := mset (fun _ => false) d.nopath p false }).undoMoved

/-- Link-down of a member counts at once when HOLDOFF_US is 0 (R363); a member that the write puts in starts anew. -/
def Device.memberFlag (d : Device) (g : Nat) (prot was : Bool) (old : Nat) (flag : Bool) : Bool :=
  let m := d.grpMember g prot
  if was && old == m then flag
  else decide (m < 512) && !d.portUp m && d.get (Reg.PRT_GRP_CFG_HOLDOFF_US g) == 0

/-- An accepted write of PRT_GRP_g word CFG (R362). -/
def Device.grpWrite (d : Device) (g v : Nat) : Device :=
  let was := d.flag (Reg.PRT_GRP_CFG_EN g)
  let w := d.grpMember g false
  let p := d.grpMember g true
  let d := d.wr (Reg.PRT_GRP_CFG g) v
  let fl := d.grpFlag g
  let lw := d.memberFlag g false was w fl.linkW
  let lp := d.memberFlag g true was p fl.linkP
  ((d.onGrpFlag g fun f => { f with linkW := lw, linkP := lp }).reselect g).undoMoved

/-- A command of PRT_GRP_CMD for group `g` (R366, R404). -/
def Device.grpCommand (d : Device) (g cmd : Nat) : Device :=
  let d := match cmd with
    | 4 => (d.onGrpFlag g fun f => { f with cmdW := true }).reselect g
    | 5 => (d.onGrpFlag g fun f => { f with cmdW := false }).reselect g
    | 6 => (d.onGrpFlag g fun f => { f with cmdP := true }).reselect g
    | 7 => (d.onGrpFlag g fun f => { f with cmdP := false }).reselect g
    | _ =>
      let old := d.get (Reg.PRT_GRP_STATE_REQ g)
      (d.set (Reg.PRT_GRP_STATE_REQ g) cmd).reselect g (old != cmd)
  d.undoMoved

/-- HOLDOFF_EXPIRE: a member has been link-down for HOLDOFF_US (R363). -/
def Device.holdoffExpire (d : Device) (g : Nat) (prot : Bool) : Device :=
  if d.flag (Reg.PRT_GRP_CFG_EN g) && !d.portUp (d.grpMember g prot) then (d.linkFlag g prot true).undoMoved else d

/-- WTR_EXPIRE (R364): the timer goes on while P fails, and then there is nothing to revert. -/
def Device.wtrExpire (d : Device) (g : Nat) : Device :=
  if d.flag (Reg.PRT_GRP_STATE_WTR_RUN g) then
    let d := (d.put (Reg.PRT_GRP_STATE_WTR_RUN g) false).when (d.flag (Reg.PRT_GRP_STATE_ACT g)) fun d =>
      d.inc (Reg.PRT_STAT_COUNT 2)
    (d.reselect g).undoMoved
  else d

/-- NOPATH_TIMEOUT of a logical port (R365). -/
def Device.nopathTimeout (d : Device) (p : Nat) : Device :=
  if (d.physOf p).isEmpty then { d with nopath := mset (fun _ => false) d.nopath p true } else d

/-! ### Meanings -/

/-- HOLDOFF_EXPIRE (R363). -/
def execHoldoffExpire (g : Fin 4096) (prot : Bool) (s : State) : Host.Outcome State Fault Refusal :=
  s.run (·.holdoffExpire g.val prot)

/-- WTR_EXPIRE (R364). -/
def execWtrExpire (g : Fin 4096) (s : State) : Host.Outcome State Fault Refusal := s.run (·.wtrExpire g.val)

/-- NOPATH_TIMEOUT (R365). -/
def execNopathTimeout (p : Fin 512) (s : State) : Host.Outcome State Fault Refusal := s.run (·.nopathTimeout p.val)

end Sys2Proof.Machine
end

