-- ==== Sys2Proof/Machine/Unit.lean ====
section
/-!
DEFINITION. The unit of a pair: roles and takeover, heartbeats, Bind-Off, the Tension test, health and the background test
(R368 to R391), with the meanings of the commands that neither write registers nor apply replicated records.
-/
namespace Sys2Proof.Machine

/-! ### Roles (R370, R371, R381, R382) -/

/-- Nanoseconds of FT modulo 4 s, on this unit's clock. -/
def Device.nowNs (d : Device) : Nat := (d.ft / 65536) % 4000000000

/-- The unit begins to act as active (R382): PSEQ goes on from the last applied, PEER_LOST clears. -/
def Device.actActive (d : Device) : Device :=
  let d := (d.wr Reg.UNT_PSEQ_SENT (d.rd Reg.UNT_PSEQ_APPLIED)).put Reg.UNT_STATUS_PEER_LOST false
  d.unmute.onUnit fun u => { u with guard := false, relq := false, resync := false, live := [], syncQ := [], store := [], missed := 0 }

/-- The unit becomes ACTIVE without a mute guard. -/
def Device.goActive (d : Device) (last : Nat) : Device := (d.setRole roleActive last).actActive

/-- A resync starts on the standby (R378). -/
def Device.resyncStart (d : Device) : Device :=
  ((d.put Reg.UNT_STATUS_SYNCED false).inc (Reg.UNT_STAT_COUNT 7)).onUnit fun u =>
    { u with resync := true, syncStarted := false, syncEnded := false, syncNext := 0, live := [], syncQ := [], syncLast := none }

/-- The unit becomes STANDBY, muted, and waits for a resync. -/
def Device.goStandby (d : Device) (last : Nat) : Device :=
  ((d.mute.setRole roleStandby last).replStop.onUnit fun u =>
    { u with relq := false, relinquishing := false, guard := false, wasActive := false }).resyncStart

/-- The unit may take the active role (R382). -/
def Device.fit (d : Device) : Bool :=
  d.get Reg.UNT_STATUS_CRIT_CAUSE == 0 && (d.flag Reg.UNT_STATUS_SYNCED || d.flag Reg.UNT_CFG_TAKE_UNSYNCED)

/-- The cut of a Bind-Off has come, in the active's time (R384, step 3). -/
def Device.cutCome (d : Device) : Bool :=
  tsGe (d.ingressNs { tsSec := tmSec d.ft % 4, tsNs := tmNs d.ft }) d.unit.bind.cut

/-- A takeover (R382, steps 1 and 2): by relinquish (0) or by loss of heartbeats (1). A Bind-Off left open after step 3 is released with
CUT and empty lists; DEDUCED: one whose cut has not come is aborted, and its queues keep all they hold (R385). -/
def Device.takeover (d : Device) (hb : Nat) : Device :=
  let d := d.when (d.unit.bind.side == 2 && !d.cutCome) (·.bindAbort)
  let b := d.unit.bind
  let rel := (List.range 8192).foldl (fun (m : Map (Option Release)) q =>
    if (mget (fun _ => none) m q).isSome then m else mset (fun _ => none) m q (some ⟨b.cut, []⟩)) b.rel
  let d := d.when (b.side == 2) fun d => d.onUnit fun u => { u with bind := { u.bind with side := 0, rel := rel } }
  let d := (d.setRole roleActive (1 + hb)).onUnit fun u => { u with guard := true, roleWait := false }
  d.punty 8 0 []

/-- A cause of takeover arises on a STANDBY unit: it takes the role if it is fit, and counts the event (R382). -/
def Device.tryTakeover (d : Device) (hb : Nat) (count : Bool) : Device :=
  if d.role = roleStandby ∧ d.paired then
    let d := d.when count fun d => d.inc (Reg.UNT_STAT_COUNT hb)
    if d.fit then (d.when (!count) fun d => d.inc (Reg.UNT_STAT_COUNT hb)).takeover hb else d
  else d

/-- ROLE_WAIT_TIMEOUT (R370). -/
def Device.roleWaitEnd (d : Device) : Device :=
  if d.unit.roleWait then
    let d := d.onUnit fun u => { u with roleWait := false }
    if d.role = roleStandby then d.goActive 0 else d
  else d

/-- PEER_ACT_FALL (R371, R384): the former active of a Bind-Off hands over; any other ACTIVE unit yields. When both units'
pins fell together the slot-1 unit yields. -/
def Device.peerActFall (d : Device) (together : Bool) : Device :=
  let d := (d.put Reg.UNT_STATUS_PEER_ACT true).onUnit fun u => { u with roleWait := false }
  if d.role ≠ roleActive ∨ !d.paired then d
  else if d.unit.bind.side = 1 ∧ d.unit.bind.donePending then
    let d := (d.mute.setRole roleStandby 3).put Reg.UNT_STATUS_SYNCED true
    let d := ((d.set Reg.UNT_BIND_STATE 4).set Reg.UNT_BIND_RESULT 0).inc (Reg.UNT_STAT_COUNT 14)
    (d.wr Reg.UNT_PSEQ_APPLIED (d.rd Reg.UNT_PSEQ_SENT)).onUnit fun u =>
      { u with bind := {}, rejectRepl := false, repl := false, store := [], resync := false, live := [] }
  else if together ∧ !d.flag Reg.UNT_STATUS_SLOT then d
  else d.goStandby (if d.unit.relinquishing then 6 else 4)

/-- PEER_RELQ_LOW (R382). -/
def Device.peerRelqLow (d : Device) : Device := (d.put Reg.UNT_STATUS_PEER_RELQ true).tryTakeover 0 true

/-- MUTE_GUARD_END (R382, step 3). -/
def Device.guardEnd (d : Device) : Device := if d.unit.guard && d.role == roleActive then d.actActive else d

/-- FAILED_REACTIVATE (R381). LAST_CHANGE shows takeover on relinquish (DEDUCED). -/
def Device.reactivate (d : Device) : Device :=
  if d.role = roleFailed ∧ d.unit.wasActive then
    (d.goActive 1).onUnit fun u => { u with relq := true, wasActive := false }
  else d

/-- CRITICAL_FAULT: a cause of R380 that no other command raises, with its detail. -/
def Device.criticalFault (d : Device) (cause detail : Nat) : Device :=
  if cause = 0 ∨ 5 < cause then d
  else (d.when (cause == 1) fun d => d.eccBad detail).critical cause detail

/-! ### Role commands (R383, R395) -/

/-- RELINQUISH: the active unit mutes and drives UNIT_RELQ_N low (R371, R395). -/
def Device.relinquish (d : Device) : Device :=
  if d.role = roleActive then
    (d.mute.inc (Reg.UNT_STAT_COUNT 2)).onUnit fun u => { u with relq := true, relinquishing := true }
  else d

/-- The result of a BIND_OFF command (R383); 0 for accepted. -/
def Device.bindResult (d : Device) : Nat :=
  if !d.paired || d.role != roleActive then 1
  else if !d.flag Reg.UNT_STATUS_PUNTY_UP || d.unit.peerRole != some roleStandby || !d.unit.peerSynced
      || d.unit.peerFail then 2
  else if d.unit.bind.side != 0 || d.unit.resync then 3
  else 0

/-- A time in ns modulo 4 s as bytes 8 to 11 of the stitch header hold it: TS_SEC and TS_NS. -/
def stampWord (t : Nat) : Nat := t / 1000000000 % 4 * 2 ^ 30 + t % 1000000000

/-- The time that a stamp word gives. -/
def wordStamp (w : Nat) : Nat := w / 2 ^ 30 % 4 * 1000000000 + w % 2 ^ 30

/-- BIND_OFF (R383, R384, step 1). -/
def Device.bindOff (d : Device) : Device :=
  let r := d.bindResult
  let d := d.set Reg.UNT_BIND_RESULT r
  if r ≠ 0 then d
  else
    let cut := (d.nowNs + 100000) % 4000000000
    let d := (d.set Reg.UNT_BIND_STATE 1).set Reg.UNT_BIND_QUEUES_LEFT 8192
    (d.onUnit fun u => { u with bind := { side := 1, cut := cut, guard := d.get Reg.UNT_CFG_BIND_GUARD } }).bindMessage 1 (beBytes 4 (stampWord cut))

/-- A command of UNT_ROLE_CMD (R395). -/
def Device.roleCommand (d : Device) (cmd : Nat) : Device :=
  match cmd with
  | 1 => d.bindOff
  | 2 => d.relinquish
  | 3 => if d.role = roleStandby then d.resyncStart else d
  | _ => d

/-! ### The Punty link (R372, R373, R378) -/

/-- HEARTBEAT_SEND (R373). -/
def Device.heartbeatSend (d : Device) : Device :=
  if d.flag Reg.UNT_STATUS_PUNTY_UP then
    let u := d.unit
    let flags := d.role * 16 + 8 * b2n (d.flag Reg.UNT_STATUS_SYNCED) + 4 * b2n (d.get Reg.UNT_STATUS_CRIT_CAUSE != 0)
      + 2 * b2n (u.bind.side != 0)
    let applied := d.rd (if d.role = roleActive then Reg.UNT_PSEQ_SENT else Reg.UNT_PSEQ_APPLIED)
    let body := beBytes 1 flags ++ beBytes 1 0 ++ beBytes 2 u.hbSeq ++ beBytes 4 applied ++ beBytes 4 u.peerTx
      ++ beBytes 4 u.peerRx
    (d.punty 1 0 body).onUnit fun u => { u with hbSeq := (u.hbSeq + 1) % 65536 }
  else d

/-- A difference of two nanosecond fields, within half a second of 0. -/
def nsDiff (a b : Nat) : Int :=
  let x := (a + 1000000000 - b % 1000000000) % 1000000000
  if x < 500000000 then x else (x : Int) - 1000000000

/-- One exchange of the pair offset on the standby, averaged over 1,024 (R373). -/
def Device.pairOffset (d : Device) (tx peerTx peerRx : Nat) : Device :=
  let o := (nsDiff peerRx peerTx + nsDiff tx (tmNs d.ft)) / 2
  let d := d.onUnit fun u => { u with offN := u.offN + 1, offSum := u.offSum + o }
  if d.unit.offN = 1024 then
    (d.wr Reg.UNT_PAIR_OFFSET (unsigned 32 (d.unit.offSum / 1024))).onUnit fun u => { u with offN := 0, offSum := 0 }
  else d

/-- A PSEQ is covered by another, modulo 2³². -/
def pseqLe (a b : Nat) : Bool := decide ((b + 2 ^ 32 - a) % 2 ^ 32 < 2 ^ 31)

/-- DONE leaves once the standby has applied every record (R384, step 6). -/
def Device.bindDone (d : Device) : Device :=
  if d.unit.bind.side = 1 ∧ d.unit.rejectRepl ∧ !d.unit.bind.donePending ∧ d.unit.store.isEmpty then
    (d.onUnit fun u => { u with bind := { u.bind with donePending := true } }).bindMessage 4 []
  else d

/-- What a resync streams, as it stands (R378). -/
def Device.syncSnap (d : Device) : SyncSnap :=
  { regs := d.regs, qcfg := d.path.qcfg, rules := d.rules, meters := d.meters.m, grp := d.path.grp, lists := d.path.lists,
    members := d.path.members, cur := d.path.cur, tab := d.mrv.tab }

/-- The active begins a resync of its standby (R378): the current PSEQ is marked as M, and the SYNC records of what stands now stream,
a message a clock. -/
def Device.resyncServe (d : Device) : Device :=
  if d.role = roleActive ∧ d.unit.peerRole = some roleStandby ∧ !d.unit.peerSynced ∧ !d.unit.resync then
    let m := d.rd Reg.UNT_PSEQ_SENT
    (d.inc (Reg.UNT_STAT_COUNT 7)).onUnit fun u =>
      { u with repl := true, resync := true, mark := m, store := [], snap := some d.syncSnap, syncPos := 0 }
  else d

/-- How much of a list of held frames is still needed for `n` waiting records: the frames, and the stitches of those that go. -/
def heldKeep (n : Nat) : Held → Held × List Nat
  | [] => ([], [])
  | e :: l => if n ≤ (l.map (·.1)).sum then let (k, f) := heldKeep n l; (k, e.2 ++ f) else (e :: l, [])

/-- The stitches of the received frames none of whose records waits any more go back (R372). -/
def Device.heldFree (d : Device) : Device :=
  let (l, a) := heldKeep d.unit.live.length d.unit.heldLive
  let (s, b) := heldKeep d.unit.syncQ.length d.unit.heldSync
  let d := d.onUnit fun u => { u with heldLive := l, heldSync := s }
  (d.freeStitches (a ++ b)).credit .control (a ++ b).length

/-- A received Punty frame with a body of `n` bytes finds room in the control reserve (R372). -/
def Device.puntyRoom (d : Device) (n : Nat) : Bool :=
  decide (d.get Reg.BUF_CTRL_USED_STITCHES + stitchCount (16 + n + 4) ≤ d.ctrlResv)

/-- A received Punty frame that is discarded is counted in PUNTY_DROP (R372). -/
def Device.puntyDrop (d : Device) : Device := d.inc (Reg.UNT_STAT_COUNT 9)

/-- What a received Punty frame with a body of `n` bytes does: one that finds the reserve full is discarded (R372). It is held in
stitches only while records of it wait, since every other frame is taken at once; one whose FCS is bad is no command. -/
def Device.puntyIn (d : Device) (n : Nat) (f : Device → Device) : Device := if d.puntyRoom n then f d else d.puntyDrop

/-- A received frame of `k` records takes its stitches, charged to the control reserve: its number of records and the stitches (R372). -/
def Device.heldTake (d : Device) (n k : Nat) : (Nat × List Nat) × Device :=
  let (l, d) := d.takeStitches (stitchCount (16 + n + 4))
  ((k, l), d.charge .control l.length)

/-- HEARTBEAT_RECEIVED, with TX_NS of its header and its body (R373, R376). A critical fault that the peer shows ends a Bind-Off, on the
standby only before the cut (R385). DEDUCED: an exchange counts once the peer shows the times of a heartbeat that it has received. DONE
goes before SYNC records (R372). -/
def Device.heartbeatReceived (d : Device) (tx : Nat) (bs : List Byte) : Device :=
  let f := byteAt bs 0
  let role := f / 16
  let synced := bit f 3
  let applied := be32 bs 4
  let crit := bit f 2 || role == roleFailed
  let known := be32 bs 8 != 0 || be32 bs 12 != 0
  let d := d.onUnit fun u => { u with hbSeen := true, missed := 0, peerRole := some role,
                                      peerTx := tx, peerRx := tmNs d.ft }
  if d.role = roleActive then
    let d := d.onUnit fun u => { u with stale := u.stale && !(role == roleStandby && !synced) }
    let ok := role == roleStandby && synced && !d.unit.stale
    let d := d.onUnit fun u => { u with peerSynced := ok, resync := u.resync && !ok, snap := if ok then none else u.snap,
                                        store := u.store.filter fun r => !pseqLe r.1 applied }
    let d := d.when crit (·.bindAbort)
    let d := if role = roleFailed then d.replStop else d
    (d.bindDone).resyncServe
  else
    let d := d.when (crit && d.unit.bind.side == 2 && !d.cutCome) (·.bindAbort)
    if d.role = roleStandby ∧ known then d.pairOffset tx (be32 bs 8) (be32 bs 12) else d

/-- HEARTBEAT_SLOT_END, with the levels of the peer's pins (R371, R373, R381, R382). -/
def Device.slotEnd (d : Device) (actLow relqLow : Bool) : Device :=
  if !d.paired || !d.unit.released then d
  else
    let relqFell := relqLow && !d.flag Reg.UNT_STATUS_PEER_RELQ
    let d := (d.put Reg.UNT_STATUS_PEER_ACT actLow).put Reg.UNT_STATUS_PEER_RELQ relqLow
    let d := d.onUnit fun u => { u with roleWait := u.roleWait && !actLow }
    let was := d.unit.missed
    let d := if d.unit.hbSeen then d.onUnit fun u => { u with hbSeen := false, missed := 0 }
      else (d.inc (Reg.UNT_STAT_COUNT 3)).onUnit fun u => { u with missed := min 20 (u.missed + 1) }
    let twenty := d.unit.missed == 20
    let just := twenty && decide (was < 20)
    if d.role = roleActive then
      if twenty then (d.put Reg.UNT_STATUS_PEER_LOST true).replStop else d
    else if d.role = roleStandby ∧ !d.unit.roleWait then
      if relqLow then d.tryTakeover 0 relqFell
      else if twenty then d.tryTakeover 1 just else d
    else d

/-- PUNTY_LINK_UP (R378). -/
def Device.puntyUp (d : Device) : Device :=
  if d.paired then
    let d := (d.put Reg.UNT_STATUS_PUNTY_UP true).put Reg.UNT_PUNTY_STATUS_LINK true
    let d := d.set Reg.UNT_PUNTY_STATUS_LOCK 0xF
    if d.role = roleStandby then d.resyncStart else d
  else d

/-- PUNTY_LINK_DOWN (R372, R377, R385). -/
def Device.puntyDown (d : Device) : Device :=
  if d.flag Reg.UNT_STATUS_PUNTY_UP then
    let d := (d.put Reg.UNT_STATUS_PUNTY_UP false).put Reg.UNT_PUNTY_STATUS_LINK false
    let d := (d.set Reg.UNT_PUNTY_STATUS_LOCK 0).inc Reg.UNT_PUNTY_STATUS_LINK_LOSS
    d.replStop.bindAbort
  else d

/-- NAK_RECEIVED: the active sends again from the first PSEQ wanted (R376); DEDUCED: while a SYNC stream runs, from the first SYNC record
wanted (R372, R378). -/
def Device.nakReceived (d : Device) (pseq : Nat) : Device :=
  if d.role = roleActive ∧ d.unit.resync then d.onUnit fun u => { u with syncPos := pseq }
  else if d.role = roleActive ∧ d.unit.repl then
    d.each (d.unit.store.filter fun r => pseqLe pseq r.1) fun d r => (d.punty 2 r.1 r.2).inc (Reg.UNT_STAT_COUNT 6)
  else d

/-- RESYNC_DONE: the standby has caught up (R378). -/
def Device.resyncDone (d : Device) : Device :=
  if d.role = roleStandby ∧ d.unit.resync ∧ d.unit.syncEnded ∧ d.unit.live.isEmpty
      ∧ d.flag Reg.UNT_STATUS_PUNTY_UP then
    (d.put Reg.UNT_STATUS_SYNCED true).onUnit fun u => { u with resync := false }
  else d

/-- TAKEOVER_RECEIVED: the peer has just taken the active role (R372). -/
def Device.takeoverReceived (d : Device) : Device := d.onUnit fun u => { u with peerRole := some roleActive }

/-! ### Bind-Off (R384, R385) -/

/-- BIND_REQ_RECEIVED: the standby answers READY and holds frames at or after CUT − G. -/
def Device.bindReq (d : Device) (cut : Nat) : Device :=
  if d.role = roleStandby then
    let d := (d.set Reg.UNT_BIND_STATE 1).set Reg.UNT_BIND_QUEUES_LEFT 8192
    (d.onUnit fun u => { u with bind := { side := 2, cut := wordStamp cut, guard := d.get Reg.UNT_CFG_BIND_GUARD } }).bindMessage 2 []
  else d

/-- BIND_READY_RECEIVED. -/
def Device.bindReady (d : Device) : Device :=
  if d.unit.bind.side = 1 ∧ !d.unit.bind.ready then
    (d.set Reg.UNT_BIND_STATE 2).onUnit fun u => { u with bind := { u.bind with ready := true } }
  else d

/-- BIND_CUT: queues are released from now on. -/
def Device.bindCut (d : Device) : Device :=
  if d.unit.bind.side = 1 ∧ d.unit.bind.ready then d.set Reg.UNT_BIND_STATE 3 else d

/-- The header of the first frame a queue still holds on the way to its port: in the egress queue or its VOQs. -/
def Device.queueHead (d : Device) (q : Nat) : Option Hdr :=
  match d.egr q with
  | e :: _ => some e.hdr
  | [] => (List.range 16).findSome? fun s =>
      let v := d.voq (voqKey s q)
      ((v.on.head?).map fun f => f.hdr).or ((v.deep.head?).map fun f => f.frame.hdr)

/-- The frames of a queue that are selected and have not started: they are sent. -/
def Device.queueSelected (d : Device) (q : Nat) : List (Nat × Nat) :=
  d.path.sel.flatMap fun e => (e.2.filter fun s => s.q == q).map fun s =>
    (d.ingressNs s.entry.hdr, crc32c (d.entryBytes s.entry))

/-- The active mutes a queue and sends RELEASE with CUT_Q and the CRCs of its band (R384). -/
def Device.releaseQueue (d : Device) (q cutq : Nat) : Device :=
  let g := d.bindG
  let sent := lget d.unit.bind.sent q ++ d.queueSelected q
  let crcs := (sent.filter fun a => tsGe (a.1 + g) cutq && !tsGe a.1 cutq).map fun a => a.2
  let d := d.when (255 < crcs.length) fun d => d.inc (Reg.UNT_STAT_COUNT 15) (crcs.length - 255)
  let crcs := crcs.take 255
  let d := d.set Reg.UNT_BIND_QUEUES_LEFT (d.get Reg.UNT_BIND_QUEUES_LEFT - 1)
  let d := d.onUnit fun u => { u with bind := { u.bind with muted := mset (fun _ => false) u.bind.muted q true } }
  d.bindMessage 3 (beBytes 2 (q / 16) ++ beBytes 1 (q % 16) ++ beBytes 1 crcs.length ++ beBytes 4 (stampWord cutq)
    ++ crcs.flatMap (beBytes 4))

/-- A queue has been released. -/
def Device.queueReleased (d : Device) (q : Nat) : Bool := mget (fun _ => false) d.unit.bind.muted q

/-- BIND_MAX_TIMEOUT, or the last release: every remaining queue goes, and DONE follows the acknowledgement (step 6). -/
def Device.bindMax (d : Device) : Device :=
  if d.unit.bind.side = 1 ∧ d.get Reg.UNT_BIND_STATE = 3 then
    let d := d.each ((List.range 8192).filter fun q => !d.queueReleased q) fun d q =>
      d.releaseQueue q (match d.queueHead q with | some h => d.ingressNs h | none => d.unit.bind.cut)
    (d.onUnit fun u => { u with rejectRepl := true }).bindDone
  else d

/-- BIND_QUEUE_RELEASE (R384, step 4); step 6 follows the last release. -/
def Device.bindQueueRelease (d : Device) (q : Nat) : Device :=
  let b := d.unit.bind
  if b.side = 1 ∧ d.get Reg.UNT_BIND_STATE = 3 ∧ !d.queueReleased q then
    let r := match d.queueHead q with | some h => tsGe (d.ingressNs h) b.cut | none => true
    let d := d.when r (·.releaseQueue q b.cut)
    if r ∧ d.get Reg.UNT_BIND_QUEUES_LEFT = 0 then d.bindMax else d
  else d

/-- BIND_RELEASE_RECEIVED, with bytes 4 onward of the body (R384, R385). -/
def Device.bindReleased (d : Device) (bs : List Byte) : Device :=
  let q := 16 * be16 bs 0 + byteAt bs 2
  if d.unit.bind.side = 2 ∧ q < 8192 ∧ (d.bindRel q).isNone then
    let crcs := (List.range (byteAt bs 3)).map fun i => be32 bs (8 + 4 * i)
    let r : Release := ⟨wordStamp (be32 bs 4), crcs⟩
    let d := (d.set Reg.UNT_BIND_STATE 3).set Reg.UNT_BIND_QUEUES_LEFT (d.get Reg.UNT_BIND_QUEUES_LEFT - 1)
    d.onUnit fun u => { u with bind := { u.bind with rel := mset (fun _ => none) u.bind.rel q (some r) } }
  else d

/-- BIND_DONE_RECEIVED: the standby takes the active role (step 7). Its releases go on judging what its queues hold. -/
def Device.bindDoneReceived (d : Device) : Device :=
  if d.unit.bind.side = 2 then
    let d := ((d.set Reg.UNT_BIND_STATE 4).set Reg.UNT_BIND_RESULT 0).inc (Reg.UNT_STAT_COUNT 14)
    let d := d.onUnit fun u => { u with bind := { cut := u.bind.cut, rel := u.bind.rel, guard := u.bind.guard } }
    (d.goActive 3).onUnit fun u => { u with repl := true, peerSynced := true, peerRole := some roleStandby }
  else d

/-- BIND_READY_TIMEOUT (R385). -/
def Device.bindReadyTimeout (d : Device) : Device :=
  if d.unit.bind.side = 1 ∧ !d.unit.bind.ready then (d.bindMessage 5 []).bindAbort else d

/-! ### Tension (R386 to R389) -/

/-- A Tension interval record. -/
def Device.tensRec (d : Device) (p n : Nat) : TRec := mget (fun _ => {}) d.unit.tens (tensKey p n)

/-- REPL of interval `n`: a replicated change was applied in it or in the one before (R387). -/
def Device.replFlag (d : Device) (n : Nat) : Bool :=
  mget (fun _ => false) d.unit.replIn n || mget (fun _ => false) d.unit.replIn ((n + 3999) % 4000)

/-- A DIGEST record (R389). -/
def digestBytes (p n : Nat) (r : TRec) : List Byte :=
  beBytes 2 p ++ beBytes 2 n ++ beBytes 4 r.count ++ beBytes 4 r.bytes ++ beBytes 4 r.sum ++ beBytes 2 r.guard
    ++ beBytes 2 r.late ++ beBytes 1 (128 * b2n r.drift + 64 * b2n r.repl) ++ beBytes 3 0

/-- Messages of at most 84 records each. -/
def chunks (n : Nat) : Nat → List Byte → List (List Byte)
  | 0, _ => []
  | fuel + 1, l => if l.isEmpty then [] else l.take n :: chunks n fuel (l.drop n)

/-- TENSION_INTERVAL_CLOSE of interval `n` (R386): the active sends the digests of its enabled ports, the standby keeps its
records for the comparison. Interval numbers come round in 4 s: what is left of the interval half a round away is forgotten
(DESIGN CHOICE). -/
def Device.tensionClose (d : Device) (n : Nat) : Device :=
  let far := (n + 2000) % 4000
  let d := d.onUnit fun u => { u with tens := u.tens.filter fun e => e.1 % 4096 != far,
                                      replIn := mset (fun _ => false) u.replIn far false }
  if d.role = roleActive ∧ d.tensionOn then
    let ps := (List.range 512).filter d.portEn
    let body := ps.flatMap fun p => digestBytes p n { d.tensRec p n with repl := d.replFlag n }
    let d := d.each (chunks 2016 8 body) fun d b => d.punty 5 0 b
    d.onUnit fun u => { u with tens := u.tens.filter fun e => e.1 % 4096 != n,
                               replIn := mset (fun _ => false) u.replIn ((n + 3999) % 4000) false }
  else d

/-- FLAG_N in force in interval `n` (R398). -/
def Device.flagN (d : Device) (n : Nat) : Nat := max 1 (min 64 (bits (d.tensCfg n) 6 0))

/-- The result of a port's interval `n`: 0 match, 1 excused, 2 unexcused (R388). -/
def Device.tensionResult (d : Device) (p n res : Nat) : Device :=
  let d := d.inc (Reg.UNT_STAT_COUNT (10 + res))
  let win := (res :: lget d.unit.win p).take 64
  let run := if res = 1 then min 1024 (nget d.unit.excRun p + 1) else 0
  let d := d.onUnit fun u => { u with win := lset u.win p win, excRun := nset u.excRun p run }
  let w := p / 32
  let d := d.wr (Reg.UNT_DRIFT w) (setBit (d.rd (Reg.UNT_DRIFT w)) (p % 32) (run == 1024))
  if d.flagN n ≤ (win.filter (· == 2)).length ∧ !bit (d.rd (Reg.UNT_DIVERGED w)) (p % 32) then
    (d.wr (Reg.UNT_DIVERGED w) (setBit (d.rd (Reg.UNT_DIVERGED w)) (p % 32) true)).event 4 0 p
  else d

/-- One record of the active against the standby's own (R388). -/
def Device.digestCompare (d : Device) (bs : List Byte) : Device :=
  let p := be16 bs 0 % 1024
  let n := be16 bs 2
  if 512 ≤ p ∨ 4000 ≤ n then d
  else
    let o := d.tensRec p n
    let same := o.count == be32 bs 4 && o.bytes % 2 ^ 32 == be32 bs 8 && o.sum == be32 bs 12
    let flags := byteAt bs 20
    let excused := o.drift || d.replFlag n || bit flags 7 || bit flags 6 || o.guard != be16 bs 16 || o.late != be16 bs 18
    let d := d.onUnit fun u => { u with tens := mset (fun _ => {}) u.tens (tensKey p n) {} }
    d.tensionResult p n (if same then 0 else if excused then 1 else 2)

/-- DIGEST_RECEIVED (R388). -/
def Device.digestReceived (d : Device) (bs : List Byte) : Device :=
  if d.role = roleStandby ∧ d.tensionOn then d.each (chunks 24 84 bs) fun d r => d.digestCompare r else d

/-! ### Health and background test (R390, R391) -/

/-- HEALTH_SEND. A Bind-Off whose cut lies a second back no longer judges frames (DESIGN CHOICE: times run modulo 4 s). -/
def Device.healthSend (d : Device) : Device :=
  let h := d.rd Reg.UNT_HEALTH
  let old := (d.nowNs + 4000000000 - d.unit.bind.cut) % 4000000000
  let d := d.when (d.unit.bind.side == 0 && decide (1000000000 ≤ old ∧ old < 3000000000)) fun d =>
    d.onUnit fun u => { u with bind := {} }
  let cnt := fun (i : Nat) => beBytes 4 (d.get (Reg.UNT_STAT_COUNT i))
  d.punty 6 0 (beBytes 1 (d.role * 16 + bits h 31 28) ++ beBytes 1 (bits h 27 26 * 64) ++ beBytes 2 (bits h 15 0)
    ++ cnt 12 ++ cnt 11 ++ cnt 13 ++ beBytes 4 d.unit.bistPasses
    ++ beBytes 4 (d.rd (if d.role = roleActive then Reg.UNT_PSEQ_SENT else Reg.UNT_PSEQ_APPLIED))
    ++ beBytes 4 (d.rd Reg.UNT_PAIR_OFFSET) ++ beBytes 4 0)

/-- HEALTH_RECEIVED. -/
def Device.healthReceived (d : Device) (bs : List Byte) : Device :=
  let d := d.wr Reg.UNT_PEER_HEALTH
    (byteAt bs 0 % 16 * 2 ^ 28 + byteAt bs 1 / 64 * 2 ^ 26 + be16 bs 2)
  d.onUnit fun u => { u with peerFail := bit (byteAt bs 0) 3 }

/-- A deep-store slot holds a segment of a waiting frame. -/
def Device.deepHeld (d : Device) (i : Nat) : Bool := d.path.voq.any fun e => e.2.deep.any fun f => f.slots.contains i

/-- A row that the background test may test is idle: a free Skein stitch, a departure slot of a tile that has one free, a deep-store slot
that holds no segment (R390). -/
def Device.bistIdle (d : Device) (kind i : Nat) : Bool :=
  match kind with
  | 0 => decide (i < skeinSize) && d.isFree i
  | 1 => decide (i < 65536) && decide (0 < d.depFree (i / 1024))
  | _ => d.stackState (slotStack i) == 2 && !d.slotRetired i && !d.deepHeld i

/-- A failing free stitch is retired as in R247 and leaves the free list (R390). -/
def Device.bistRetire (d : Device) (i : Nat) : Device :=
  let d := (d.setStitch i { d.stitch i with retired := true }).onPath fun p => { p with free := p.free.filter (· != i) }
  ((d.set Reg.BUF_SKEIN_EFF_STITCHES (d.get Reg.BUF_SKEIN_EFF_STITCHES - 1)).auditEvent 6 0 i 0).recomputeStart

/-- BIST_TEST_DONE on a row: 0 a free Skein stitch, 1 a departure slot, 2 a deep-store slot (R390). DESIGN CHOICE: the test of a row
begins and ends in this command, so a stitch is away from the free list only within it. -/
def Device.bistDone (d : Device) (kind i : Nat) (ok lastOfPass : Bool) : Device :=
  if d.role = roleStandby ∧ d.flag Reg.UNT_CFG_BIST_EN ∧ d.bistIdle kind i then
    let d := d.when lastOfPass fun d => d.onUnit fun u => { u with bistPasses := (u.bistPasses + 1) % 2 ^ 32 }
    if ok then d
    else
      let d := ((d.inc (Reg.UNT_STAT_COUNT 13)).put Reg.UNT_HEALTH_BIST_ERR true).event 4 1 0
      if kind = 0 then d.bistRetire i else d
  else d

/-! ### Meanings -/

/-- ROLE_WAIT_TIMEOUT (R370). -/
def execRoleWaitTimeout (s : State) : Host.Outcome State Fault Refusal := s.run (·.roleWaitEnd)

/-- PEER_ACT_FALL (R371). -/
def execPeerActFall (together : Bool) (s : State) : Host.Outcome State Fault Refusal := s.run (·.peerActFall together)

/-- PEER_RELQ_LOW (R382). -/
def execPeerRelqLow (s : State) : Host.Outcome State Fault Refusal := s.run (·.peerRelqLow)

/-- MUTE_GUARD_END (R382). -/
def execMuteGuardEnd (s : State) : Host.Outcome State Fault Refusal := s.run (·.guardEnd)

/-- FAILED_REACTIVATE (R381). -/
def execFailedReactivate (s : State) : Host.Outcome State Fault Refusal := s.run (·.reactivate)

/-- CRITICAL_FAULT (R381). -/
def execCriticalFault (cause : BitVec 4) (detail : BitVec 12) (s : State) : Host.Outcome State Fault Refusal :=
  s.run (·.criticalFault cause.toNat detail.toNat)

/-- SLICE_WATCHDOG (R380). -/
def execSliceWatchdog (sl : Fin 16) (s : State) : Host.Outcome State Fault Refusal := s.run (·.critical 4 sl.val)

/-- HEARTBEAT_SEND (R372). -/
def execHeartbeatSend (s : State) : Host.Outcome State Fault Refusal := s.run (·.heartbeatSend)

/-- HEARTBEAT_RECEIVED (R373). -/
def execHeartbeatReceived (tx : BitVec 32) (body : List Byte) (s : State) : Host.Outcome State Fault Refusal :=
  s.run (·.puntyIn 16 (·.heartbeatReceived tx.toNat body))

/-- HEARTBEAT_SLOT_END (R373). -/
def execHeartbeatSlotEnd (actLow relqLow : Bool) (s : State) : Host.Outcome State Fault Refusal :=
  s.run (·.slotEnd actLow relqLow)

/-- PUNTY_LINK_UP (R378). -/
def execPuntyLinkUp (s : State) : Host.Outcome State Fault Refusal := s.run (·.puntyUp)

/-- PUNTY_LINK_DOWN (R372). -/
def execPuntyLinkDown (s : State) : Host.Outcome State Fault Refusal := s.run (·.puntyDown)

/-- NAK_RECEIVED (R376). -/
def execNakReceived (pseq : BitVec 32) (s : State) : Host.Outcome State Fault Refusal :=
  s.run (·.puntyIn 0 (·.nakReceived pseq.toNat))

/-- RESYNC_DONE (R378). -/
def execResyncDone (s : State) : Host.Outcome State Fault Refusal := s.run (·.resyncDone)

/-- TAKEOVER_RECEIVED (R372). -/
def execTakeoverReceived (s : State) : Host.Outcome State Fault Refusal := s.run (·.puntyIn 0 (·.takeoverReceived))

/-- BIND_REQ_RECEIVED (R384). -/
def execBindReqReceived (cut : BitVec 32) (s : State) : Host.Outcome State Fault Refusal :=
  s.run (·.puntyIn 8 (·.bindReq cut.toNat))

/-- BIND_READY_RECEIVED (R384). -/
def execBindReadyReceived (s : State) : Host.Outcome State Fault Refusal :=
  s.run (·.puntyIn 4 (·.bindReady))

/-- BIND_CUT (R384). -/
def execBindCut (s : State) : Host.Outcome State Fault Refusal := s.run (·.bindCut)

/-- BIND_QUEUE_RELEASE (R384). -/
def execBindQueueRelease (q : Fin 8192) (s : State) : Host.Outcome State Fault Refusal :=
  s.run (·.bindQueueRelease q.val)

/-- BIND_RELEASE_RECEIVED (R385). -/
def execBindReleaseReceived (body : List Byte) (s : State) : Host.Outcome State Fault Refusal :=
  s.run (·.puntyIn (body.length + 4) (·.bindReleased body))

/-- BIND_MAX_TIMEOUT (R384). -/
def execBindMaxTimeout (s : State) : Host.Outcome State Fault Refusal := s.run (·.bindMax)

/-- BIND_DONE_RECEIVED (R384). -/
def execBindDoneReceived (s : State) : Host.Outcome State Fault Refusal :=
  s.run (·.puntyIn 4 (·.bindDoneReceived))

/-- BIND_READY_TIMEOUT (R385). -/
def execBindReadyTimeout (s : State) : Host.Outcome State Fault Refusal := s.run (·.bindReadyTimeout)

/-- BIND_ABORT_RECEIVED (R385). -/
def execBindAbortReceived (s : State) : Host.Outcome State Fault Refusal :=
  s.run (·.puntyIn 4 (·.bindAbort))

/-- TENSION_INTERVAL_CLOSE (R386). -/
def execTensionIntervalClose (n : Fin 4000) (s : State) : Host.Outcome State Fault Refusal :=
  s.run (·.tensionClose n.val)

/-- DIGEST_RECEIVED (R388). -/
def execDigestReceived (body : List Byte) (s : State) : Host.Outcome State Fault Refusal :=
  s.run (·.puntyIn body.length (·.digestReceived body))

/-- HEALTH_SEND (R391). -/
def execHealthSend (s : State) : Host.Outcome State Fault Refusal := s.run (·.healthSend)

/-- HEALTH_RECEIVED (R391). -/
def execHealthReceived (body : List Byte) (s : State) : Host.Outcome State Fault Refusal :=
  s.run (·.puntyIn 32 (·.healthReceived body))

/-- BIST_TEST_DONE (R390). -/
def execBistTestDone (kind : Fin 3) (i : Fin 268435456) (ok lastOfPass : Bool) (s : State) :
    Host.Outcome State Fault Refusal := s.run (·.bistDone kind.val i.val ok lastOfPass)

end Sys2Proof.Machine
end

