-- ==== Sys2Proof/Machine/Lines.lean ====
section
/-!
DEFINITION. The requests of the DMA channels: what the request lines hold to be moved, and the burst that each channel would
start next (R510 to R514).
-/
namespace Sys2Proof.Machine

/-- Change what the DMA engine holds. -/
def Device.onDma (d : Device) (f : DmaEng → DmaEng) : Device := { d with dma := f d.dma }

/-- The frame selected first from the queue of a request line of port 512 or 515. -/
def Device.linePunt (d : Device) (l : Nat) : Option PuntRec :=
  d.host.punt.find? fun r => r.port == (if l < 16 then 512 else 515) && r.sel.q % 16 == l % 16

/-- What a request line holds to be moved: the function it goes to, the address of the first byte and the number of bytes
(R511). -/
def Device.lineData (d : Device) (l : Nat) : Option (Nat × Nat × Nat) :=
  let into := fun (qv : Bool) (q n : Nat) =>
    match qv, d.bufsOf q with
    | true, b :: _ => if n = 0 then none else some (d.owner q, b.addr + b.data.length, min n (b.len - b.data.length))
    | _, _ => none
  if l < 32 then
    (d.linePunt l).bind fun r => ((d.bufsOf r.pq).find? fun b => b.op.id == r.buf).map fun b =>
      (d.owner r.pq, b.addr, min b.len (32 + (d.entryBytes r.sel.entry).length))
  else if l = 32 then
    (d.host.stamps.findSome? fun s => (d.freeBuf s.pq).map fun b => (d.owner s.pq, b.addr, 32))
  else if l = 33 then
    into (d.flag Reg.HQ_GLB_CFG_LEARN_QV && d.learnDest == 1) (d.get Reg.HQ_GLB_CFG_LEARN_Q) (32 * d.mrv.fifo.length)
  else if l = 34 then into (d.flag Reg.HQ_GLB_CFG_AUDIT_QV && d.stream) (d.get Reg.HQ_GLB_CFG_AUDIT_Q) (32 * d.used)
  else if 36 ≤ l ∧ l < 40 then
    match lget d.tel.wait (l - 36) with
    | [] => none
    | (base, r) :: _ =>
      let k := l - 36
      some (0, base + 256 * (d.get (Reg.PMC_TEL_WIDX_WIDX k) % 2 ^ d.get (Reg.PMC_TEL_CFG_LOG2_N k)), r.length)
  else none

/-- Bytes up to the next 4 KiB boundary (R512). -/
def toPage (addr : Nat) : Nat := 4096 - addr % 4096

/-- The next burst of a line: its bytes, if the line requests. -/
def Device.lineBurst (d : Device) (l : Nat) : Option Nat :=
  match d.lineData l with
  | none => none
  | some (f, addr, n) =>
    let m := nget d.dma.moved l
    if d.lineOpen l && d.dmaOk f && decide (m < n) then some (min (n - m) (toPage (addr + m))) else none

/-- What line `l` has moved of its data counts for nothing, and a burst of it in progress completes to no avail (R514). -/
def Device.lineCut (d : Device) (l : Nat) : Device :=
  let cut := fun (e : Nat × Option Burst) => (e.1, e.2.map fun b => if b.line = some l then { b with cut := true } else b)
  d.onDma fun x => { x with moved := nset x.moved l 0, burst := x.burst.map cut }

/-- A request of line `l` stands: it would start a burst, or one of its bursts is in progress. -/
def Device.lineStands (d : Device) (l : Nat) : Bool :=
  (d.lineBurst l).isSome || d.dma.burst.any fun e => e.2.any fun b => b.line == some l && !b.cut

/-- A write of DMA_LINE has moved line `l` to another channel than it had in `was`: the request that stood there is withdrawn and counted
(R514). That of a line disabled is withdrawn by REQUEST_WITHDRAW. -/
def Device.lineMoved (d was : Device) (l : Nat) : Device :=
  if d.get (Reg.DMA_LINE_CHAN l) ≠ was.get (Reg.DMA_LINE_CHAN l) ∧ was.lineStands l then
    (d.lineCut l).inc (Reg.DMA_STAT_COUNT 5)
  else d

/-- A write of CFG with EN 0 stops telemetry set `k` at once and leaves WIDX unchanged (R576): the records that wait are dropped
(DESIGN CHOICE). -/
def Device.telStop (d : Device) (k : Nat) : Device :=
  if d.flag (Reg.PMC_TEL_CFG_EN k) then d
  else { d with tel := { d.tel with wait := lset d.tel.wait k [] } }.lineCut (36 + k)

/-- The descriptor in progress on a channel. -/
def Device.descOf (d : Device) (c : Nat) : Option Desc := mget (fun _ => none) d.dma.desc c

/-- The burst in progress on a channel. -/
def Device.burstOf (d : Device) (c : Nat) : Option Burst := mget (fun _ => none) d.dma.burst c

/-- LENGTH of a DMA entry. -/
def HostOp.dmaLen (o : HostOp) : Nat := o.field 24 4

/-- The destination side of an entry: address space, FIXED, WIDTH in bytes, address (R518). -/
def HostOp.dst (o : HostOp) : Nat × Bool × Nat × Nat :=
  (bits (o.byte 2) 7 6, bit (o.byte 2) 5, if bit (o.byte 2) 4 then 8 else 4, o.field 16 8)

/-- The source side of an entry. -/
def HostOp.src (o : HostOp) : Nat × Bool × Nat × Nat :=
  (bits (o.byte 1) 7 6, bit (o.byte 1) 5, if bit (o.byte 1) 4 then 8 else 4, o.field 8 8)

/-- The next burst of a descriptor: its bytes (R512). -/
def Device.descBurst (d : Device) (c : Nat) : Option Nat :=
  match d.descOf c with
  | none => none
  | some x =>
    let left := x.op.dmaLen - x.done
    let (_, fixed, _, addr) := x.op.dst
    if left = 0 ∨ !d.dmaOk (d.owner x.op.sq) then none
    else some (min left (if fixed then 4096 else toPage (addr + x.done)))

/-- The request of a channel: the line that it would serve, if any, and the bytes of its next burst (R510). -/
def Device.chanNext (d : Device) (c : Nat) : Option (Option Nat × Nat) :=
  if !d.flag (Reg.DMA_CHAN_EN c) || (d.burstOf c).isSome then none
  else if d.flag (Reg.DMA_CHAN_MODE c) then
    let at_ := mget (fun _ => 63) d.dma.lineAt c
    ((List.range 64).map fun i => (at_ + 1 + i) % 64).findSome? fun l =>
      if d.get (Reg.DMA_LINE_CHAN l) = c then (d.lineBurst l).map fun n => (some l, n) else none
  else (d.descBurst c).map fun n => (none, n)

/-- A request waits on a channel (R525). -/
def Device.chanPending (d : Device) (c : Nat) : Bool := (d.chanNext c).isSome

end Sys2Proof.Machine
end

