-- ==== Sys2Proof/Machine/Window.lean ====
section
/-!
DEFINITION. What register reads give: the words that follow the rest of the state, the latched time words and the indirect
windows (R427, R470 and the window rules of the blocks).
-/
namespace Sys2Proof.Machine

/-- Change what the register bus holds. -/
def Device.onBus (d : Device) (f : BusUnit → BusUnit) : Device := { d with bus := f d.bus }

/-! ### Words that follow the state -/

/-- The physical port now serving a logical port, where an external one does. -/
def Device.servedBy (d : Device) (l : Nat) : Option Nat :=
  let x := d.physReg l
  if x < 512 then some x else none

/-- PAUSED of EGR_PORT_STATUS (R325). -/
def Device.pausedMask (d : Device) (l : Nat) : Nat :=
  match d.servedBy l with
  | none => 0
  | some x => portMask ((List.range 16).filter fun k => d.paused x l k)

/-- SHAPED of EGR_PORT_STATUS (R325). -/
def Device.shapedMask (d : Device) (l : Nat) : Nat :=
  portMask ((List.range 16).filter fun k => !(d.egr (qIdx l k)).isEmpty && !(shpPath k).all (d.shpOpen l))

/-- EGR_PORT_MAP (R325). -/
def Device.mapWord (d : Device) (l : Nat) : Nat :=
  let bound := decide (l < 512) && d.get (Reg.PRT_BIND_KIND l) != 0
  2 ^ 31 * b2n bound + d.physReg l

/-- XBR_DEP_USED (R296). -/
def Device.depWord (d : Device) (t : Nat) : Nat :=
  let held := ((d.dep t).map fun f => f.arrived.length).sum
  let all := d.depSlots t fun _ => true
  2 ^ 16 * (all - held) + held

/-- A word of a resequencing context (R358). -/
def Device.ctxWord (d : Device) (a : Nat) : Nat :=
  let c := d.ctx (a / 4)
  match a % 4 with
  | 0 => 2 ^ 31 * b2n c.based + c.next
  | 1 => (c.slots.filter fun e => e.2.isSome).length
  | 2 => nget d.jarlis.txseq (a / 4)
  | _ => 0

/-- REP_GRP_STATE for a SEL (R299): CUR and OLD_BUSY of that group. -/
def Device.grpStateOf (d : Device) (g : Nat) : Nat := 2 ^ 31 * d.groupCur g + 2 ^ 30 * b2n (d.oldBusy g) + g

/-- REP_GRP_STATE (R299): it is one register, which every slice's window shows; SEL is held in that of slice 0. -/
def Device.grpStateWord (d : Device) : Nat := d.grpStateOf (d.get (Reg.REP_GRP_STATE_SEL 0))

/-- An offset is that of REP_GRP_STATE in some slice's window. -/
def isGrpState (off : Nat) : Bool := decide (0xC00000 ≤ off) && decide (off < 0xD00000) && off % 0x10000 == 0x5014

/-- MRV_HASH_OUT (R218). -/
def Device.hashOut (d : Device) : Nat :=
  marverHash ((List.range 8).flatMap fun w => leBytes 4 (d.rd (Reg.MRV_HASH_IN w))) (d.rd Reg.MRV_SEED)

/-- The word at an offset where it follows the rest of the state. -/
def Device.derived (d : Device) (off : Nat) : Option Nat :=
  if off = Reg.MRV_HASH_OUT then some d.hashOut
  else if off = Reg.AUD_FUSE_STATUS then some (withBits (d.rd off) 6 0 d.fuses.otp.svn)
  else if 0xE00000 ≤ off ∧ off < 0xE81000 ∧ off % 0x400 = 0x3C0 then
    let l := (off - 0xE00000) / 0x400
    some (2 ^ 16 * d.pausedMask l + d.shapedMask l)
  else if 0xE00000 ≤ off ∧ off < 0xE81000 ∧ off % 0x400 = 0x3C4 then some (d.mapWord ((off - 0xE00000) / 0x400))
  else if Reg.DMA_CHAN_STATUS 0 ≤ off ∧ off < Reg.DMA_CHAN_STATUS 32 then
    some (withBits (d.rd off) 30 30 (b2n (d.chanPending ((off - Reg.DMA_CHAN_STATUS 0) / 4))))
  else if Reg.XBR_DEP_USED 0 ≤ off ∧ off < Reg.XBR_DEP_USED 64 then some (d.depWord ((off - Reg.XBR_DEP_USED 0) / 4))
  else if Reg.JFL_DESC_USED 0 ≤ off ∧ off < Reg.JFL_DESC_USED 16 then
    some (d.descUsed ((off - Reg.JFL_DESC_USED 0) / 4))
  else if isGrpState off then some d.grpStateWord
  else none

/-- A word as a read sees it: WO and CPW bits read 0 (R15, R467), but MRV_SEED reads the seed (R212). -/
def Device.view (d : Device) (off : Nat) : Nat :=
  match d.derived off with
  | some v => v
  | none => match regAt off with
    | some (r, _, up) =>
      if r.cpw != 0 then (if off = Reg.MRV_SEED then d.rd off else 0)
      else
        let hide := if up then r.wo / 2 ^ 32 else r.wo % 2 ^ 32
        maskMinus32 (d.rd off) hide
    | none => 0
where
  /-- A word without the bits of a mask. -/
  maskMinus32 (v m : Nat) : Nat := v ^^^ (v &&& m)

/-! ### Latches of time words -/

/-- A read of word 0 latches (R427, R422, R476): the latched words are kept by the offset of word 0. -/
def Device.latchOf (d : Device) (off : Nat) : Option (Nat × List Nat) :=
  if off / 16 * 16 = Reg.TIM_NOW_W0 then some (Reg.TIM_NOW_W0, timeWords d.tod)
  else if off / 16 * 16 = Reg.TIM_FT_W0 then some (Reg.TIM_FT_W0, timeWords d.ft)
  else if off / 16 * 16 = Reg.TIM_PPS_IN_TS 0 then
    some (Reg.TIM_PPS_IN_TS 0, (List.range 4).map fun w => d.rd (Reg.TIM_PPS_IN_TS w))
  else if Reg.GLB_SNAP_TS 0 ≤ off ∧ off < Reg.GLB_SNAP_TS 4 then
    some (Reg.GLB_SNAP_TS 0, (List.range 4).map fun w => d.rd (Reg.GLB_SNAP_TS w))
  else none

/-- Read a word, with the latch that its read works on. -/
def Device.readWord (d : Device) (off : Nat) : Nat × Device :=
  match d.latchOf off with
  | none => (d.view off, d)
  | some (base, ws) =>
    let d := if off = base then d.onBus fun b => { b with latch := lset b.latch base ws } else d
    ((lget d.bus.latch base).getD ((off - base) / 4) 0, d)

/-! ### Indirect windows (R470) -/

/-- The sets of CTRL, ADDR and DATA registers. -/
inductive Win where
  | aud
  | ldg
  | dst
  | buf
  | jfl
  | mrv
  | cls (s : Nat)
  | mtr (s : Nat)
  | rep (s : Nat)
  deriving DecidableEq, Repr

/-- The window whose DATA register stands at an offset. -/
def winAt (off : Nat) : Option Win :=
  if off = Reg.AUD_IND_DATA then some .aud
  else if off = Reg.LDG_IND_DATA then some .ldg
  else if off = Reg.DST_IND_DATA then some .dst
  else if off = Reg.BUF_IND_DATA then some .buf
  else if off = Reg.JFL_IND_DATA then some .jfl
  else if off = Reg.MRV_IND_DATA then some .mrv
  else if 0xC00000 ≤ off ∧ off < 0xD00000 then
    let s := (off - 0xC00000) / 0x10000
    if off = Reg.CLS_IND_DATA s then some (.cls s)
    else if off = Reg.MTR_IND_DATA s then some (.mtr s)
    else if off = Reg.REP_IND_DATA s then some (.rep s)
    else none
  else none

/-- The DATA register of a window. -/
def Win.data : Win → Nat
  | .aud => Reg.AUD_IND_DATA
  | .ldg => Reg.LDG_IND_DATA
  | .dst => Reg.DST_IND_DATA
  | .buf => Reg.BUF_IND_DATA
  | .jfl => Reg.JFL_IND_DATA
  | .mrv => Reg.MRV_IND_DATA
  | .cls s => Reg.CLS_IND_DATA s
  | .mtr s => Reg.MTR_IND_DATA s
  | .rep s => Reg.REP_IND_DATA s

/-- The CTRL register of a window. -/
def Win.ctrl : Win → Nat
  | .aud => Reg.AUD_IND_CTRL
  | .ldg => Reg.LDG_IND_CTRL
  | .dst => Reg.DST_IND_CTRL
  | .buf => Reg.BUF_IND_CTRL
  | .jfl => Reg.JFL_IND_CTRL
  | .mrv => Reg.MRV_IND_CTRL
  | .cls s => Reg.CLS_IND_CTRL s
  | .mtr s => Reg.MTR_IND_CTRL s
  | .rep s => Reg.REP_IND_CTRL s

/-- The ADDR register of a window. -/
def Win.addr : Win → Nat
  | .aud => Reg.AUD_IND_ADDR
  | .ldg => Reg.LDG_IND_ADDR
  | .dst => Reg.DST_IND_ADDR
  | .buf => Reg.BUF_IND_ADDR
  | .jfl => Reg.JFL_IND_ADDR
  | .mrv => Reg.MRV_IND_ADDR
  | .cls s => Reg.CLS_IND_ADDR s
  | .mtr s => Reg.MTR_IND_ADDR s
  | .rep s => Reg.REP_IND_ADDR s

/-- The width of the address of a window. -/
def Win.width : Win → Nat
  | .aud => 19
  | .ldg => 20
  | .dst => 34
  | .buf => 18
  | .jfl => 14
  | .mrv => 24
  | .cls _ => 22
  | .mtr _ => 19
  | .rep _ => 20

/-- ADDR of a window. -/
def Device.winAddr (d : Device) (w : Win) : Nat := (if w = .dst then d.rd64 w.addr else d.rd w.addr) % 2 ^ w.width

/-- ADDR advances by STRIDE, modulo the width of its block (R470). -/
def Device.winNext (d : Device) (w : Win) : Device :=
  let a := (d.winAddr w + d.rd w.ctrl % 8) % 2 ^ w.width
  if w = .dst then d.wr64 w.addr a else d.wr w.addr a

/-- A word of the latched bytes of a window; word 0 latches them first. -/
def Device.latched (d : Device) (w : Win) (i : Nat) (words : List Nat) : Nat × Device :=
  let d := if i = 0 then d.onBus fun b => { b with latch := lset b.latch w.data words } else d
  ((lget d.bus.latch w.data).getD i 0, d)

/-- The words of bytes. -/
def wordsOf (bs : List Byte) (n : Nat) : List Nat := (List.range n).map fun i => leNat (slice bs (4 * i) 4)

/-- A word of the rule table as slice `s` shows it (R167). -/
def Device.ruleWord (d : Device) (s a : Nat) : Nat :=
  let r := a / 64
  let w := a % 64
  let hit := nget d.rules.hit (65536 * s + r)
  if w < 44 then d.rules.wd r w
  else if w = 48 then hit % 2 ^ 32
  else if w = 49 then hit / 2 ^ 32
  else if w = 63 then b2n (d.rules.validIn s r)
  else 0

/-- A word of a queue (R271). -/
def Device.bufWord (d : Device) (a : Nat) : Nat :=
  let q := a / 16
  let c := d.qc q
  if 8256 ≤ q then 0
  else match a % 16 with
    | 8 => c.resvEff
    | 9 => c.ru
    | 10 => c.su
    | 11 => c.deepEff
    | 12 => c.dru + c.dsu
    | 13 => 2 ^ 31 * b2n c.spill + c.entries % 65536
    | w => if w < 5 then d.qword q w else 0

/-- A word of the multicast tables as slice `s` shows it (R298). -/
def Device.repWord (d : Device) (s a : Nat) : Nat :=
  if a < 0x40000 then (mget (fun _ => 0) d.path.grp a).toNat
  else if a < 0xC0000 then
    (mget (fun _ => 0) d.path.lists ((4 * s + (a - 0x40000) / 0x20000) * 131072 + a % 0x20000)).toNat
  else if a < 0xD0000 then d.member (4 * s + (a - 0xC0000) / 0x4000) (a % 0x4000)
  else 0

/-- A read of the test window (R450): the slots of a stack in IN_SERVICE or TEST; any other read is refused and gives 0. -/
def Device.dstRead (d : Device) (a : Nat) (ecc : Option Bool) : Nat × Device :=
  let s := a / 64
  let st := d.stackState (slotStack s)
  if st ≠ 2 ∧ st ≠ 4 then (0, d.put Reg.DST_STATUS_TEST_REJ true)
  else if a % 64 = 0 then
    let d := match ecc with
      | none => d
      | some false => d.deepCorrected
      | some true => d.deepBad s
    d.latched .dst 0 (wordsOf (lget d.deep.mem s) 64)
  else d.latched .dst (a % 64) []

/-- The word that a DATA register shows at ADDR, with the latch of its block. `ecc` is what the memory's check bits show where
the read reaches the deep store. -/
def Device.winRead (d : Device) (w : Win) (ecc : Option Bool) : Nat × Device :=
  let a := d.winAddr w
  match w with
  | .aud => d.latched w (a % 8) (wordsOf (mget (fun _ => []) d.audit.ring (a / 8)) 8)
  | .ldg => (if d.ledger.erasing then 0 else leNat (d.ledRead (4 * a) 4), d)
  | .dst => d.dstRead a ecc
  | .buf => (d.bufWord a, d)
  | .jfl => (d.ctxWord a, d)
  | .mrv => if 8 * 1056767 + 7 < a then (0, d) else d.latched w (a % 8) (wordsOf (d.mrvSlot (a / 8)) 8)
  | .cls s => (d.ruleWord s a, d)
  | .mtr s => d.meterRead s (a / 32) (a % 32)
  | .rep s => (d.repWord s a, d)

end Sys2Proof.Machine
end

