-- ==== Sys2Proof/Machine/Ledger.lean ====
section
/-!
DEFINITION. The Lehr ledger: opening it, checkpoints, the Cast-On and preference logs, and erasure (R64, R558 to R565).
-/
namespace Sys2Proof.Machine

/-- Change what the ledger holds. -/
def Device.onLedger (d : Device) (f : Ledger → Ledger) : Device := { d with ledger := f d.ledger }

/-! ### Checkpoint slots (R560, R561) -/

/-- Ledger offset of checkpoint slot `k` (R558). -/
def ckptSlot (k : Nat) : Nat := 0x200000 + 0x40000 * (k % 8)

/-- LAST_RATE and LAST_FEC of the record of lane `n` (R562): of the port whose lowest lane it is. -/
def Device.laneWord (d : Device) (n : Nat) : Nat :=
  match d.portOfLane n with
  | none => 0xFF
  | some p =>
    if p = n then
      256 * d.get (Reg.TILE_PORT_CFG_FEC (tileOf p) (laneIn p))
        + (if d.portUp p then d.get (Reg.TILE_PORT_CFG_RATE (tileOf p) (laneIn p)) else 0xFF)
    else 0

/-- The word at offset `off` of a slot's body (R561, R562). -/
def Device.slotWord (d : Device) (off : Nat) : Nat :=
  if 0x1000 ≤ off ∧ off < 0x15000 ∧ (off - 0x1000) % 160 = 4 then d.laneWord ((off - 0x1000) / 160) else d.acc off

/-- The body of a slot: offsets 0x40 to 0x1_4FFF. -/
def Device.slotBody (d : Device) : List Byte :=
  (List.range 21488).flatMap fun i => leBytes 4 (d.slotWord (0x40 + 4 * i))

/-- The 64-byte header of a slot (R561). -/
def Device.slotHeader (d : Device) (cseq : Nat) (body : List Byte) : List Byte :=
  leBytes 4 0x5248454C ++ leBytes 2 1 ++ leBytes 2 0 ++ leBytes 8 cseq ++ leBytes 4 d.lifeMin ++ leBytes 4 (tmSec d.tod)
    ++ leBytes 4 (crc32c body) ++ List.replicate 36 0

/-- Slot `k` holds a checkpoint: its magic and its CRC are right (R560). -/
def Device.slotValid (d : Device) (k : Nat) : Bool :=
  leNat (d.ledRead (ckptSlot k) 4) == 0x5248454C
    && leNat (d.ledRead (ckptSlot k + 24) 4) == crc32c (d.ledRead (ckptSlot k + 0x40) (4 * 21488))

/-- CSEQ in the header of slot `k`. -/
def Device.slotSeq (d : Device) (k : Nat) : Nat := leNat (d.ledRead (ckptSlot k + 8) 8)

/-- The valid slot of the highest CSEQ (R560). -/
def Device.bestSlot (d : Device) : Option Nat :=
  (List.range 8).foldl (fun best k =>
    if d.slotValid k && best.all (fun b => decide (d.slotSeq b < d.slotSeq k)) then some k else best) none

/-- LDG_STATUS.BUSY follows a checkpoint or an erase that runs (R575). -/
def Device.ledShow (d : Device) : Device := d.put Reg.LDG_STATUS_BUSY (d.ledger.erasing || d.ledger.ckptRun)

/-- Write the next checkpoint slot: its body, then its header (R560). The open summary closes if it may (R557). -/
def Device.ckptWrite (d : Device) : Device :=
  let n := d.ledger.next
  let body := d.slotBody
  let d := d.ledWrite (ckptSlot n + 0x40) body
  let d := d.ledWrite (ckptSlot n) (d.slotHeader n body)
  let d := ((d.wr64 Reg.LDG_CSEQ n).set Reg.LDG_STATUS_LAST_SLOT (n % 8)).put Reg.LDG_CTRL_CHECKPOINT_NOW false
  let d := d.onLedger fun l => { l with next := n + 1, lastCkpt := d.ft, everCkpt := true, deferred := false,
                                        waitDelta := false, ckptRun := false }
  d.ledShow.when d.sumMayClose Device.closeSummary

/-- A checkpoint starts: it waits for the deltas of the firmware (R560). -/
def Device.ckptStart (d : Device) : Device :=
  if !d.ledger.isOpen then d
  else if d.ledger.erasing then d.onLedger fun l => { l with deferred := true }
  else (d.onLedger fun l => { l with waitDelta := true, ckptRun := true }).ledShow

/-- A trigger other than the interval: a checkpoint less than 10 s after the previous one is put off (R560). -/
def Device.ckptMay (d : Device) : Bool :=
  !d.ledger.everCkpt || decide (d.ledger.lastCkpt + 10 * secUnits ≤ d.ft)

/-- CHECKPOINT_NOW (R560). -/
def Device.ckptNow (d : Device) : Device :=
  if d.ckptMay then d.ckptStart else d.onLedger fun l => { l with deferred := true }

/-- A checkpoint that cannot wait for the firmware: at DEVICE_RESET and at entry to Selvedge mode (R560). -/
def Device.ckptAtOnce (d : Device) : Device :=
  if !d.ledger.isOpen || d.ledger.erasing then d
  else if d.ckptMay || d.ledger.ckptRun then d.ckptWrite
  else d.onLedger fun l => { l with deferred := true }

/-- The accumulators a delta of the firmware may name: the 64-bit counts of lane records and the corrected counts of memory
classes (R560 to R562). -/
def deltaOk (off : Nat) : Bool :=
  (decide (0x1000 ≤ off) && decide (off < 0x15000)
      && (let b := (off - 0x1000) % 160; decide (8 ≤ b) && decide (b < 152) && b % 8 == 0))
    || (decide (0x580 ≤ off) && decide (off < 0x680) && off % 16 == 0)

/-- Take the deltas of the firmware. -/
def Device.ckptDeltas (d : Device) (ds : List (Nat × Nat)) : Device :=
  d.each ds fun d (off, n) => if deltaOk off then d.accAdd64 off n else d

/-- A checkpoint cut short leaves its slot with a wrong CRC (R560). -/
def Device.ckptCut (d : Device) : Device :=
  if d.ledger.ckptRun then
    let base := ckptSlot d.ledger.next
    let d := d.ledWrite (base + 0x40) d.slotBody
    let good := crc32c (d.ledRead (base + 0x40) (4 * 21488))
    d.ledWrite (base + 24) (leBytes 4 (good ^^^ 0xFFFFFFFF))
  else d

/-! ### Opening (R559, R560) -/

/-- The life record is valid: its magic and its CRC (R559). -/
def Device.lifeValid (d : Device) : Bool :=
  leNat (d.ledRead 0 4) == 0x5248454C && leNat (d.ledRead 252 4) == crc32c (d.ledRead 0 252)

/-- The life record of this part (R559). -/
def Device.lifeRecord (d : Device) : List Byte :=
  let b := leBytes 4 0x5248454C ++ leBytes 2 1 ++ leBytes 2 0x7512 ++ leBytes 8 (d.rd64 Reg.GLB_SERIAL)
    ++ leBytes 1 (d.get Reg.GLB_ID_REV) ++ leBytes 1 (d.get Reg.GLB_ID_GRADE) ++ leBytes 2 d.fuses.now.revoke
    ++ leBytes 8 (2 ^ d.fuses.now.svn - 1) ++ slice d.fuses.now.key0 0 8
  let b := slice b 0 252
  b ++ leBytes 4 (crc32c b)

/-- The accumulators of a slot's body. -/
def Device.slotAcc (d : Device) (k : Nat) : Map Word :=
  (List.range 21488).foldl (fun m i =>
    mset (fun _ => 0) m (0x10 + i) (BitVec.ofNat 32 (leNat (d.ledRead (ckptSlot k + 0x40 + 4 * i) 4)))) []

/-- The ledger opens at Cast-On step 2 (R559, R560). A ledger that is open stays as it is: nothing but SYS_RST_N resets it. -/
def Device.ledOpen (d : Device) : Device :=
  if d.ledger.isOpen then d
  else
    let best := d.bestSlot
    let d := if d.lifeValid then d
      else match best with
        | some _ => d.put Reg.LDG_STATUS_LIFE_BAD true
        | none => (d.ledWrite 0 d.lifeRecord).put Reg.LDG_STATUS_NEW_LIFE true
    match best with
    | none => d.onLedger fun l => { l with isOpen := true, acc := [], next := 1, lifeBase := 0 }
    | some k =>
      let life := leNat (d.ledRead (ckptSlot k + 16) 4)
      let acc := d.slotAcc k
      let n := d.slotSeq k
      let d := (d.wr64 Reg.LDG_CSEQ n).set Reg.LDG_STATUS_LAST_SLOT k
      d.onLedger fun l => { l with isOpen := true, acc := acc, next := n + 1, lifeBase := life }

/-! ### Cast-On log and preference log (R64, R558, R564) -/

/-- The latest Cast-On record. -/
def Device.lastCast (d : Device) : Option (List Byte) :=
  if d.ledger.castIdx = 0 then none else some (d.ledRead (0x10000 + 16 * ((d.ledger.castIdx - 1) % 4096)) 16)

/-- Append a Cast-On record. -/
def Device.castAppend (d : Device) (bs : List Byte) : Device :=
  (d.ledWrite (0x10000 + 16 * (d.ledger.castIdx % 4096)) bs).onLedger fun l => { l with castIdx := l.castIdx + 1 }

/-- CAST_SEQ of a record. -/
def castSeq (bs : List Byte) : Nat := leNat (slice bs 4 2)

/-- OUTCOME of a record. -/
def castOutcome (bs : List Byte) : Nat := bits (byteAt bs 6) 5 4

/-- SLOT of a record. -/
def castSlot (bs : List Byte) : Nat := bits (byteAt bs 6) 7 6

/-- FAILS of a record. -/
def castFails (bs : List Byte) : Nat := bits (byteAt bs 6) 3 2

/-- The bytes of a Cast-On record (R64). -/
def castBytes (life seq slot outcome fails reason detail ms id : Nat) : List Byte :=
  leBytes 4 life ++ leBytes 2 seq ++ leBytes 1 (64 * slot + 16 * outcome + 4 * fails) ++ leBytes 1 reason
    ++ leBytes 2 detail ++ leBytes 2 ms ++ leBytes 4 id

/-- A reason of class I (R63). -/
def classI (reason : Nat) : Bool := decide (0x10 ≤ reason) && decide (reason ≤ 0x1E)

/-- FAILS as the ledger holds it (R564). -/
def Device.ledFails (d : Device) : Nat :=
  match d.lastCast with
  | none => 0
  | some r =>
    if castOutcome r = 1 then 0
    else if castOutcome r = 2 && classI (byteAt r 7) then min 3 (castFails r + 1)
    else if castOutcome r = 2 && byteAt r 7 == 0xC0 then 3
    else castFails r

/-- P: the SLOT of the latest preference-log entry, or A (R61, R564). -/
def Device.ledPref (d : Device) : Nat :=
  if d.ledger.prefIdx = 0 then 0 else byteAt (d.ledRead (0x1000 + 16 * ((d.ledger.prefIdx - 1) % 256)) 16) 0

/-- Append a preference-log entry (R68, R558): the slot and a sequence number. -/
def Device.prefAppend (d : Device) (slot : Nat) : Device :=
  let e := leBytes 1 slot ++ List.replicate 11 0 ++ leBytes 4 d.ledger.prefIdx
  (d.ledWrite (0x1000 + 16 * (d.ledger.prefIdx % 256)) e).onLedger fun l => { l with prefIdx := l.prefIdx + 1 }

/-! ### Erasure (R565) -/

/-- An LDG_ERASE pair is refused under VALUE. -/
def Device.eraseBad (d : Device) (v : Nat) : Bool := v != 0x4C454852 || d.ledger.erasing || d.ledger.ckptRun

/-- The erase: every region but the life record and the erase log; an erase-log entry; every accumulator. -/
def Device.ledErase (d : Device) (rq : Requester) : Device :=
  let n := d.ledger.eraseIdx
  let e := leBytes 4 (tmSec d.tod) ++ leBytes 1 (originOf rq) ++ leBytes 1 (originId rq) ++ leBytes 2 n
    ++ leBytes 8 (d.ledger.next - 1)
  let m := mrange d.ledger.mem 0 0x1000
  let d := d.onLedger fun l => { l with mem := m, acc := [], next := 1, sumIdx := 0, castIdx := 0, prefIdx := 0, eseq := 0,
                                        eraseIdx := n + 1, erasing := true, tjMs := [], roleMs := [] }
  (d.ledWrite (0x100 + 16 * (n % 64)) e).ledShow

/-- The erase completes: BUSY clears and the events that waited are written in order. -/
def Device.ledEraseDone (d : Device) : Device :=
  if d.ledger.erasing then
    let w := d.ledger.evWait
    let d := (d.onLedger fun l => { l with erasing := false, evWait := [] }).ledShow
    d.each w fun d (c, d8, d16) => d.event c d8 d16
  else d

end Sys2Proof.Machine
end

