-- ==== Sys2Proof/Machine/Pool.lean ====
section
/-!
DEFINITION. The message pools: allocation and frees (R520 to R522, R527 to R529).
-/
namespace Sys2Proof.Machine

/-- Change what the pools hold. -/
def Device.onPool (d : Device) (f : Pool → Pool) : Device := { d with pool := f d.pool }

/-- Buffers of a class (R520). -/
def poolCount (k : Nat) : Nat := 4096 / 4 ^ k

/-- Bytes of a buffer of a class (R520). -/
def poolBytes (k : Nat) : Nat := 256 * 4 ^ k

/-- The handle of a buffer (R520). -/
def poolHandle (gen k i : Nat) : Nat := gen % 256 * 2 ^ 24 + k % 4 * 2 ^ 16 + i % 4096

/-- CLASS of a handle. -/
def handleClass (h : Nat) : Nat := bits h 17 16

/-- INDEX of a handle. -/
def handleIndex (h : Nat) : Nat := bits h 11 0

/-- GEN of a handle. -/
def handleGen (h : Nat) : Nat := bits h 31 24

/-- The bits of a handle name a buffer that exists. -/
def handleOk (h : Nat) : Bool :=
  decide (handleIndex h < poolCount (handleClass h)) && bits h 15 12 == 0 && bits h 23 18 == 0

/-- A buffer of the pools. -/
def Device.pbuf (d : Device) (k i : Nat) : PoolBuf := mget (fun _ => {}) d.pool.buf (4096 * k + i)

/-- Store a buffer of the pools. -/
def Device.pbufSet (d : Device) (k i : Nat) (b : PoolBuf) : Device :=
  d.onPool fun p => { p with buf := mset (fun _ => {}) p.buf (4096 * k + i) b }

/-- resv(o, k). -/
def Device.poolResv (d : Device) (o k : Nat) : Nat := d.get (Reg.POOL_RESV_RESV o k)

/-- held(o, k). -/
def Device.poolHeld (d : Device) (o k : Nat) : Nat := d.get (Reg.POOL_RESV_HELD o k)

/-- shared(k), as far as it is above zero (R521). -/
def Device.poolShared (d : Device) (k : Nat) : Nat :=
  poolCount k - ((List.range 80).map fun o => max (d.poolResv o k) (d.poolHeld o k)).sum

/-- The lowest free buffer of a class. -/
def Device.poolLowest (d : Device) (k : Nat) : Option Nat :=
  (List.range (poolCount k)).find? fun i => let b := d.pbuf k i; b.owner.isNone && !b.dying

/-- The smallest class whose buffers hold `size` bytes. -/
def poolFit (size : Nat) : Nat := if size ≤ 256 then 0 else if size ≤ 1024 then 1 else if size ≤ 4096 then 2 else 3

/-- An operation of owner `o` ends with a status (R529). -/
def Device.poolEnd (d : Device) (o status : Nat) : Device :=
  let d := d.set (Reg.POOL_OSTAT_LAST o) status
  if status = 0 then d else d.inc (Reg.POOL_OSTAT_FAILS o)

/-- Allocate (R521). -/
def Device.poolAlloc (d : Device) (o size : Nat) : Device :=
  if size = 0 ∨ 16384 < size then (d.set (Reg.POOL_RESULT_HANDLE o) 0xFFFFFFFF).poolEnd o 2
  else
    let fit := poolFit size
    let ks := (List.range 4).filter fun k => decide (fit ≤ k)
    let able := ks.filter fun k => decide (d.poolHeld o k < d.poolResv o k) || decide (0 < d.poolShared k)
    match able.findSome? fun k => (d.poolLowest k).map fun i => (k, i) with
    | none => (d.set (Reg.POOL_RESULT_HANDLE o) 0xFFFFFFFF).poolEnd o 1
    | some (k, i) =>
      let g := ((d.pbuf k i).gen + 1) % 256
      let d := d.pbufSet k i { owner := some o, gen := g, dying := false }
      let d := d.set (Reg.POOL_RESV_HELD o k) (d.poolHeld o k + 1)
      let d := d.set (Reg.POOL_CLASS_FREE k) (d.get (Reg.POOL_CLASS_FREE k) - 1)
      let d := d.when (k != fit) fun d => d.inc (Reg.POOL_CLASS_FALLBACK k)
      (d.set (Reg.POOL_RESULT_HANDLE o) (poolHandle g k i)).poolEnd o 0

/-- An entry of a DMA queue names a pool handle: by its destination, or by the source of a COPY (R515, R518). -/
def HostOp.namesHandle (o : HostOp) (h : Nat) : Bool :=
  (bits (o.byte 2) 7 6 == 1 && o.field 20 4 == h)
    || (o.byte 0 == 1 && bits (o.byte 1) 7 6 == 1 && o.field 12 4 == h)

/-- A descriptor in progress names the buffer (R522). -/
def Device.poolInUse (d : Device) (h : Nat) : Bool :=
  d.dma.desc.any fun e => e.2.any fun x => x.op.namesHandle h

/-- A buffer becomes free. -/
def Device.poolRelease (d : Device) (k i : Nat) : Device :=
  (d.pbufSet k i { d.pbuf k i with owner := none, dying := false }).set (Reg.POOL_CLASS_FREE k)
    (d.get (Reg.POOL_CLASS_FREE k) + 1)

/-- A double or stale free is reported (R522, R527). -/
def Device.poolDouble (d : Device) (h : Nat) : Device :=
  ((d.put Reg.POOL_STATUS_DOUBLE_FREE true).inc Reg.POOL_STATUS_DFREE).set Reg.POOL_DFREE_HANDLE_HANDLE h

/-- The owner gives the buffer up: it is freed now, or when the last descriptor that names it completes (R522). -/
def Device.poolGive (d : Device) (o k i h : Nat) : Device :=
  let d := d.set (Reg.POOL_RESV_HELD o k) (d.poolHeld o k - 1)
  if d.poolInUse h then d.pbufSet k i { d.pbuf k i with owner := none, dying := true } else d.poolRelease k i

/-- Free a handle (R522). A handle that names no buffer is one that no allocation issued: it is refused as STALE. -/
def Device.poolFree (d : Device) (o h : Nat) : Device :=
  let k := handleClass h
  let i := handleIndex h
  let b := d.pbuf k i
  if !handleOk h then (d.poolDouble h).poolEnd o 4
  else if b.owner.isNone then (d.poolDouble h).poolEnd o 3
  else if b.gen ≠ handleGen h then (d.poolDouble h).poolEnd o 4
  else if b.owner ≠ some o then d.poolEnd o 5
  else (d.poolGive o k i h).poolEnd o 0

/-- Buffers whose free waited are freed when no descriptor names them any more (R522). -/
def Device.poolSweep (d : Device) : Device :=
  d.each d.pool.buf fun d e =>
    let k := e.1 / 4096
    let i := e.1 % 4096
    if e.2.dying && !d.poolInUse (poolHandle e.2.gen k i) then d.poolRelease k i else d

/-- Every buffer of an owner is freed: an FLR or a reset of its core (R522). -/
def Device.poolDrop (d : Device) (o : Nat) : Device :=
  d.each d.pool.buf fun d e =>
    if e.2.owner = some o then d.poolGive o (e.1 / 4096) (e.1 % 4096) (poolHandle e.2.gen (e.1 / 4096) (e.1 % 4096)) else d

/-- The reserved minima of class `k` would exceed its buffers if that of owner `o` were `v` (R521). -/
def Device.poolResvBad (d : Device) (o k v : Nat) : Bool :=
  decide (poolCount k < ((List.range 80).map fun x => if x = o then v else d.poolResv x k).sum)

/-- A byte of a pool buffer. -/
def Device.poolByte (d : Device) (h off : Nat) : Byte :=
  mget (fun _ => 0) d.pool.mem (2 ^ 20 * handleClass h + poolBytes (handleClass h) * handleIndex h + off)

/-- Write a byte of a pool buffer. -/
def Device.poolPut (d : Device) (h off : Nat) (b : Byte) : Device :=
  d.onPool fun p =>
    { p with mem := mset (fun _ => 0) p.mem (2 ^ 20 * handleClass h + poolBytes (handleClass h) * handleIndex h + off) b }

end Sys2Proof.Machine
end

