-- ==== Sys2Proof/Machine/HostCtl.lean ====
section
/-!
DEFINITION. The host queues' control: configuration checks, doorbells and function-level reset (R485 to R487, R494, R495,
R501, R503 to R509), and the checks of the DMA registers (R510).
-/
namespace Sys2Proof.Machine

/-! ### What a function identifies itself with (R3, R481) -/

/-- The PCI vendor ID of every function. -/
def pciVendor : Nat := 0x1F3C

/-- The PCI device ID of a function: of PF0 it is the PART of GLB_ID, of every VF the next. -/
def pciDevice (func : Nat) : Nat := if func = 0 then 0x7512 else 0x7513

/-- The class code of PF0. -/
def pciClass : Nat := 0x028000

/-- Bytes of BAR0, the one BAR of every function: 256 MiB. -/
def pciBar0 : Nat := 2 ^ 28

/-- The subsystem vendor ID and subsystem ID, in the fuses. -/
def pciSubsystem : Nat := Config.fuseSubsystem.toNat

/-- The device is in Selvedge mode. -/
def Device.inSelvedge (d : Device) : Bool := d.get Reg.GLB_BOOT_STATUS_STATE == 0xD

/-- STATE is below 0xC (R59): Cast-On runs. A device that waits on a class E condition (0xE) has not reached ready. -/
def Device.inCastOn (d : Device) : Bool :=
  decide (d.get Reg.GLB_BOOT_STATUS_STATE < 0xC) || d.get Reg.GLB_BOOT_STATUS_STATE == 0xE

/-- An SQ is enabled. -/
def Device.sqEn (d : Device) (n : Nat) : Bool := d.flag (Reg.HQ_SQ_CFG_EN n)

/-- A CQ is enabled. -/
def Device.cqEn (d : Device) (n : Nat) : Bool := d.flag (Reg.HQ_CQ_CFG_EN n)

/-- LOG2_N of a ring is in range (R504). -/
def log2Ok (v : Nat) : Bool := decide (4 ≤ v) && decide (v ≤ 16)

/-! ### Checks of configuration writes -/

/-- The type of an SQ is allowed for its owner and index (R495), and in Selvedge mode (R485). -/
def Device.typeOk (d : Device) (n type : Nat) : Bool :=
  (if d.inSelvedge then type == 5 || type == 6 else type != 7)
    && (type != 3 || (d.owner n == 0 && d.flag Reg.HQ_GLB_CFG_LEARN_QV && d.get Reg.HQ_GLB_CFG_LEARN_Q == n))
    && (type != 4 || (d.owner n == 0 && d.flag Reg.HQ_GLB_CFG_AUDIT_QV && d.get Reg.HQ_GLB_CFG_AUDIT_Q == n))

/-- A write of HQ_SQ_CFG breaks a condition of R485, R486 or R495. -/
def Device.sqCfgBad (d : Device) (n v : Nat) : Bool :=
  d.sqEn n || (bit v 31 && !(log2Ok (bits v 27 23) && d.cqEn (bits v 8 0) && d.owner (bits v 8 0) == d.owner n
    && d.typeOk n (bits v 30 28)))

/-- A write of HQ_CQ_CFG breaks a condition of R485, R487 or R494. -/
def Device.cqCfgBad (d : Device) (n v : Nat) : Bool :=
  d.cqEn n || (bit v 31 && !(log2Ok (bits v 29 25) && d.rd64 (Reg.HQ_CQ_BASE n) != 0
    && decide (bits v 21 11 ≤ if d.owner n = 0 then 2047 else 63)))

/-- A write of HQ_OWNER breaks a condition of R485 or R506. -/
def Device.ownerBad (d : Device) (n v : Nat) : Bool := d.sqEn n || d.cqEn n || decide (64 ≤ v % 128)

/-- A write of HQ_GLB_CFG moves a queue that is in use (R495). -/
def Device.hqGlbBad (d : Device) (v : Nat) : Bool :=
  (d.flag Reg.HQ_GLB_CFG_LEARN_QV && d.get Reg.HQ_GLB_CFG_LEARN_Q != bits v 8 0)
    || (d.flag Reg.HQ_GLB_CFG_AUDIT_QV && d.get Reg.HQ_GLB_CFG_AUDIT_Q != bits v 24 16)

/-- The block's own check of a write of `v` to a word of the HQ block (R485). -/
def Device.hqBad (d : Device) (off v : Nat) : Bool :=
  let n := (off - 0x200000) / 0x1000
  let o := off % 0x1000
  if o < 8 then d.sqEn n
  else if o = 8 then d.sqCfgBad n v
  else if o = 0x20 ∨ o = 0x24 then d.cqEn n
  else if o = 0x28 then d.cqCfgBad n v
  else if o = 0x40 then d.ownerBad n v
  else if off = Reg.HQ_GLB_CFG then d.hqGlbBad v
  else false

/-- A word of DMA_CHAN as an enabled descriptor-mode channel's: its SQ (R510). -/
def chanSq (v : Nat) : Option Nat := if bit v 31 && !bit v 30 then some (bits v 8 0) else none

/-- A write of DMA_CHAN_c is refused (R510): the SQ that the channel names is enabled, or another enabled channel names the
same SQ. -/
def Device.chanBad (d : Device) (c v : Nat) : Bool :=
  let old := chanSq (d.rd (Reg.DMA_CHAN c))
  let new := chanSq v
  let live (q : Option Nat) : Bool := q.any d.sqEn
  live old || live new
    || (new.isSome && (List.range 32).any fun x => x != c && chanSq (d.rd (Reg.DMA_CHAN x)) == new)

/-! ### Doorbells -/

/-- A doorbell is ignored and counted (R486, R487). -/
def Device.badDoorbell (d : Device) (n : Nat) : Device := d.inc (Reg.HQ_STAT_COUNT n 3)

/-- A write to HQ_SQ_TAIL (R486). -/
def Device.sqDoorbell (d : Device) (n v : Nat) : Device :=
  if !d.sqEn n || decide (2 ^ d.get (Reg.HQ_SQ_CFG_LOG2_N n) ≤ v % 65536) then d.badDoorbell n
  else d.set (Reg.HQ_SQ_TAIL_TAIL n) v

/-- A position in a ring with its phase, as a count modulo twice the ring: phase 1 is the first lap (R487). -/
def ringPos (size h e : Nat) : Nat := h + (if e = 1 then 0 else size)

/-- The entries that CQ `n` would hold unconsumed under a doorbell value (R487). -/
def Device.cqWouldHold (d : Device) (n v : Nat) : Nat :=
  let size := d.cqSize n
  let w := ringPos size (d.get (Reg.HQ_CQ_STATUS_WIDX n)) (d.get (Reg.HQ_CQ_STATUS_PHASE n))
  (w + 2 * size - ringPos size (v % 65536) (bits v 31 31)) % (2 * size)

/-- A doorbell value claims entries not yet written (R487): the ring would hold more than its size, or more than has been written. -/
def Device.cqOverclaims (d : Device) (n v : Nat) : Bool :=
  decide (d.cqSize n < d.cqWouldHold n v)
    || (!mget (fun _ => false) d.host.wrapped n && decide (d.get (Reg.HQ_CQ_STATUS_WIDX n) < d.cqWouldHold n v))

/-- A write to HQ_CQ_DB (R487). -/
def Device.cqDoorbell (d : Device) (n v : Nat) : Device :=
  if !d.cqEn n || decide (d.cqSize n ≤ v % 65536) || d.cqOverclaims n v then d.badDoorbell n
  else ((d.set (Reg.HQ_CQ_DB_HEAD n) v).set (Reg.HQ_CQ_DB_PHASE n) (bits v 31 31)).cqShow n

/-! ### Function-level reset (R501) -/

/-- A frame selected for port 512 or 515 whose buffer is forgotten is discarded under PUNT_FULL. -/
def Device.puntForget (d : Device) (r : PuntRec) : Device :=
  let e := r.sel.entry
  (d.countDrop (d.entryFrame e) (sliceOf e.hdr.src) r.port 34).releaseEntry e

/-- The queues `ns` are reset: what they hold is gone, and frames selected into their buffers are discarded. -/
def Device.queuesReset (d : Device) (ns : List Nat) : Device :=
  let gone := d.host.punt.filter fun r => ns.contains r.pq
  let drop {α : Type} (m : Map α) : Map α := m.filter fun e => !ns.contains e.1
  let d := d.onHost fun h => { h with
    ops := h.ops.filter fun o => !ns.contains o.sq, bufs := drop h.bufs, due := drop h.due, unsig := drop h.unsig,
    wrapped := drop h.wrapped,
    timer := drop h.timer, bno := drop h.bno, bfail := drop h.bfail, bwait := drop h.bwait, stopped := drop h.stopped,
    punt := h.punt.filter fun r => !ns.contains r.pq }
  let kept := fun (e : Nat × Option Desc) =>
    if e.2.any fun (x : Desc) => ns.contains x.op.sq then
      (if (d.burstOf e.1).isSome then some (e.1, e.2.map fun x => { x with gone := true }) else none)
    else some e
  let d := { d with dma := { d.dma with desc := d.dma.desc.filterMap kept } }
  let d := d.each gone Device.puntForget
  let cut := fun (b : BulkRun) => match b.src with
    | .host sq => { b with gone := b.gone || ns.contains sq.val }
    | _ => b
  let d := { d with mrv := { d.mrv with bulk := d.mrv.bulk.map cut } }
  let d := { d with regs := ns.foldl (fun m n => merase m (0x200000 + 0x1000 * n) (0x200100 + 0x1000 * n)) d.regs }
  d.showOps

/-- The queues a function owns. -/
def Device.queuesOf (d : Device) (func : Nat) : List Nat := (List.range 512).filter fun n => d.owner n == func

/-- An FLR of a VF. -/
def Device.flrVf (d : Device) (v : Nat) : Device := ((d.queuesReset (d.queuesOf v)).poolDrop v).poolSweep

/-- An FLR of PF0: every queue index, the DMA state, and the buffers of PF0 and the VFs. -/
def Device.flrPf0 (d : Device) : Device :=
  let d := d.queuesReset (List.range 512)
  let d := { d with regs := merase (merase d.regs 0x200000 0x400000) 0x400000 0x410000, dma := {} }
  (d.each (List.range 64) fun d o => d.poolDrop o).poolSweep

end Sys2Proof.Machine
end

