-- ==== Sys2Proof/Machine/Image.lean ====
section
/-!
DEFINITION. Boot images: the flash, the header and its checks, the configuration records and the firmware section (R45 to
R57, R533).
-/
namespace Sys2Proof.Machine

/-! ### The flash (R45) -/

/-- Bytes of a quarter of the flash: 0 slot A, 1 slot B, 2 slot G, 3 the host region. -/
def Device.flashRead (d : Device) (quarter off n : Nat) : List Byte :=
  (List.range n).map fun i => mget (fun _ => 0xFF) d.flash.mem (d.flash.quarter * quarter + off + i)

/-- A read of the flash as the xSPI controller makes it: lanes, MHz, address bytes, address and length (R44). -/
def Device.xspiRead (d : Device) (addr n : Nat) : Device :=
  d.emit (.board "XSPI_READ" (match d.boot.xspi with
    | .discovery => [1, 25, 4, addr, n]
    | .single => [1, 100, 4, addr, n]
    | .octal => [8, 200, 4, addr, n]))

/-- Flash discovery (R42, R44): the SFDP tables are read in 1S-1S-1S at 25 MHz; then 8D-8D-8D at 200 MHz is used if they advertise it
and XSPI_SINGLE is 0, else 1S-1S-1S at 100 MHz. -/
def Device.flashDiscover (d : Device) : Device :=
  let d := d.emit (.board "SFDP_READ" [1, 25])
  { d with boot := { d.boot with xspi := if d.flash.octal && !d.boot.single then .octal else .single } }

/-- Program bytes. -/
def Device.flashWrite (d : Device) (quarter off : Nat) (bs : List Byte) : Device :=
  let base := d.flash.quarter * quarter + off
  let m := (List.range bs.length).foldl (fun m i => mset (fun _ => 0xFF) m (base + i) (bs.getD i 0)) d.flash.mem
  { d with flash := { d.flash with mem := m } }

/-- Erase bytes. -/
def Device.flashErase (d : Device) (quarter off n : Nat) : Device :=
  let base := d.flash.quarter * quarter + off
  { d with flash := { d.flash with mem := merase d.flash.mem base (base + n) } }

/-! ### Header and section table (R47 to R49) -/

/-- An entry of the section table. -/
structure Section where
  type : Nat
  off : Nat
  len : Nat
  load : Nat
  crc : Nat
  deriving DecidableEq, Repr

/-- The fields of a header that are used. -/
structure ImgHead where
  type : Nat
  key : Nat
  len : Nat
  secVer : Nat
  tab : Nat
  sig : Nat
  flags : Nat
  sections : List Section
  deriving DecidableEq, Repr

/-- Read a section-table entry. -/
def sectionOf (bs : List Byte) : Section :=
  { type := byteAt bs 0, off := leNat (slice bs 4 4), len := leNat (slice bs 8 4), load := leNat (slice bs 12 4),
    crc := leNat (slice bs 16 4) }

/-- Read the header of a slot. -/
def Device.imgHead (d : Device) (slot : Nat) : ImgHead :=
  let h := d.flashRead slot 0 256
  let tab := leNat (slice h 20 4)
  { type := byteAt h 6, key := byteAt h 7, len := leNat (slice h 8 4), secVer := leNat (slice h 12 4), tab := tab,
    sig := leNat (slice h 24 4), flags := leNat (slice h 68 4),
    sections := (List.range (min 2 (byteAt h 19))).map fun i => sectionOf (d.flashRead slot (tab + 32 * i) 32) }

/-- Every byte of a range is zero. -/
def allZero (bs : List Byte) (off n : Nat) : Bool := (slice bs off n).all (· == 0)

/-- The first bad field of a section-table entry, as an offset in the entry. -/
def sectionBad (h : ImgHead) (bs : List Byte) (before : List Section) : Option Nat :=
  let s := sectionOf bs
  let full := h.type == 1
  if s.type ≠ 1 ∧ !(full && s.type == 2) then some 0
  else if before.any fun x => x.type == s.type then some 0
  else if !allZero bs 1 3 then some 1
  else if s.off % 16 ≠ 0 ∨ s.off < h.tab + 32 * h.sections.length then some 4
  else if before.any fun x => decide (x.off < s.off + s.len) && decide (s.off < x.off + x.len) then some 4
  else if h.sig < s.off + s.len then some 8
  else if (if s.type = 1 then 16777216 < s.load + s.len else s.load ≠ 0) then some 12
  else if !allZero bs 20 12 then some 20
  else none

/-- The byte offset of the first field of an image in a slot that breaks R46 to R50 (HDR_FIELD). -/
def Device.fieldBad (d : Device) (slot : Nat) : Option Nat :=
  let b := d.flashRead slot 0 256
  let h := d.imgHead slot
  let sig := d.flashRead slot h.sig 256
  let want := if slot = 2 then 1 else 2
  if leNat (slice b 4 2) ≠ 1 then some 4
  else if h.type ≠ (if slot = 2 then 2 else 1) then some 6
  else if 1 < h.key then some 7
  else if h.len % 16 ≠ 0 ∨ min d.flash.quarter 67108864 < h.len ∨ h.len ≠ h.sig + 256 then some 8
  else if 64 < h.secVer then some 12
  else if leNat (slice b 16 2) ≠ 0x7512 then some 16
  else if byteAt b 18 ≠ 0xA0 ∧ byteAt b 18 ≠ 0xB0 then some 18
  else if byteAt b 19 ≠ want then some 19
  else if h.tab < 256 ∨ h.sig < h.tab + 32 * want then some 20
  else if 1 < h.flags then some 68
  else if !allZero b 72 180 then some 72
  else
    let bad := (List.range want).findSome? fun i =>
      (sectionBad h (d.flashRead slot (h.tab + 32 * i) 32) (h.sections.take i)).map fun o => h.tab + 32 * i + o
    match bad with
    | some o => some o
    | none => if !allZero sig 97 3 then some (h.sig + 97) else if !allZero sig 196 60 then some (h.sig + 196) else none

/-! ### The checks of R50 -/

/-- A key hash of the fuses; none when blank. -/
def Otp.key (f : Otp) (i : Nat) : Option (List Byte) :=
  let k := slice (if i = 0 then f.key0 else f.key1) 0 48
  if k.all (· == 0) then none else some k

/-- Both key hashes are blank (R51). -/
def Device.unprovisioned (d : Device) : Bool := (d.fuses.now.key 0).isNone && (d.fuses.now.key 1).isNone

/-- The 48 bytes of a digest. -/
def digestOf (bs : List Byte) : List Byte := slice (Config.sha384 bs) 0 48

/-- The checks on the header and the signature block, made at step 4: reason and DETAIL of the first failure. -/
def Device.headCheck (d : Device) (slot : Nat) : Option (Nat × Nat) :=
  let b := d.flashRead slot 0 256
  let h := d.imgHead slot
  let pub := d.flashRead slot h.sig 97
  if leNat (slice b 0 4) ≠ 0x53524749 then some (0x10, 0)
  else if leNat (slice b 252 4) ≠ crc32c (slice b 0 252) then some (0x11, 0)
  else match d.fieldBad slot with
    | some o => some (0x12, o % 65536)
    | none =>
      if d.fuses.now.key h.key ≠ some (digestOf pub) then some (0x13, h.key)
      else if bit d.fuses.now.revoke h.key then some (0x14, h.key)
      else if h.secVer < d.fuses.now.svn then some (0x15, d.fuses.now.svn)
      else none

/-- The section checks, made at step 5. -/
def Device.sectionCheck (d : Device) (slot : Nat) : Option (Nat × Nat) :=
  let h := d.imgHead slot
  ((List.range h.sections.length).find? fun i =>
    let s := h.sections.getD i ⟨0, 0, 0, 0, 0⟩
    s.crc != crc32c (d.flashRead slot s.off s.len)).map fun i => (0x16, i)

/-- The ECDSA check, made at step 6. -/
def Device.signCheck (d : Device) (slot : Nat) : Option (Nat × Nat) :=
  let h := d.imgHead slot
  let b := d.flashRead slot h.sig 256
  if Config.ecdsaOk (slice b 0 97) (digestOf (d.flashRead slot 0 h.sig)) (slice b 100 96) then none else some (0x17, 0)

/-- All checks of R50 on a slot: 0, or the code of the first failure. A flash that does not answer is a read failure. -/
def Device.imageCheck (d : Device) (slot : Nat) : Nat × Nat :=
  if !d.flash.present then (0x18, 0)
  else (((d.headCheck slot).or (d.sectionCheck slot)).or (d.signCheck slot)).getD (0, 0)

/-! ### The firmware section (R533) -/

/-- The firmware section of a slot and its bytes. -/
def Device.firmware (d : Device) (slot : Nat) : Option (Section × List Byte) :=
  ((d.imgHead slot).sections.find? fun s => s.type == 1).map fun s => (s, d.flashRead slot s.off s.len)

/-- The firmware passes the check of step 11 for an image type. -/
def firmwareOk (type : Nat) (fw : List Byte) : Bool :=
  let code := leNat (slice fw 8 4)
  leNat (slice fw 0 4) == 0x4B564344 && code + 128 == fw.length && decide (leNat (slice fw 12 4) < code)
    && byteAt fw 16 == type && decide (byteAt fw 17 ≤ 1) && allZero fw 18 14
    && Config.ecdsaOk (Config.holharKey (byteAt fw 17)) (digestOf (slice fw 0 32 ++ fw.drop 128)) (slice fw 32 96)

/-! ### Configuration records (R52, R53) -/

/-- A configuration record: TYPE, FLAGS and value. -/
structure Rec where
  type : Nat
  flags : Nat
  value : List Byte
  deriving DecidableEq, Repr

/-- The length of a value is right for its type (R53 to R56). -/
def recLenOk (type n : Nat) : Bool :=
  match type with
  | 0x0001 => n % 8 == 0
  | 0x0002 => n % 16 == 0
  | 0x0003 => n % 8 == 0
  | 0x0004 => n == 16
  | 0x0010 => decide (20 ≤ n)
  | 0x0020 => n % 64 == 0
  | 0x0030 => n % 8 == 0
  | 0x0031 => n % 8 == 0
  | 0x0040 => n == 324
  | 0xFFFF => n == 0
  | _ => true

/-- A TYPE that R53 lists. -/
def recKnown (type : Nat) : Bool :=
  [0x0001, 0x0002, 0x0003, 0x0004, 0x0010, 0x0020, 0x0030, 0x0031, 0x0040, 0x00FF, 0xFFFF].contains type

/-- The contents of an HBM_DELAY record are right (R56). -/
def hbmRecOk (v : List Byte) : Bool :=
  decide (byteAt v 0 ≤ 3) && byteAt v 1 == 1 && allZero v 2 2
    && (List.range 16).all (fun c => decide (byteAt v (4 + 4 * c) ≤ 63) && decide (byteAt v (5 + 4 * c) ≤ 63)
      && allZero v (6 + 4 * c) 2)
    && (List.range 256).all fun i => decide (byteAt v (68 + i) ≤ 63)

/-- A record breaks R52 or R56. -/
def Rec.bad (r : Rec) : Bool :=
  decide (1 < r.flags) || !recLenOk r.type r.value.length || (!recKnown r.type && !bit r.flags 0)
    || (r.type == 0x40 && !hbmRecOk r.value)

/-- Take records from the configuration section until END; the index of the record that breaks the format. -/
def recScan : Nat → Nat → List Byte → List Rec × Option Nat
  | 0, i, _ => ([], some i)
  | fuel + 1, i, bs =>
    if bs.length < 8 then ([], some i)
    else
      let n := leNat (slice bs 4 4)
      let r : Rec := ⟨leNat (slice bs 0 2), leNat (slice bs 2 2), slice bs 8 n⟩
      if n % 4 ≠ 0 ∨ bs.length < 8 + n ∨ r.bad then ([], some i)
      else if r.type = 0xFFFF then ([r], if bs.length = 8 then none else some i)
      else
        let (rs, e) := recScan fuel (i + 1) (bs.drop (8 + n))
        (r :: rs, e)

/-- The configuration section of the image held in the Skein. -/
def Device.config (d : Device) : List Byte :=
  let tab := leNat (slice d.boot.image 20 4)
  let ss := (List.range 2).map fun i => sectionOf (slice d.boot.image (tab + 32 * i) 32)
  match ss.find? fun s => s.type == 2 with
  | some s => slice d.boot.image s.off s.len
  | none => []

/-- The records of the image, and the index of the first bad one (R52). An image beyond the limits of R57 is not refused: its
steps may outlast their maximum times (R58), and the watchdog ends the attempt. -/
def Device.records (d : Device) : List Rec × Option Nat := recScan (d.config.length / 8 + 1) 0 d.config

/-- The 8-byte entries of a value. -/
def entries (n : Nat) (v : List Byte) : List (List Byte) := (List.range (v.length / n)).map fun i => slice v (n * i) n

/-- A PORT entry (R54). -/
def portRec (e : List Byte) : PortRec :=
  { port := leNat (slice e 0 2), width := byteAt e 2, rate := byteAt e 3, fec := byteAt e 4, an := byteAt e 5,
    kind := byteAt e 6 }

/-- The PORT entries of the image. -/
def Device.portRecs (d : Device) : List PortRec :=
  (d.records.1.filter fun r => r.type == 0x30).flatMap fun r => (entries 8 r.value).map portRec

/-- The RATE_POLICY entries of the image. -/
def Device.policyRecs (d : Device) : List (List Byte) :=
  (d.records.1.filter fun r => r.type == 0x31).flatMap fun r => entries 8 r.value

end Sys2Proof.Machine
end

