-- ==== Sys2Proof/Machine/Start.lean ====
section
/-!
DEFINITION. Resets and the course of Cast-On: domain resets, block resets, attempts and their failures, Selvedge mode and
forwarding ready (R41, R42, R58 to R74, R370, R474, R475).
-/
namespace Sys2Proof.Machine

/-- Change what Cast-On holds. -/
def Device.onBoot (d : Device) (f : Boot → Boot) : Device := { d with boot := f d.boot }

/-- Change what the firmware holds. -/
def Device.onGaf (d : Device) (f : Gaffer → Gaffer) : Device := { d with gaffer := f d.gaffer }

/-! ### Mailbox completions (R535, R536, R547) -/

/-- A mailbox command completes: counted, with its two results. -/
def Device.mboxDone (d : Device) (o : HostOp) (status : Nat) (detail : Nat := 0) (r0 : Nat := 0) (r1 : Nat := 0) : Device :=
  let d := (d.inc (Reg.SVC_STAT_COUNT 0)).when (status != 0) fun d => d.inc (Reg.SVC_STAT_COUNT 1)
  d.finishOp o status detail (leBytes 4 r0 ++ leBytes 4 r1)

/-- The command of an operation number completes, if it is still in flight. -/
def Device.mboxById (d : Device) (id status : Nat) (detail : Nat := 0) (r0 : Nat := 0) (r1 : Nat := 0) : Device :=
  match d.findOp id with
  | some o => d.mboxDone o status detail r0 r1
  | none => d

/-- The commands that wait for work of a core with these ROLE bits complete with RESTARTED (R544). -/
def Device.gafRestarted (d : Device) (roles : Nat) : Device :=
  let g := d.gaffer
  let a := if bit roles 7 then g.jm.map (·.1) else []
  let b := if bit roles 4 then g.surveyOps else []
  let c := if bit roles 6 then (g.flashOp.map (·.op)).toList else []
  let d := d.onGaf fun g => { g with jm := if bit roles 7 then [] else g.jm,
                                     surveyOps := if bit roles 4 then [] else g.surveyOps,
                                     flashOp := if bit roles 6 then none else g.flashOp }
  d.each (a ++ b ++ c) fun d id => d.mboxById id 0x0A

/-! ### Resets -/

/-- Registers of the core domain return to their reset values (R62). -/
def keepAon (m : Map Word) : Map Word :=
  m.filter fun e => match regAt e.1 with
    | some (r, _, _) => decide (r.dom ≠ .core)
    | none => false

/-- Every domain but AON, PCIe, the ledger and the audit ring is reset (R62), and goes down to be woken again; PLLs 1, 2 and 4 lock
again at their steps (R587). The straps and the levels of the unit's pins
stay; frames selected for the host are gone, and their buffers wait again. -/
def Device.domainReset (d : Device) : Device :=
  let d := d.gafRestarted 0xFF
  let pair := d.get Reg.UNT_STATUS_PAIR
  let slot := d.get Reg.UNT_STATUS_SLOT
  let act := d.get Reg.UNT_STATUS_PEER_ACT
  let relq := d.get Reg.UNT_STATUS_PEER_RELQ
  let u := d.unit
  let d := { d with
    regs := keepAon d.regs, ports := [], path := {}, unit := { released := u.released, actOut := u.actOut, relqOut := u.relqOut },
    grpFlags := [], nopath := [], jarlis := {}, svcRx := {}, mrv := {}, rules := {}, meters := {}, deep := {},
    gaffer := {}, tel := {}, bus := { d.bus with snap := [] }, power := { d.power with retune := [], assign := [] },
    survey := { waiting := [] } }
  let d := d.onHost fun h => { h with punt := [], stamps := [], bufs := h.bufs.map fun e =>
    (e.1, e.2.map fun (b : PostBuf) => { b with claimed := b.bad != 0 }) }
  let d := d.each ((List.range 40).filter (· != 34)) Device.lineCut
  let d := (d.put Reg.SRV_STATUS_BUSY false).put Reg.SRV_CTRL_START false
  let d := d.each ((List.range 116).filter fun n => n != 112 && n != 115) Device.pwrDown
  let d := (d.each [1, 2, 4] fun d n => d.pllBit n false).put Reg.TIM_STATUS_CORE_CLK false
  (((d.set Reg.UNT_STATUS_PAIR pair).set Reg.UNT_STATUS_SLOT slot).set Reg.UNT_STATUS_PEER_ACT act).set
    Reg.UNT_STATUS_PEER_RELQ relq

/-- Programming of the fuses ends (R574): the new bits are burnt. Where a bit failed to verify, what the programmed fuses hold
is a free value. -/
def Device.fuseBurn (d : Device) (err : Bool) : Device :=
  match d.fuses.busy with
  | none => d
  | some (cmd, slot) =>
    let (v, d) := if err then d.draw else (0, d)
    let f := d.fuses
    let key := if err then leBytes 48 v else slice f.stage 0 48
    let otp := match cmd with
      | 1 => if slot = 0 then { f.otp with key0 := key } else { f.otp with key1 := key }
      | 2 => { f.otp with revoke := setBit f.otp.revoke slot (!err || bit f.otp.revoke slot || bit v 0) }
      | _ => { f.otp with svn := min 64 (f.otp.svn + if err then v % 2 else 1) }
    { d with fuses := { f with otp := otp, busy := none } }

/-- Flash work in progress is cut short: what its region holds is a free value (R609). -/
def Device.flashCut (d : Device) : Device :=
  match d.gaffer.flashOp with
  | none => d
  | some w =>
    let (v, d) := d.draw
    (d.flashWrite w.slot w.off (leBytes w.len v)).onGaf fun g => { g with flashOp := none }

/-- The outputs beside the unit's own that go to high impedance while SYS_RST_N is low (R43, R602, R608). -/
def outPins : List String :=
  ["XSPI_CLK", "XSPI_CS_N", "XSPI_DQ", "XSPI_DQS", "XSPI_RST_N", "THERM_N", "AVS_CLK", "AVS_MDATA", "PPS_OUT", "TOD_TX", "SYNCE_OUT0",
    "SYNCE_OUT1"]

/-- SYS_RST_N asserted (R41): only the ledger's memory, the fuses and the flash keep what they hold, beside what stands
outside the device: the levels on its supply and reference pins, and the regulator's last target (R606). A checkpoint that
runs is cut short (R560). -/
def Device.sysReset (d : Device) : Device :=
  let d := (d.ckptCut.fuseBurn true).flashCut
  let l := d.ledger
  let u := d.unit
  let d := d.each outPins fun d p => d.emit (.pin p .z)
  { ({} : Device) with
    out := d.out, freeCtr := d.freeCtr, flash := d.flash, fuses := { otp := d.fuses.otp, now := d.fuses.now },
    ledger := { mem := l.mem, sumIdx := l.sumIdx, castIdx := l.castIdx, prefIdx := l.prefIdx, eraseIdx := l.eraseIdx,
                eseq := l.eseq },
    unit := { actOut := u.actOut, relqOut := u.relqOut },
    power := { out := d.power.out.map fun e => (e.1, e.2.map fun o => (0, o.2)), avsOld := d.power.avsOld,
               perst := d.power.perst, refDown := d.power.refDown } }

/-- Replicate the values that a tile reset changes (R475): each replicated register that held another value. -/
def Device.tileRepl (d : Device) (regs : Map Word) : Device :=
  d.each regs fun d e =>
    let o := e.1 % 0x10000
    let yes : Bool := (decide (0x100 ≤ o) && decide (o < 0x120)) || (decide (0x140 ≤ o) && decide (o < 0x160))
      || decide (0x4000 ≤ o)
    match regAt e.1 with
    | some (r, _, up) =>
      let m := if up then (r.rw ||| r.rwl) / 2 ^ 32 else (r.rw ||| r.rwl) % 2 ^ 32
      if yes && m != 0 then
        d.replPush (replRecord 1 0 e.1 (beBytes 4 ((regDflt e.1).toNat) ++ beBytes 4 0)) else d
    | none => d

/-- A tile is reset (R475): its ports are deleted, the frames in its Gather buffer cut short, its registers reset. -/
def Device.tileReset (d : Device) (t : Nat) : Device :=
  let ps := tilePorts t
  let d := d.each ps Device.rxAbort
  let fs := lget d.path.ready t
  let d := d.each fs fun d f => (d.freeBlocks f.src f.bytes f.blkR f.blkS).rxDrop f.src 11 2
  let d := d.onPath fun p => { p with ready := lset p.ready t [] }
  let d := d.each ps fun d p => if d.portEn p then d.portDelete p 0 else d
  let lo := 0x800000 + 0x10000 * t
  let old := mrange d.regs lo (lo + 0x10000)
  let d := { d with regs := merase d.regs lo (lo + 0x10000) }
  let d := d.onPower fun x => { x with retune := lset x.retune t [], assign := lset x.assign t [] }
  if d.role = roleActive then d.tileRepl old else d

/-- A Gaffer core restarts at ENTRY (R475, R544): its commands complete with RESTARTED. -/
def Device.coreRestart (d : Device) (n : Nat) : Device :=
  let d := (d.set (Reg.SVC_CORE_STATE n) 1).inc (Reg.SVC_CORE_RESTARTS n)
  d.gafRestarted (d.get (Reg.SVC_CORE_ROLE n))

/-- A block reset of a Gaffer core: a core that runs or is FAILED restarts; its pool buffers are freed (R522). -/
def Device.coreReset (d : Device) (n : Nat) : Device :=
  let d := if d.get (Reg.SVC_CORE_STATE n) = 0 then d
    else (d.coreRestart n).set Reg.SVC_STATUS_CORE_FAILED (setBit (d.get Reg.SVC_STATUS_CORE_FAILED) n false)
  let d := d.onGaf fun g => { g with expiries := lset g.expiries n [] }
  (d.poolDrop (64 + n)).poolSweep

/-- A block reset of PMC. -/
def Device.pmcReset (d : Device) : Device :=
  { d with regs := merase d.regs 0x50000 0x60000, tel := {} }.each [36, 37, 38, 39] Device.lineCut

/-- A block reset starts (R475): BUSY and TARGET. -/
def Device.blkStart (d : Device) (target : Nat) : Device :=
  (d.put Reg.GLB_BLK_RST_STATUS_BUSY true).set Reg.GLB_BLK_RST_STATUS_TARGET target

/-- A block reset of a target. -/
def Device.blkReset (d : Device) (target : Nat) : Device :=
  let d := d.blkStart target
  if target < 0x40 then d.tileReset target else if target < 0x50 then d.coreReset (target - 0x40) else d.pmcReset

/-! ### Cast-On records and history (R61, R64, R69) -/

/-- CAST_SEQ of the next attempt. -/
def Device.nextCast (d : Device) : Nat := match d.lastCast with | some r => (castSeq r + 1) % 65536 | none => 0

/-- Milliseconds since a value of FT. -/
def Device.msSince (d : Device) (t : Nat) : Nat := (d.ft - t) / (1000000 * 65536)

/-- Bytes 0 to 3 of the image's digest, as IMAGE_ID holds them. -/
def Device.imageId (d : Device) : Nat := leNat (slice d.boot.digest 0 4)

/-- An attempt is open: its started record is the latest one. -/
def Device.castOpen (d : Device) : Bool := match d.lastCast with | some r => castOutcome r == 0 | none => false

/-- The second record of the attempt that runs (R64), once its started record is written. -/
def Device.castClose (d : Device) (outcome reason detail : Nat) : Device :=
  match d.lastCast with
  | some r =>
    if castOutcome r = 0 ∧ d.get Reg.GLB_BOOT_STATUS_SLOT ≠ 3 then
      d.castAppend (castBytes d.lifeMin (castSeq r) (castSlot r) outcome (castFails r) reason detail
        (min 0xFFFE (d.msSince d.boot.attempt)) d.imageId)
    else d
  | none => d

/-- An attempt cut short is recorded as interrupted (R61, R64): every other field keeps the value of the started record. -/
def Device.castCut (d : Device) : Device :=
  match d.lastCast with
  | some r =>
    if castOutcome r = 0 then
      let b6 := BitVec.ofNat 8 (64 * castSlot r + 16 * 3 + 4 * castFails r)
      d.castAppend (patch (patch (patch r 6 [b6]) 7 [0, 0, 0]) 10 [0xFF, 0xFF])
    else d
  | none => d

/-- The latest failed attempts of class I in the Cast-On log, newest first: slot and reason. -/
def Device.failsLog (d : Device) : List (Nat × Nat) :=
  let n := min 4096 d.ledger.castIdx
  (((List.range n).map fun i => d.ledRead (0x10000 + 16 * ((d.ledger.castIdx - 1 - i) % 4096)) 16).filter fun r =>
    castOutcome r == 2 && classI (byteAt r 7)).map fun r => (castSlot r, byteAt r 7)

/-- GLB_BOOT_HIST from the ledger: as many attempts as FAILS counts (R69). -/
def Device.histLoad (d : Device) (fails : Nat) : Device :=
  let l := d.failsLog.take (min 3 fails)
  let s (i : Nat) := (l.getD i (0, 0)).1
  let r (i : Nat) := (l.getD i (0, 0)).2
  d.wr Reg.GLB_BOOT_HIST (2 ^ 28 * s 0 + 2 ^ 26 * s 1 + 2 ^ 24 * s 2 + 2 ^ 16 * r 0 + 2 ^ 8 * r 1 + r 2)

/-! ### Attempts (R58 to R62) -/

/-- GLB_BOOT_STATUS shows STATE. -/
def Device.bootState (d : Device) (s : Nat) : Device := d.set Reg.GLB_BOOT_STATUS_STATE s

/-- STATE. -/
def Device.boot? (d : Device) : Nat := d.get Reg.GLB_BOOT_STATUS_STATE

/-- GLB_BOOT_STATUS shows REASON and DETAIL. -/
def Device.bootReason (d : Device) (reason detail : Nat) : Device :=
  (d.set Reg.GLB_BOOT_STATUS_REASON reason).set Reg.GLB_BOOT_STATUS_DETAIL detail

/-- SRV_TEMP_MAX.TEMP in quarters of a degree. -/
def Device.tempMax (d : Device) : Int := signed 16 (d.get Reg.SRV_TEMP_MAX_TEMP)

/-- A condition of class E arises during an attempt: STATE 0xE (R60). -/
def Device.failEnv (d : Device) (reason detail : Nat) : Device :=
  if d.boot.run && decide (d.boot? ≤ 0xB) then
    let step := d.boot?
    ((d.bootState 0xE).bootReason reason detail).onBoot fun b => { b with left := some step }
  else d

/-- The condition of class E that stands, as its reason and DETAIL: a supply out of its window, Tj above 105 °C, or an AVS target not
acknowledged (R60, R606). -/
def Device.envCause (d : Device) : Option (Nat × Nat) :=
  match (List.range 32).find? fun n => d.flag (Reg.SRV_RAIL_LIVE_OUT n) with
  | some n => some (0x81, n)
  | none =>
    if 420 < d.tempMax then some (0x82, d.get Reg.SRV_TEMP_MAX_SENSOR)
    else if d.power.avsFail then some (0x81, 0) else none

/-- An attempt starts at a step (R60): GLB_BOOT_WARN is cleared (R70). SLOT shows the last attempt until the ledger gives this
one's slot (R67). A condition of class E that stands already puts the device in STATE 0xE. -/
def Device.attemptStart (d : Device) (step : Nat) : Device :=
  let d := (d.wr Reg.GLB_BOOT_WARN 0).bootState step
  let d := d.onBoot fun b => { b with attempt := d.ft, image := [], digest := [], recIdx := 0, watchdog := false, ports := [],
                                      policy := [], fwWait := false, left := none, undo := [], pool0 := none }
  match d.envCause with
  | some (r, x) => d.failEnv r x
  | none => d

/-- A Cast-On starts at a step: LOCKED, GLB_FLASH_WE and GLB_BOOT_TIME are cleared (R71, R72, R74), and shared SRAM is no longer
protected (R534). -/
def Device.castStart (d : Device) (step : Nat) : Device :=
  let d := ((d.put Reg.GLB_LOCK_LOCKED false).wr Reg.GLB_FLASH_WE 0).wr Reg.GLB_BOOT_TIME 0
  let d := { d with fuses := { d.fuses with now := d.fuses.otp } }
  let d := (d.bootReason 0 0).onBoot fun b => { b with start := d.ft, run := true }
  (d.onGaf fun g => { g with code := (0, 0) }).attemptStart step

/-- The reason of Selvedge mode in the ledger (R65): a Cast-On record of its own, with SLOT 2 where slot G was checked, else 3, unless
the record of the attempt holds the reason (`noted`). DEDUCED from R65 and R564, which names a record of FAILS_EXHAUSTED. -/
def Device.selvedgeNote (d : Device) (reason x id : Nat) (noted : Bool) : Device :=
  if noted || !d.ledger.isOpen then d
  else d.castAppend (castBytes d.lifeMin d.nextCast (if reason = 0xC3 then 3 else 2) 2 (d.get Reg.GLB_BOOT_STATUS_FAILS) reason x
    (min 0xFFFE (d.msSince d.boot.attempt)) id)

/-- Selvedge mode (R65). `detail` is bits [7:0] of DETAIL. Slot G is checked, except when unprovisioned, and its firmware is
released on core 0 if it passes. The entry takes a checkpoint (R560), and its reason goes into the ledger. -/
def Device.selvedge (d : Device) (reason detail : Nat) (noted : Bool := false) : Device :=
  let d := d.castCut.ckptAtOnce.domainReset
  let d := d.when (reason != 0xC3 && d.flash.present) Device.flashDiscover
  let g := if reason = 0xC3 then (0, 0) else d.imageCheck 2
  let fw := if reason = 0xC3 ∨ g.1 ≠ 0 then none else d.firmware 2
  let ok := fw.any fun f => firmwareOk 2 f.2
  let res := if reason = 0xC3 then 0 else if g.1 ≠ 0 then g.1 else if ok then 0 else 0x1C
  let d := match fw with
    | some (s, bs) =>
      if ok then
        let d := (d.sramWrite s.load bs).put Reg.SVC_STATUS_SELVEDGE_FW true
        let d := (d.onGaf fun g => { g with code := (s.load, s.load + bs.length), fwVer := leNat (slice bs 4 4) }).pwrSet 88 true
        let d := d.pllBit 2 true
        d.set (Reg.SVC_CORE_STATE 0) 1
      else d
    | none => d
  let d := (d.bootState 0xD).bootReason reason (256 * res + detail % 256)
  let id : Nat := if reason = 0xC3 || !d.flash.present || (d.headCheck 2).isSome then 0
    else leNat (slice (digestOf (d.flashRead 2 0 (d.imgHead 2).sig)) 0 4)
  let d := d.selvedgeNote reason (256 * res + detail % 256) id noted
  let d := d.set Reg.GLB_BOOT_TIME_MS (d.msSince d.boot.start)
  let d := d.onBoot fun b => { b with run := false, watchdog := false, left := none, fwWait := ok }
  (d.onUnit fun u => { u with released := true }).setRole roleSelvedge 0

/-- What the records of a failed attempt wrote outside the domains that are reset (R62): the words of AON and PCIe registers as they
stood, the message pools, and the firmware in shared SRAM. Bits that only hardware sets keep their values. -/
def Device.undoImage (d : Device) : Device :=
  let d := d.each d.boot.undo fun d e =>
    match regAt e.1, e.2 with
    | some (r, _, up), some old =>
      let m := if up then (r.rw ||| r.rwl ||| r.w1s ||| r.cpw ||| r.ctr) / 2 ^ 32 else (r.rw ||| r.rwl ||| r.w1s ||| r.cpw ||| r.ctr) % 2 ^ 32
      let c := if up then r.w1c / 2 ^ 32 else r.w1c % 2 ^ 32
      let now := d.rd e.1
      d.wr e.1 ((now ^^^ (now &&& m)) ||| (old.toNat &&& (m ||| c)))
    | _, _ => d
  let d := match d.boot.pool0 with | some p => { d with pool := p } | none => d
  let (lo, hi) := d.gaffer.code
  ({ d with sram := merase d.sram lo hi }).onBoot fun b => { b with undo := [], pool0 := none }

/-- A failure of class I (R60 to R62): recorded, counted, and the next attempt starts at step 2, or Selvedge mode follows. A slot that
RECAST named is used by the first attempt only (DESIGN CHOICE: the spec does not say how long SLOT holds). -/
def Device.failImage (d : Device) (reason detail : Nat) : Device :=
  let d := (d.castClose 2 reason detail).undoImage
  let n := min 3 (d.boot.fails + 1)
  let d := ((d.bootReason reason detail).set Reg.GLB_BOOT_STATUS_FAILS n).histLoad n
  let d := d.domainReset.onBoot fun b => { b with fails := n, forced := none }
  if n = 3 then d.selvedge 0xC0 0 else d.attemptStart 1

/-- A failure of class H, or a condition of class E that persists (R60): recorded, and Selvedge mode. -/
def Device.failHard (d : Device) (reason detail : Nat) : Device :=
  let noted := d.castOpen && d.get Reg.GLB_BOOT_STATUS_SLOT != 3
  (d.castClose 2 reason detail).undoImage.selvedge reason detail noted

/-- CLR_FAILS (R68): FAILS becomes 0 before the command acts. `write` says that the ledger takes it at once: the started record of the
attempt that runs is written again with FAILS 0, or a record of no slot is added (DESIGN CHOICE; R564 derives FAILS from the latest
record). A RECAST shows it in its own started record instead. -/
def Device.clrFails (d : Device) (write : Bool) : Device :=
  let was := d.ledFails
  let d := (d.set Reg.GLB_BOOT_STATUS_FAILS 0).onBoot fun b => { b with fails := 0 }
  if !write || !d.ledger.isOpen then d
  else match d.lastCast with
    | some r =>
      if castOutcome r = 0 then d.castAppend (castBytes (leNat (slice r 0 4)) (castSeq r) (castSlot r) 0 0 0 0 0 0)
      else if was = 0 then d
      else d.castAppend (castBytes d.lifeMin d.nextCast 3 2 0 0 0 (min 0xFFFE (d.msSince d.boot.attempt)) 0)
    | none => d

/-- A failure of an attempt, sorted by its reason (R63). -/
def Device.fail (d : Device) (reason detail : Nat) : Device :=
  if classI reason then d.failImage reason detail
  else if reason = 0x81 ∨ reason = 0x82 then d.failEnv reason detail
  else d.failHard reason detail

/-- The role at step 12 (R370). DEDUCED: a single unit that has a fault latched drives UNIT_RELQ_N low, as R381 has an ACTIVE unit do. -/
def Device.takeRole (d : Device) : Device :=
  let d := d.onUnit fun u => { u with released := true }
  let crit := d.get Reg.UNT_STATUS_CRIT_CAUSE != 0
  if !d.paired then (d.goActive 0).onUnit fun u => { u with relq := crit }
  else if crit then d.mute.setRole roleFailed 0
  else if d.flag Reg.UNT_STATUS_PEER_ACT then d.goStandby 0
  else if d.flag Reg.UNT_STATUS_PEER_RELQ || !d.flag Reg.UNT_STATUS_SLOT then d.goActive 0
  else (d.goStandby 0).onUnit fun u => { u with roleWait := true }

/-- Forwarding ready (R58, R61, R72): at the end of step 12. The ports that records enabled start. -/
def Device.ready (d : Device) : Device :=
  let lock := bit (leNat (slice d.boot.image 68 4)) 0
  let d := d.castClose 1 0 0
  let d := ((d.bootState 0xC).bootReason 0 0).set Reg.GLB_BOOT_STATUS_FAILS 0
  let d := (d.set Reg.GLB_BOOT_TIME_MS (d.msSince d.boot.start)).when lock fun d => d.put Reg.GLB_LOCK_LOCKED true
  let d := d.onBoot fun b => { b with run := false, fails := 0, image := [], watchdog := false, retry := false,
                                      undo := [], pool0 := none }
  (d.each ((List.range 512).filter d.portEn) fun d p => d.portStart p).takeRole

/-! ### Commands of GLB_BOOT_CTRL (R66, R68) -/

/-- RECAST: the attempt that runs is cut short, forwarding stops, the host queues are reset as by an FLR of PF0, and a Cast-On
starts at step 2. `forced` is the slot, `clr` CLR_FAILS. -/
def Device.recast (d : Device) (forced : Option Nat) (clr : Bool) : Device :=
  let d := d.castCut.domainReset.flrPf0
  let d := d.onUnit fun u => { u with released := true }
  (d.castStart 1).onBoot fun b => { b with forced := forced, retry := clr }

/-- The slot that an attempt uses: the forced one, or by R61. -/
def Device.pickSlot (d : Device) (fails : Nat) : Nat :=
  match d.boot.forced with
  | some s => s
  | none => if fails = 1 then 1 - d.ledPref else d.ledPref

end Sys2Proof.Machine
end

