-- ==== Sys2Proof/Machine/Survey.lean ====
section
/-!
DEFINITION. The Survey of lanes and modules and the resolution of lane rates (R55, R79 to R88, R103).
-/
namespace Sys2Proof.Machine

/-- Change what the Survey holds. -/
def Device.onSurvey (d : Device) (f : Survey → Survey) : Device := { d with survey := f d.survey }

/-! ### Supply windows (R77, R93) -/

/-- Ledger offset of the words of a rail sensor (R561). -/
def railAcc (n : Nat) : Nat := 0x100 + 36 * n

/-- A sensor's comparator can show a crossing: a limit at the end of its range is never crossed (R93). -/
def Device.canCross (d : Device) (n : Nat) (up : Bool) : Bool :=
  if up then d.get (Reg.SRV_RAIL_LIM_HI_MV n) != 0xFFFF else d.get (Reg.SRV_RAIL_LIM_LO_MV n) != 0

/-- The duration bin of a crossing in ns (R561). -/
def crossBin (ns : Nat) : Nat :=
  if ns < 10000 then 0 else if ns < 100000 then 1 else if ns < 1000000 then 2 else if ns < 10000000 then 3
  else if ns < 100000000 then 4 else 5

/-- A supply comes back into its window (R77, R561). -/
def Device.supplyBack (d : Device) (n : Nat) : Device :=
  match mget (fun _ => none) d.power.out n with
  | none => d
  | some (t, _) =>
    let d := d.accAdd (railAcc n + 4 * crossBin ((d.ft - t) / 65536))
    (d.onPower fun p => { p with out := mset (fun _ => none) p.out n none }).put (Reg.SRV_RAIL_LIVE_OUT n) false

/-- New limits of a sensor (R77, R93): a window end that is turned off shows no crossing any more. -/
def Device.limitsSet (d : Device) (n : Nat) : Device :=
  match mget (fun _ => none) d.power.out n with
  | some (_, up) => if d.canCross n up then d else d.supplyBack n
  | none => d

/-! ### From measured loss to lane rate (R55, R86) -/

/-- The highest code whose limit a loss in 0.1 dB keeps (R86). -/
def lossCode (loss : Nat) : Nat :=
  if loss ≤ 380 then 5 else if loss ≤ 520 then 4 else if loss ≤ 680 then 3 else if loss ≤ 800 then 2
  else if loss ≤ 950 then 1 else 0

/-- The highest code set in PARTNER_ABIL. -/
def abilCode (abil : Nat) : Nat := (bitsSet 6 abil).getLast?.getD 0

/-- highest_rate (R86) of lane `l` of the port whose lowest lane is `low`. -/
def Device.highest (d : Device) (low l margin : Nat) : Option Nat :=
  if d.get (Reg.SRV_LANE_LO_STATE l) ≠ 1 then none
  else
    let loss := d.get (Reg.SRV_LANE_LO_IL_NYQ l) + margin + (if d.flag (Reg.SRV_LANE_LO_EXTRAP l) then 30 else 0)
    let c := if d.flag (Reg.SRV_LANE_LO_SAT l) then 0 else lossCode loss
    let abil := d.get (Reg.SRV_LANE_HI_PARTNER_ABIL low)
    some (if abil = 0 then c else min c (abilCode abil))

/-- The RATE_POLICY entry that decides for a lane: the latest that covers it (R55). -/
def Device.policyOf (d : Device) (l : Nat) : Option (List Byte) :=
  d.boot.policy.reverse.find? fun e => decide (leNat (slice e 0 2) ≤ l) && decide (l ≤ leNat (slice e 2 2))

/-- MARGIN of a lane; 0 where no entry covers it. -/
def Device.marginOf (d : Device) (l : Nat) : Nat := match d.policyOf l with | some e => byteAt e 7 | none => 0

/-- What resolution makes of a port: a rate, a port that awaits a partner (R87), or one left without a rate. -/
inductive Rated where
  | rate (r : Nat)
  | waits
  | noRate
  deriving DecidableEq, Repr

/-- The lowest acceptable code of a port: the highest MIN_RATE over its lanes. -/
def Device.minRate (d : Device) (p w : Nat) : Nat :=
  (List.range w).foldl (fun m i => max m (match d.policyOf (p + i) with | some e => byteAt e 6 | none => 0)) 0

/-- The highest code at or below `r` that R104 allows for a width (R105). -/
def rowBelow (w r : Nat) : Option Nat := ((List.range (r + 1)).filter (rowOk w)).getLast?

/-- A code chosen for a port of width `w`, as R104 and MIN_RATE allow it (R105). -/
def Device.allowedRate (d : Device) (p w r : Nat) : Rated :=
  match rowBelow w r with
  | some c => if c < d.minRate p w then .noRate else .rate c
  | none => .noRate

/-- The rate of a port by its lanes, before the tile step (R55, R87, R105). DESIGN CHOICE: a lane never surveyed (STATE 0) counts as absent, so
the port awaits a partner; the rule names absent and failed lanes only. -/
def Device.laneRate (d : Device) (p w : Nat) : Rated :=
  let ls := (List.range w).map (p + ·)
  if ls.any fun l => d.get (Reg.SRV_LANE_LO_STATE l) == 0 || d.get (Reg.SRV_LANE_LO_STATE l) == 2 then .waits
  else if ls.any fun l => (d.highest p l (d.marginOf l)).isNone then .noRate
  else
    let r := ls.foldl (fun r l =>
      match d.policyOf l with
      | some e => min r (if byteAt e 4 = 0 then byteAt e 5
          else min (byteAt e 5) ((d.highest p l (d.marginOf l)).getD 0))
      | none => min r ((d.highest p l (d.marginOf l)).getD 0)) 5
    d.allowedRate p w r

/-- Lanes that a family carries among resolved ports. -/
def famLanes (fam : Nat) (ports : List (Nat × Nat × Rated)) : Nat :=
  (ports.map fun x => match x.2.2 with | .rate r => if rateFam r = fam then x.2.1 else 0 | _ => 0).sum

/-- The rate families a tile keeps (R55): those of ports whose rate is fixed, then those that carry the most lanes, on a
tie the one with the higher rate; two at most. -/
def keptFams (fixed : List Nat) (ports : List (Nat × Nat × Rated)) : List Nat :=
  let rest := ([3, 2, 1, 0].filter fun f => !fixed.contains f && famLanes f ports != 0)
  let best := fun (l : List Nat) => l.foldl (fun (b : Option Nat) f =>
    match b with | some g => if famLanes g ports < famLanes f ports then some f else b | none => some f) none
  let a := best rest
  let b := best (rest.filter fun f => some f != a)
  ((fixed ++ a.toList ++ b.toList).take 2)

/-- The tile step of R55 and R105 for the ports (port, width, rate) of one tile. -/
def Device.tileStep (d : Device) (fixed : List Nat) (ports : List (Nat × Nat × Rated)) : List (Nat × Nat × Rated) :=
  let kept := keptFams fixed ports
  ports.map fun x => match x.2.2 with
    | .rate r =>
      if kept.contains (rateFam r) then x
      else
        let ok := (List.range (r + 1)).filter fun c => kept.contains (rateFam c) && decide (d.minRate x.1 x.2.1 ≤ c)
        (x.1, x.2.1, match ok.getLast? with | some c => d.allowedRate x.1 x.2.1 c | none => .noRate)
    | _ => x

/-- Resolve ports (port, width): `fixed` gives the rate families a tile already carries. -/
def Device.resolveRates (d : Device) (fixed : Nat → List Nat) (ports : List (Nat × Nat)) : List (Nat × Nat × Rated) :=
  (List.range 64).flatMap fun t =>
    let ps := (ports.filter fun x => tileOf x.1 == t).map fun x => (x.1, x.2, d.laneRate x.1 x.2)
    if ps.isEmpty then [] else d.tileStep (fixed t) ps

/-- NO_RATE and HIGHEST of the lanes of a port follow its resolution (R87, R96). -/
def Device.showRate (d : Device) (p w : Nat) (noRate : Bool) : Device :=
  d.each ((List.range w).map (p + ·)) fun d l =>
    (d.put (Reg.SRV_LANE_LO_NO_RATE l) noRate).set (Reg.SRV_LANE_LO_HIGHEST l) ((d.highest p l (d.marginOf l)).getD 7)

/-! ### Ports and the rate policy after ready -/

/-- A port whose configuration asks for the rate policy (R103): POLICY is 1. -/
def Device.asksPolicy (d : Device) (p : Nat) : Bool := bit (d.portCfg p) 12

/-- The FEC field of a port that is resolved: that of its PORT record, or the default of the row (R54, R103). DESIGN CHOICE for a port resolved
again after ready (R88), whose FEC field the spec does not give: not what its register holds by then. -/
def Device.policyFec (d : Device) (p : Nat) : Nat :=
  match d.boot.ports.find? fun r => r.port == p && r.rate == 0xFF with
  | some r => if r.fec = 0xFF then 0xF else r.fec
  | none => 0xF

/-- The word that gives port `p` a rate. -/
def Device.policyWord (d : Device) (p r : Nat) : Nat :=
  cfgNorm (withBits (withBits (withBits (withBits (d.portCfg p) 31 31 1) 23 20 r) 19 16 (d.policyFec p)) 12 12 1)

/-- The change that resolution makes to a port is audited with the origin of the survey's START (R88), or as an automatic
survey (R87), and is replicated as a write of its register. -/
def Device.rateRecord (d : Device) (p old : Nat) (by_ : Option Requester) (code : Nat) : Device :=
  let off := Reg.TILE_PORT_CFG (tileOf p) (laneIn p)
  let new := d.portCfg p
  let d := match by_ with
    | some rq =>
      let body := leBytes 4 off ++ leBytes 4 new ++ leBytes 4 old
      if new = old then d else if d.canLog then d.recordBy rq 1 false body else d.recordHw 1 body
    | none => d.auditEvent 9 p code 0
  if new = old then d else d.replPush (replRecord 1 0 off (beBytes 4 new ++ beBytes 4 0))

/-- A port is left down by resolution: awaiting a partner, or without a rate (R87, R129). -/
def Device.leaveDown (d : Device) (p w : Nat) (waits : Bool) : Device :=
  let d := if d.portEn p then d.portWrite p (d.portCfg p % 2 ^ 31) else d
  let d := (d.showRate p w (!waits)).setPortState p (if waits then 7 else 0xA)
  d.onSurvey fun s => { s with waiting := if waits then s.waiting ++ [p] else s.waiting }

/-- Resolution takes effect at a port after ready. A word that R101 would reject leaves the port down. -/
def Device.applyRate (d : Device) (by_ : Option Requester) (x : Nat × Nat × Rated) : Device :=
  let p := x.1
  let old := d.portCfg p
  let d := d.onSurvey fun s => { s with waiting := s.waiting.filter (· != p) }
  match x.2.2 with
  | .rate r =>
    let v := d.policyWord p r
    if d.portReason p v = 0 then
      ((d.showRate p x.2.1 false).portWrite p v).rateRecord p old by_ r
    else (d.leaveDown p x.2.1 false).rateRecord p old by_ 0xFF
  | .waits => (d.leaveDown p x.2.1 true).rateRecord p old by_ 0xFF
  | .noRate => (d.leaveDown p x.2.1 false).rateRecord p old by_ 0xFF

/-- The rate families that the enabled ports of a tile carry, other than the ports being resolved. -/
def Device.tileFams (d : Device) (resolve : List Nat) (t : Nat) : List Nat :=
  (((d.portsOfTile t).filter fun p => !resolve.contains p).map fun p => rateFam (cfgRate (d.portCfg p))).eraseDups

/-! ### Lane surveys (R79, R88) -/

/-- The port that a lane belongs to and its width: an enabled one, one whose configuration asks for the policy, or one of the
image's PORT records. -/
def Device.surveyPort (d : Device) (l : Nat) : Option (Nat × Nat) :=
  let c := (List.range 8).map (8 * tileOf l + ·)
  match d.portOfLane l with
  | some p => some (p, d.width p)
  | none =>
    match c.find? fun p => d.asksPolicy p && decide (p ≤ l) && decide (l < p + d.width p) with
    | some p => some (p, d.width p)
    | none => (d.boot.ports.find? fun r => decide (r.port ≤ l) && decide (l < r.port + r.width)).map fun r => (r.port, r.width)

/-- Whether the transmitter of a lane under survey sends DME: not where its port is forced (R79). DESIGN CHOICE: a lane of no port does. -/
def Device.surveyDme (d : Device) (l : Nat) : Bool :=
  match d.surveyPort l with
  | none => true
  | some (p, _) =>
    match d.boot.ports.find? fun r => !d.portEn p && r.port == p with
    | some r => r.an != 0
    | none => cfgAn (d.portCfg p) != 0

/-- The transmitters of lanes under survey start (R79, step 1). -/
def Device.surveySend (d : Device) (ls : List Nat) : Device := d.each ls fun d l => d.emit (.transmit l (d.surveyDme l))

/-- A lane survey starts on lanes: their ports go down and wake, the tiles wake, and the transmitters start (R79, R88, R123, R581). -/
def Device.laneSurvey (d : Device) (ls : List Nat) (by_ : Option Requester) (resolve : Bool) : Device :=
  let en := (List.range 512).filter fun p => d.portEn p && ls.any fun l => decide (p ≤ l) && decide (l < p + d.width p)
  let ask := (List.range 512).filter fun p => d.asksPolicy p && ls.any fun l => decide (p ≤ l) && decide (l < p + d.width p)
  let d := d.each en fun d p =>
    let d := d.linkDown p false
    let d := (d.put (Reg.TILE_PORT_STATUS_ASLEEP (tileOf p) (laneIn p)) false).lanesPut (d.lanes p) Reg.LANE_STATUS_ASLEEP false
    (d.setPortState p 1).updPort p fun x => { x with probing := false, trained := false }
  let d := (d.each ((ls.map tileOf).eraseDups) Device.wakeAsk).surveySend ls
  let d := (d.put Reg.SRV_STATUS_BUSY true).put Reg.SRV_CTRL_START true
  d.onSurvey fun s => { s with lanes := ls, masters := [], by_ := by_, auto := en, resolve := if resolve then ask else [] }

/-- A write to the switch of a master: its channel `c` alone is enabled (R83). -/
def Device.switchSet (d : Device) (m c : Nat) : Device := d.emit (.board "I2C_WRITE" [m, 0x70, 2 ^ c])

/-- A read of CMIS bytes at 0x50: `n` of them from `off` (R83). -/
def Device.cmisRead (d : Device) (m off n : Nat) : Device := d.emit (.board "I2C_READ" [m, 0x50, off, n])

/-- The reads of a channel that answered as `r` (R83): bytes 0 to 2 of lower memory; of a paged module that answers, bytes 200 and 201 of
page 00h too. -/
def Device.channelReads (d : Device) (m : Nat) (r : Option (List Byte)) : Device :=
  let d := d.cmisRead m 0 3
  d.when (r.any fun bs => !bs.isEmpty && !bit (byteAt bs 2) 7) fun d => d.cmisRead m 200 2

/-- A module survey starts (R83). -/
def Device.moduleSurvey (d : Device) (by_ : Option Requester) : Device :=
  let d := (d.put Reg.SRV_STATUS_BUSY true).put Reg.SRV_CTRL_START true
  let d := d.each (List.range 16) fun d m => d.switchSet m 0
  d.onSurvey fun s => { s with lanes := [], masters := List.range 16, by_ := by_, auto := [], resolve := [] }

/-- A START is ignored (R88, R90, R91). -/
def Device.surveyLost (d : Device) : Device :=
  (d.put Reg.SRV_STATUS_CMD_LOST true).put Reg.SRV_CTRL_START (d.flag Reg.SRV_STATUS_BUSY)

/-- SRV_CTRL.START is written 1 with the fields that SRV_CTRL then holds (R88, R90). -/
def Device.surveyStart (d : Device) (rq : Requester) : Device :=
  let lo := d.get Reg.SRV_CTRL_FIRST_LANE
  let hi := d.get Reg.SRV_CTRL_LAST_LANE
  let scope := d.get Reg.SRV_CTRL_SCOPE
  if d.flag Reg.SRV_STATUS_BUSY || decide (2 ≤ scope) || d.inSelvedge then d.surveyLost
  else if scope = 1 then d.moduleSurvey (some rq)
  else if hi < lo then d.surveyLost
  else d.laneSurvey (mrangeList lo (hi + 1)) (some rq) (d.flag Reg.SRV_CTRL_RESOLVE)
where
  /-- The numbers `lo` to `hi - 1`. -/
  mrangeList (lo hi : Nat) : List Nat := (List.range (hi - lo)).map (lo + ·)

/-- A survey has ended: START and BUSY clear, and the SURVEY commands that wait for it complete (R90, R535). -/
def Device.surveyOver (d : Device) : Device :=
  let ops := d.gaffer.surveyOps
  let d := (d.put Reg.SRV_STATUS_BUSY false).put Reg.SRV_CTRL_START false
  let d := d.onSurvey fun s => { s with lanes := [], masters := [], auto := [], resolve := [] }
  let d := d.onGaf fun g => { g with surveyOps := [] }
  d.each ops fun d id => d.mboxById id 0

/-- The lanes of a survey are done: rates are resolved where that was asked, and the ports that are still down for it start again; one that
the host has reconfigured meanwhile is on its way already (R88). At Cast-On the resolution is step 9's own. DESIGN CHOICE: LANE_DONE is set
once for the range surveyed, while SEQ counts each lane (R91). -/
def Device.lanesOver (d : Device) : Device :=
  let s := d.survey
  let d := d.put Reg.SRV_STATUS_LANE_DONE true
  let rated := d.resolveRates (d.tileFams s.resolve) (s.resolve.map fun p => (p, d.width p))
  let d := d.each rated fun d x => d.applyRate s.by_ x
  let d := d.each (s.auto.filter fun p => d.portEn p && d.portState p == 1) fun d p => d.portStart p
  d.surveyOver

/-- Distance in mm of a round-trip time in ps (R81, R92), rounded down and held to 16 bits (DESIGN CHOICE); VELOCITY 0 is taken as 160. -/
def Device.roundTrip (d : Device) (ps : Nat) : Nat :=
  let v := d.get Reg.SRV_BOARD_VELOCITY
  min 65535 (ps * (if v = 0 then 160 else v) / 2000)

/-- PARTNER_ABIL of the technologies that a partner advertises (R82). -/
def techAbil (ts : List Tech) : Nat := ts.foldl (fun m t => match techCode t with | some c => m ||| 2 ^ c | none => m) 0

/-- What a lane record says of the partner (R82, R96): ABIL, KIND and DEVID by its base page and next pages. -/
def partnerOf : Option (List Tech × List (BitVec 48)) → Nat × Nat × Nat
  | none => (0, 0, 0)
  | some (ts, pages) =>
    match jarlisDev pages with
    | some dev => (techAbil ts, 2, dev)
    | none => (techAbil ts, 1, 0)

/-- A lane's channel survey completes (R79 to R82, R87, R96). A loss that was not measured is not reported, and a forced port's
partner is of kind 3. The record of a port's lowest lane decides HIGHEST of all its lanes; NO_RATE stays as resolution left it. -/
def Device.laneDone (d : Device) (l state : Nat) (extrap sat : Bool) (il lenPs posPs rho : Nat)
    (partner : Option (List Tech × List (BitVec 48))) : Device :=
  if !d.survey.lanes.contains l then d
  else
    let seq := (d.get Reg.SRV_STATUS_SEQ + 1) % 65536
    let d := d.set Reg.SRV_STATUS_SEQ seq
    let ok := state == 1
    let il := if sat then 1023 else il
    let refl := if rho < 4 then (0, 0) else (d.roundTrip posPs, rho)
    let port := d.surveyPort l
    let low := match port with | some p => p.1 | none => l
    let part : Nat × Nat × Nat :=
      if low ≠ l then (0, 0, 0) else if !d.surveyDme l then (0, 3, 0)
      else if state = 2 then (0, 0, 0) else partnerOf partner
    let noRate := b2n (d.flag (Reg.SRV_LANE_LO_NO_RATE l))
    let lo := 2 ^ 30 * state + 2 ^ 27 * noRate + (if ok then 2 ^ 29 * b2n extrap + 2 ^ 28 * b2n sat + il % 1024 else 0)
      + 2 ^ 32 * (2 ^ 16 * refl.1 + d.roundTrip lenPs)
    let hi := 2 ^ 24 * part.1 + 2 ^ 22 * part.2.1 + 2 ^ 12 * refl.2 + part.2.2 + 2 ^ 32 * seq
    let d := (d.wr64 (Reg.SRV_LANE_LO l) lo).wr64 (Reg.SRV_LANE_HI l) hi
    let ls := if low = l then (List.range ((port.map (·.2)).getD 1)).map (l + ·) else [l]
    let d := d.each ls fun d x => d.set (Reg.SRV_LANE_LO_HIGHEST x) ((d.highest low x (d.marginOf x)).getD 7)
    let d := d.onSurvey fun s => { s with lanes := s.lanes.filter (· != l) }
    if !d.survey.lanes.isEmpty then d
    else if d.boot.run && d.survey.by_.isNone then
      let d := d.put Reg.SRV_STATUS_LANE_DONE true
      if d.survey.masters.isEmpty then d.surveyOver else d
    else d.lanesOver

/-! ### Modules (R83, R84, R95) -/

/-- The record of a channel: none when the transfer failed, `[]` when nothing answers, else CMIS bytes 0, 1 and 2 of lower
memory and bytes 200 and 201 of page 00h, which a flat module does not show. -/
def moduleRec (r : Option (List Byte)) : Nat :=
  match r with
  | none => 3 * 2 ^ 30
  | some [] => 2 * 2 ^ 30
  | some bs =>
    let flat := bit (byteAt bs 2) 7
    2 ^ 30 + 2 ^ 16 * byteAt bs 0 + 2 ^ 8 * byteAt bs 1 + 2 ^ 7 * b2n flat
      + (if flat then 0 else byteAt bs 3 / 32 + 2 ^ 32 * byteAt bs 4)

/-- The reads of a master are complete (R83): its records, those of channels that are not there reading 0. One channel alone says that nothing
answered at 0x70. -/
def Device.masterDone (d : Device) (m : Nat) (rs : List (Option (List Byte))) : Device :=
  if !d.survey.masters.contains m then d
  else
    let direct := rs.length == 1
    let d := d.each (List.range rs.length) fun d c =>
      (d.when (c != 0) fun d => d.switchSet m c).channelReads m (rs.getD c none)
    let d := d.each (List.range 8) fun d c =>
      d.wr64 (Reg.SRV_MODULE (8 * m + c)) (match rs[c]? with | some r => moduleRec r | none => 0)
    let d := d.onSurvey fun s => { s with masters := s.masters.filter (· != m),
                                          direct := s.direct.filter (· != m) ++ if direct then [m] else [] }
    if d.survey.masters.isEmpty && d.survey.lanes.isEmpty then d.surveyOver else d

/-- The poll of a channel (R84): a change of presence updates its record, with what a survey of it reads. DESIGN CHOICE: a change to or from
STATE 3 (error) counts as a change of presence. -/
def Device.modulePoll (d : Device) (ch : Nat) (r : Option (List Byte)) : Device :=
  let was := d.get (Reg.SRV_MODULE_STATE ch)
  let new := moduleRec r
  if d.inCastOn || d.inSelvedge || d.survey.masters.contains (ch / 8) || was == 0 then d
  else
    let m := ch / 8
    let d := (d.when (!d.survey.direct.contains m) fun d => d.switchSet m (ch % 8)).cmisRead m 0 1
    if bits new 31 30 == was then d
    else ((d.channelReads m r).wr64 (Reg.SRV_MODULE ch) new).put Reg.SRV_STATUS_MOD_CHANGE true

/-- Energy on every lane of a port that awaits a partner for 100 ms (R87): its lanes are surveyed, with room in the audit ring
(R555). -/
def Device.autoResurvey (d : Device) (p : Nat) : Device :=
  if d.survey.waiting.contains p && d.flag Reg.SRV_CTRL_AUTO_RESURVEY && !d.flag Reg.SRV_STATUS_BUSY && d.canDefer
      && !d.inCastOn && !d.inSelvedge then
    let d := d.lanesPut (d.lanes p) Reg.LANE_STATUS_SIG_DET true
    (d.laneSurvey (d.lanes p) none false).onSurvey fun s => { s with resolve := [p] }
  else d

/-! ### Meanings -/

/-- LANE_SURVEY_DONE (R79): the state, EXTRAP, SAT, IL_NYQ, the two round-trip times, REFL_RHO and the partner's pages. -/
def execLaneSurveyDone (lane : Fin 512) (state : Fin 3) (extrap sat : Bool) (il : BitVec 10) (len pos : BitVec 32)
    (rho : BitVec 8) (an : Bool) (techs : List Tech) (pages : List (BitVec 48)) (s : State) : Host.Outcome State Fault Refusal :=
  s.run (·.laneDone lane.val (state.val + 1) extrap sat il.toNat len.toNat pos.toNat rho.toNat
    (if an then some (techs, pages) else none))

/-- MODULE_SURVEY_DONE (R83). -/
def execModuleSurveyDone (master : Fin 16) (channels : List (Option (List Byte))) (s : State) :
    Host.Outcome State Fault Refusal := s.run (·.masterDone master.val channels)

/-- MODULE_PRESENCE_POLL (R84): channel 8 × master + channel. -/
def execModulePresencePoll (channel : Fin 128) (read : Option (List Byte)) (s : State) :
    Host.Outcome State Fault Refusal := s.run (·.modulePoll channel.val read)

/-- AUTO_RESURVEY (R87). -/
def execAutoResurvey (p : Fin 512) (s : State) : Host.Outcome State Fault Refusal := s.run (·.autoResurvey p.val)

end Sys2Proof.Machine
end

