-- ==== Sys2Proof/Machine/Reach.lean ====
section
/-!
DEFINITION. The register bus: the address map, who reaches what, and reads (R458 to R462, R470, R482, R483, R529, R578).
-/
namespace Sys2Proof.Machine

/-! ### The address map (R458) -/

/-- A row of the address map: its number, and whether a VF with MGMT and a device in Selvedge mode reach it. -/
structure MapRow where
  no : Nat
  lo : Nat
  hi : Nat
  vf : Bool
  selvedge : Bool

/-- The rows of R458. UNT and PRT, TILE, LANE and MAC, the parts of SLC, and XBR and MIR share theirs. -/
def mapRows : List MapRow :=
  [⟨0, 0x0, 0x10000, true, true⟩, ⟨1, 0x10000, 0x20000, false, true⟩, ⟨2, 0x20000, 0x30000, true, true⟩,
   ⟨3, 0x30000, 0x40000, true, true⟩, ⟨4, 0x40000, 0x50000, true, true⟩, ⟨5, 0x50000, 0x60000, false, false⟩,
   ⟨6, 0x60000, 0x70000, true, false⟩, ⟨7, 0x70000, 0x80000, true, false⟩, ⟨8, 0x100000, 0x200000, true, true⟩,
   ⟨9, 0x200000, 0x400000, true, true⟩, ⟨10, 0x400000, 0x410000, true, true⟩, ⟨11, 0x410000, 0x420000, true, true⟩,
   ⟨12, 0x420000, 0x430000, true, true⟩, ⟨13, 0x430000, 0x440000, true, false⟩, ⟨14, 0x800000, 0xC00000, true, false⟩]
  ++ [⟨15, 0xC00000, 0xD00000, true, false⟩, ⟨16, 0xD00000, 0xD80000, true, false⟩, ⟨17, 0xD80000, 0xE00000, true, false⟩,
   ⟨18, 0xE00000, 0xF00000, true, false⟩, ⟨19, 0xF00000, 0x1000000, true, false⟩, ⟨20, 0x1000000, 0x2000000, true, false⟩]

/-- The row of an offset. -/
def mapRow (off : Nat) : Option MapRow := mapRows.find? fun r => decide (r.lo ≤ off) && decide (off < r.hi)

/-- A word of the bit-alias region stands for bit `b` of the control word at an offset (R469). -/
def bitWord (off : Nat) : Nat × Nat := ((off - 0x100000) / 128 * 4, (off - 0x100000) / 4 % 32)

/-- An offset of the bit-alias region. -/
def inBits (off : Nat) : Bool := decide (0x100000 ≤ off) && decide (off < 0x200000)

/-- A row answers (R65, R578, R583). -/
def Device.answers (d : Device) (r : MapRow) : Bool :=
  (r.selvedge || !d.inSelvedge) && (!(r.no == 9 || r.no == 10 || r.no == 11) || d.pwrOn 112)

/-- A VF's own queue pages: offsets 0x000 to 0x0FF, but for HQ_OWNER (R482, R506). -/
def Device.vfPage (d : Device) (v off : Nat) : Bool :=
  decide (0x200000 ≤ off) && decide (off < 0x400000) && decide (off % 0x1000 < 0x100) && off % 0x1000 / 4 != 0x10
    && d.owner ((off - 0x200000) / 0x1000) == v

/-- An owner window of the pools, and its owner (R529). -/
def poolWindow (off : Nat) : Option Nat :=
  if 0x414000 ≤ off ∧ off < 0x414500 then some ((off - 0x414000) / 16) else none

/-- A requester may reach an offset (R352, R459, R482, R484, R506, R529). -/
def Device.mayReach (d : Device) (rq : Requester) (off : Nat) (r : MapRow) : Bool :=
  match rq with
  | .vf v _ =>
    d.vfPage v.val off ||
      (d.flag (Reg.HQ_VF_MGMT v.val) && r.vf
        && !(r.no == 9 && (off % 0x1000 / 4 == 0x10 || (decide (off < 0x201000) && decide (0x200800 ≤ off))))
        && (poolWindow off).all (· == v.val))
  | .gaffer c => (poolWindow off).all (· == 64 + c.val)
  | .jarlis _ => r.no != 1 && r.no != 5
  | _ => true

/-- The offsets of CLS_PORT_j, CLS_PCP_MAP_j and MTR_PORT_j, j from 32 to 34, which are implemented in slice 0 only (R180, R242). -/
def sliceZeroOnly (off : Nat) : Bool :=
  decide (0xC10000 ≤ off) && decide (off < 0xD00000)
    && [0x1180, 0x1280, 0x4880].any fun o => decide (o ≤ off % 0x10000) && decide (off % 0x10000 < o + 12)

/-- The reasons that an access is an error before its register is looked at (R461). -/
def Device.accessError (d : Device) (rq : Requester) (off size : Nat) (full : Bool) : Option BusReason :=
  if !full || !(size == 4 || size == 8) then some .size
  else if off % size ≠ 0 then some .align
  else match mapRow off with
    | none => some .unimplemented
    | some r =>
      if !d.answers r || sliceZeroOnly off then some .unimplemented
      else if !d.mayReach rq off r then some .privilege
      else none

/-- The reasons that a word cannot be accessed: nothing is there, or it takes 32-bit accesses only (R460, R461). -/
def wordError (off : Nat) (wide : Bool) : Option BusReason :=
  if (regAt off).isNone then some .reserved else if wide && (winAt off).isSome then some .size else none

/-- A 64-bit access at an offset is one access of a 64-bit register or of a complement pair. -/
def whole (off : Nat) : Bool := match regAt off with | some (r, _, _) => r.w64 || r.cpw != 0 | none => false

/-- The function of PCIe that a requester is. -/
def pcieFn : Requester → Option Nat
  | .pf0 _ => some 0
  | .vf v _ => some v.val
  | _ => none

/-- An access that does not reach the register bus: from PCIe with the link down, the function's Memory Space Enable at 0, or a VF that
does not exist (R65, R483, R583); from an image when no Cast-On runs (R75). -/
def Device.notSeen (d : Device) (rq : Requester) : Bool :=
  match pcieFn rq with
  | none => rq == .image && !d.boot.run
  | some f => !d.pcieUp || !mget (fun _ => false) d.host.mse f
      || (f != 0 && (!d.host.vfEn || d.inSelvedge))

/-- What such an access gets: an Unsupported Request, where the link is up (R483). -/
def Device.unseen (d : Device) (rq : Requester) : Device :=
  if (pcieFn rq).isSome && d.pcieUp then d.emit .unsupportedRequest else d

/-! ### Reads -/

/-- Read one word, with what the read does to latches and windows. -/
def Device.readHalf (d : Device) (off : Nat) (ecc : Option Bool) : Nat × Device :=
  match winAt off with
  | some w => let (v, d) := d.winRead w ecc; (v, d.winNext w)
  | none => d.readWord off

/-- Read a location that is there: one word, two, or a bit. -/
def Device.readAt (d : Device) (off size : Nat) (ecc : Option Bool) : Nat × Device :=
  if inBits off then
    let (v, d) := d.readWord (bitWord off).1
    (b2n (bit v (bitWord off).2), d)
  else if size = 4 then d.readHalf off ecc
  else
    let (a, d) := d.readHalf off ecc
    let (b, d) := d.readHalf (off + 4) ecc
    (a + 2 ^ 32 * b, d)

/-- The error of a read: the offset and the reason. -/
def Device.readError (d : Device) (rq : Requester) (off size : Nat) (full : Bool) : Option (Nat × BusReason) :=
  match d.accessError rq off size full with
  | some r => some (off, r)
  | none =>
    if inBits off then
      if size = 8 then some (off, .size) else (wordError (bitWord off).1 false).map fun r => (off, r)
    else if size = 4 || whole off then (wordError off (size == 8)).map fun r => (off, r)
    else ((wordError off true).map fun r => (off, r)).or ((wordError (off + 4) true).map fun r => (off + 4, r))

/-- A read by a requester: its value and whether it was an error. -/
def Device.busReadV (d : Device) (rq : Requester) (off size : Nat) (full : Bool) (ecc : Option Bool) :
    Option Nat × Device :=
  match d.readError rq off size full with
  | some (o, r) => (none, d.busError rq o size false r)
  | none => let (v, d) := d.readAt off size ecc; (some v, d)

/-- A read whose value is put out (R460). -/
def Device.busRead (d : Device) (rq : Requester) (off size : Nat) (full : Bool) (ecc : Option Bool) : Device :=
  if d.notSeen rq then d.unseen rq
  else match d.busReadV rq off size full ecc with
    | (some v, d) => d.emit (.readData v)
    | (none, d) => d

end Sys2Proof.Machine
end

