-- ==== Sys2Proof/Machine/Judge.lean ====
section
/-!
DEFINITION. What each block refuses and what each block does with a write (the chapters' register rules), with snapshots
(R471, R472) and the audit of writes (R464).
-/
namespace Sys2Proof.Machine

/-! ### Masks -/

/-- A number without the bits of a mask. -/
def maskOut (v m : Nat) : Nat := v ^^^ (v &&& m)

/-- A write that is a bus error: its reason, the block's own reason, and what the refusal leaves in the block. -/
structure Refuse where
  reason : BusReason
  blk : Nat := 0
  note : Device → Device := id

/-- A write to a register as its block sees it: the offset of the word, of the register, whether that is 64 bits wide, the value
before and after, and the bits that the write carries. -/
structure WriteIn where
  rq : Requester
  off : Nat
  base : Nat
  wide : Bool
  old : Nat
  new : Nat
  inc : Nat
  deriving DecidableEq, Repr

/-! ### Judgement (REJECTED) -/

/-- TILE_CFG_ERR after a rejection (R101, R126). -/
def Device.tileErr (d : Device) (t k reason : Nat) : Device :=
  ((d.set (Reg.TILE_CFG_ERR_REASON t) reason).set (Reg.TILE_CFG_ERR_LANE t) k).inc (Reg.TILE_CFG_ERR_COUNT t)

/-- The instance of a counter's event lies in its range (R567, R568). -/
def instOk (mode event inst : Nat) : Bool :=
  if mode = 0 then
    match event with
    | 0x01 | 0x0C | 0x0D => inst == 0
    | 0x02 | 0x03 | 0x10 => decide (inst < 512)
    | 0x04 => decide (inst < 1024) && decide (inst % 64 < 48)
    | 0x05 | 0x06 | 0x07 | 0x14 | 0x15 => decide (inst < 8256)
    | 0x08 | 0x09 => decide (inst < 64)
    | 0x0A | 0x0B => decide (inst < 16)
    | 0x0E | 0x0F => decide (inst < 4096)
    | 0x11 => decide (inst < 32)
    | 0x12 | 0x13 => decide (inst < 128)
    | _ => false
  else
    match event with
    | 0x40 | 0x41 => decide (inst < 8256)
    | 0x42 | 0x46 | 0x47 | 0x48 => inst == 0
    | 0x43 | 0x44 => decide (inst < 64)
    | 0x45 | 0x4A => decide (inst < 16)
    | 0x49 => decide (inst < 512)
    | 0x4B => decide (inst < 8256)
    | _ => false

/-- A write of PMC_TEL_k CFG is refused (R570). -/
def Device.telBad (d : Device) (k v : Nat) : Bool :=
  let count := bits v 30 26
  bit v 31 && (decide (256 < bits v 25 18 + count) || count == 0 || decide (30 < count)
    || decide (bits v 17 14 < 4) || decide (d.rd (Reg.PMC_TEL_PERIOD k) < 10))

/-- A write leaves a mirror session that R293 refuses. -/
def mirBad (w0 w1 : Nat) : Bool :=
  let kind := bits w0 31 30
  ((kind == 1 || kind == 2) && decide (514 < bits w0 29 20)) || (kind == 2 && decide (64 < bits w1 31 25))

/-- BAD_WRITE of a slice (R284, R293). -/
def Device.badWrite (d : Device) (s : Nat) : Device := d.put (Reg.REP_STATUS_BAD_WRITE s) true

/-- A tile's own check (R101, R108). DESIGN CHOICE: TILE_CFG_ERR.LANE is 0 after a rejected write of TILE_TXMAP, which names no lane. -/
def Device.judgeTile (d : Device) (off new : Nat) : Option Refuse :=
  let t := (off - 0x800000) / 0x10000
  let o := off % 0x10000
  if o = 8 then if d.txmapOk t new then none else some ⟨.rejected, 5, fun d => d.tileErr t 0 5⟩
  else if 0x100 ≤ o ∧ o < 0x120 then
    let k := (o - 0x100) / 4
    let v := cfgNorm new
    let r := if cfgEn v then d.portReason (8 * t + k) v else 0
    if r = 0 then none else some ⟨.rejected, r, fun d => d.tileErr t k r⟩
  else none

/-- The check of R361. -/
def Device.judgePrt (d : Device) (off new : Nat) : Option Refuse :=
  if off < 0x71800 then
    let p := (off - 0x71000) / 4
    let r := d.bindReason p new
    if r = 0 then none else some ⟨.rejected, r, fun d => d.badBind r p⟩
  else if 0x78000 ≤ off ∧ off % 8 = 0 then
    let g := (off - 0x78000) / 8
    let r := d.grpReason g new
    if r = 0 then none else some ⟨.rejected, r, fun d => d.badBind r g⟩
  else none

/-- The checks of R337. -/
def Device.judgeJfl (d : Device) (off new : Nat) : Bool :=
  let t := (off - 0xF02000) / 16
  if off < 0xF02000 ∨ 0xF03000 ≤ off then false
  else if off % 16 = 0 then !d.trunkOk t new (d.rd (Reg.JFL_TRUNK_MEMBERS t))
  else if off % 16 = 4 then d.trunkChanging t || !d.trunkOk t (d.rd (Reg.JFL_TRUNK_CFG t)) new
  else false

/-- The check of R293. -/
def Device.judgeMir (d : Device) (off new : Nat) : Bool :=
  let n := (off - 0xD04000) / 0x80
  if off % 0x80 = 0 then mirBad new (d.rd (Reg.MIR_SESSION_W1 n))
  else if off % 0x80 = 4 then mirBad (d.rd (Reg.MIR_SESSION_W0 n)) new
  else false

/-- A refusal by the block without a mark of its own. -/
def refuseIf (b : Bool) (note : Device → Device := id) : Option Refuse := if b then some ⟨.rejected, 0, note⟩ else none

/-- The block's own check of a write (R461, REJECTED). -/
def Device.judge (d : Device) (w : WriteIn) : Option Refuse :=
  let off := w.base
  if 0x800000 ≤ off ∧ off < 0xC00000 then d.judgeTile off w.new
  else if 0x71000 ≤ off ∧ off < 0x80000 then d.judgePrt off w.new
  else if 0xF00000 ≤ off ∧ off < 0x1000000 then refuseIf (d.judgeJfl off w.new)
  else if 0xD04000 ≤ off ∧ off < 0xD04800 then refuseIf (d.judgeMir off w.new) fun d => d.badWrite 0
  else if 0xC00000 ≤ off ∧ off < 0xD00000 ∧ off % 0x10000 = 0x5010 then
    refuseIf (bit w.inc 31 && d.oldBusy (w.inc % 65536)) fun d => d.badWrite ((off - 0xC00000) / 0x10000)
  else if 0x431000 ≤ off ∧ off < 0x432000 then
    let st := d.stackState ((off - 0x431000) / 0x400)
    refuseIf (st == 1 || st == 2)
  else if 0x200000 ≤ off ∧ off < 0x400000 then refuseIf (d.hqBad off w.new)
  else if 0x400100 ≤ off ∧ off < 0x400180 then refuseIf (d.chanBad ((off - 0x400100) / 4) w.new)
  else if 0x411000 ≤ off ∧ off < 0x411500 then
    refuseIf (d.poolResvBad ((off - 0x411000) / 16) (off % 16 / 4) (w.new % 8192))
  else if 0x50000 ≤ off ∧ off < 0x50400 then refuseIf (!instOk (bits w.new 30 30) (bits w.new 29 22) (bits w.new 21 8))
  else if 0x52000 ≤ off ∧ off < 0x52080 ∧ off % 32 = 0 then refuseIf (d.telBad ((off - 0x52000) / 32) w.new)
  else none

/-! ### Snapshots (R471, R472) -/

/-- The set of a counter word and the offset of its holding copy. -/
def snapOf (off : Nat) : Option (Nat × Nat) :=
  let inR (lo n : Nat) : Bool := decide (lo ≤ off) && decide (off < lo + n)
  let o := off % 0x10000
  if inR 0x8000 0x40 || inR 0x60100 0x80 || inR 0x70200 0x80 || inR 0x72100 0x80 || inR 0x420200 0x80
      || inR 0x430100 0x80 then some (4, off + 0x80)
  else if inR 0x50800 0x800 then some (5, off + 0x800)
  else if inR 0x800000 0x400000 && decide (0x4000 ≤ o) && decide (o < 0xC000) && decide (0x800 ≤ o % 0x1000)
      && decide (o % 0x1000 < 0xC00) then some (0, off + 0x400)
  else if inR 0xC00000 0x100000 && (o / 0x80 == 0x4500 / 0x80 || o / 0x80 == 0x5100 / 0x80) then some (1, off + 0x80)
  else if inR 0xD00100 0x80 || inR 0xEC0100 0x80 || inR 0xF00100 0x80 then some (1, off + 0x80)
  else if inR 0xD07000 0x400 then some (1, off + 0x400)
  else if inR 0x1000100 0x80 then some (2, off + 0x80)
  else if inR 0xD82000 0x2000 then some (3, off + 0x2000)
  else if inR 0xDC0000 0x40000 then some (3, off - 0x38000)
  else none

/-- The counter word that a holding copy belongs to, with its set. -/
def holdingOf (off : Nat) : Option Nat :=
  let back (src : Nat) : Option Nat := match snapOf src with | some (s, o) => if o = off then some s else none | none => none
  (((back (off - 0x80)).or (back (off - 0x400))).or (back (off - 0x800))).or
    ((back (off - 0x2000)).or (back (off + 0x38000)))

/-- The four words of a stamp in the form of R412. -/
def stampWords (t : Nat) : List Nat :=
  [tmSec t % 2 ^ 32, tmSec t / 2 ^ 32 % 2 ^ 32, tmNs t + 2 ^ 31, tmFrac t]

/-- A write of GLB_SNAP_CMD (R472). -/
def Device.snapshot (d : Device) (sets : Nat) : Device :=
  let sets := sets % 256
  if sets % 64 = 0 then d
  else if d.flag Reg.GLB_SNAP_EPOCH_BUSY then (d.put Reg.GLB_SNAP_EPOCH_SNAP_LOST true).inc (Reg.GLB_STAT_COUNT 6)
  else
    let d := ((d.inc (Reg.GLB_STAT_COUNT 5)).inc Reg.GLB_SNAP_EPOCH_EPOCH).set Reg.GLB_SNAP_EPOCH_SETS sets
    let ws := stampWords d.tod
    let d := d.each (List.range 4) fun d i => d.wr (Reg.GLB_SNAP_TS i) (ws.getD i 0)
    let snap := d.regs.filterMap fun e => match snapOf e.1 with
      | some (s, o) => if bit sets s then some (o, e.2) else none
      | none => none
    (d.put Reg.GLB_SNAP_EPOCH_BUSY true).onBus fun b => { b with
      snap := snap.foldl (fun m e => mset (fun _ => 0) m e.1 e.2) [] }

/-- Every holding copy of the selected sets has been written (R472). -/
def Device.snapDone (d : Device) : Device :=
  if d.flag Reg.GLB_SNAP_EPOCH_BUSY then
    let sets := d.get Reg.GLB_SNAP_EPOCH_SETS
    let keep := d.regs.filter fun e => match holdingOf e.1 with | some s => !bit sets s | none => true
    let d := { d with regs := keep }
    let d := d.each d.bus.snap fun d e => d.wr e.1 e.2.toNat
    (d.onBus fun b => { b with snap := [] }).put Reg.GLB_SNAP_EPOCH_BUSY false
  else d

/-! ### Audit of writes (R464, R551) -/

/-- An address that R464 exempts: GLB_SNAP_CMD, GLB_SCRATCH, the CTRL and ADDR registers of windows, queue pages. -/
def auditExempt (off : Nat) : Bool :=
  let o := off % 0x10000
  off == Reg.GLB_SNAP_CMD || off == Reg.GLB_SCRATCH
    || ([Reg.AUD_IND_CTRL, Reg.AUD_IND_ADDR, Reg.LDG_IND_CTRL, Reg.LDG_IND_ADDR, Reg.DST_IND_CTRL, Reg.DST_IND_ADDR,
      Reg.BUF_IND_CTRL, Reg.BUF_IND_ADDR, Reg.JFL_IND_CTRL, Reg.JFL_IND_ADDR, Reg.MRV_IND_CTRL, Reg.MRV_IND_ADDR]).contains off
    || (decide (0xC00000 ≤ off) && decide (off < 0xD00000)
      && ([0x1040, 0x1044, 0x4400, 0x4404, 0x5000, 0x5004]).contains o)
    || (decide (0x200000 ≤ off) && decide (off < 0x400000) && decide (off % 0x1000 < 0x100) && off % 0x1000 != 0x40)

/-- A record of a requester's own; the writes of an image are audited by its record alone (R57, R548). -/
def Device.auditBy (d : Device) (rq : Requester) (kind : Nat) (body : List Byte) : Device :=
  if rq = .image then d else d.recordBy rq kind false body

/-- The audit ring takes a record of this requester (R464, R555). -/
def Device.mayLog (d : Device) (rq : Requester) : Bool := rq == .image || d.canLog

/-- The body of a REG record (R551). -/
def regBody (off : Nat) (wide viaBit : Bool) (new old : Nat) : List Byte :=
  leBytes 4 (off + 2 ^ 31 * b2n wide + 2 ^ 30 * b2n viaBit) ++ leBytes 4 new
    ++ leBytes 4 (if wide then new / 2 ^ 32 else old)

/-- A replicated location (R374): the offset of a register. -/
def replicated (off : Nat) : Bool :=
  let o := off % 0x10000
  if 0x800000 ≤ off ∧ off < 0xC00000 then
    (decide (0x100 ≤ o) && decide (o < 0x120)) || (decide (0x140 ≤ o) && decide (o < 0x160)) || decide (0x4000 ≤ o)
  else decide (0xC00000 ≤ off) || (decide (0x71000 ≤ off) && decide (off < 0x80000))

/-- What keeps a replicated change of `n` records from being made (R377, R379). -/
def Device.replBars (d : Device) (rq : Requester) (n : Nat := 1) : Option Refuse :=
  if d.role = roleStandby then (if rq = .punty then none else some { reason := .standby })
  else if d.role = roleActive ∧ !d.replRoom n then
    some { reason := .replFull, note := fun d => d.inc (Reg.UNT_STAT_COUNT 8) }
  else none

/-- What keeps a change from being made: no room in the audit ring, or its replication. -/
def Device.barred (d : Device) (rq : Requester) (audited repl : Bool) (n : Nat := 1) : Option Refuse :=
  if audited && !d.mayLog rq then some { reason := .auditFull }
  else if repl then d.replBars rq n
  else none

/-! ### What blocks do with a write -/

/-- Store a register's new value. -/
def Device.storeReg (d : Device) (w : WriteIn) : Device := if w.wide then d.wr64 w.base w.new else d.wr w.base w.new

/-- TILE, LANE and MAC. A port written during a survey is not resolved by it (R88). -/
def Device.storeTile (d : Device) (w : WriteIn) : Device :=
  let t := (w.base - 0x800000) / 0x10000
  let o := w.base % 0x10000
  if o = 8 then d.txmapWrite t w.new
  else if 0x100 ≤ o ∧ o < 0x120 then
    let p := 8 * t + (o - 0x100) / 4
    let v := cfgNorm w.new
    let d := d.when (cfgEn v && (!cfgEn w.old || (bit w.old 10 && !bit v 10))) fun d => d.wakeAsk t
    (d.portWrite p v).onSurvey fun s => { s with
      resolve := s.resolve.filter (· != p),
      waiting := if cfgEn v || !bit v 12 then s.waiting.filter (· != p) else s.waiting }
  else if 0x140 ≤ o ∧ o < 0x160 then (d.storeReg w).shedShow (8 * t + (o - 0x140) / 4)
  else if 0x1000 ≤ o ∧ o < 0x1800 ∧ o % 0x100 = 0 then
    let d := d.when (bits w.new 5 2 != 0) fun d => d.wakeAsk t
    d.laneCtrlWrite t ((o - 0x1000) / 0x100) w.new
  else if 0x4000 ≤ o ∧ o < 0xC000 ∧ o % 0x1000 = 0 then
    let p := 8 * t + (o - 0x4000) / 0x1000
    let d := (d.storeReg w).reserveSet p
    if bits w.old 31 30 ≠ bits w.new 31 30 then d.fcModeChange p (bits w.old 31 30) else d
  else if o = 0xC004 then (d.storeReg w).gatherShow t
  else d.storeReg w

/-- The digest of a group's version (R284): its TILES words and the member-list entries of every tile. -/
def Device.groupDigest (d : Device) (g v : Nat) : Nat :=
  let ts := (List.range 2).map fun i => mget (fun _ => (0 : Word)) d.path.grp (4 * g + 2 * v + i)
  let ls := (List.range 64).map fun t => mget (fun _ => (0 : Word)) d.path.lists (131072 * t + 2 * g + v)
  crc32c ((ts ++ ls).flatMap fun w => leBytes 4 w.toNat)

/-- A commit of a group (R284). -/
def Device.groupCommit (d : Device) (rq : Requester) (g : Nat) : Device :=
  let old := d.groupCur g
  let new := 1 - old
  let d := d.onPath fun p => { p with cur := nset p.cur g new,
                                      oldBusy := mset (fun _ => false) p.oldBusy g (d.groupInflight g old != 0) }
  d.auditBy rq 5 (batchBody 8 0 1 g new (d.groupDigest g new))

/-- PRS, CLS, MTR and REP. -/
def Device.storeSlice (d : Device) (w : WriteIn) : Device :=
  if w.base % 0x10000 = 0x5010 then (if bit w.inc 31 then d.groupCommit w.rq (w.inc % 65536) else d)
  else if isGrpState w.base then d.set (Reg.REP_GRP_STATE_SEL 0) (w.new % 65536)
  else d.storeReg w

/-- XBR and MIR: a write of SAMPLE restarts its count (R290). -/
def Device.storeXbr (d : Device) (w : WriteIn) : Device :=
  let d := d.storeReg w
  if 0xD04000 ≤ w.base ∧ w.base < 0xD04800 ∧ w.base % 0x80 = 0 then
    d.onPath fun p => { p with mirCnt := nset p.mirCnt ((w.base - 0xD04000) / 0x80) 0 }
  else d

/-- A group of a logical port changes level or mode (R319). -/
def Device.groupModes (d : Device) (l old new : Nat) : Device :=
  d.each (List.range 4) fun d g =>
    let a := bits old (2 * g + 1) (2 * g)
    let b := bits new (2 * g + 1) (2 * g)
    let d := if a = b then d else d.onPath fun p => { p with
      defG := nset p.defG (4 * l + g) 0,
      setG := mset (fun _ => {}) (mset (fun _ => {}) p.setG (4 * l + a) {}) (4 * l + b) {} }
    if bit old (8 + g) = bit new (8 + g) then d else d.onPath fun p => { p with
      defQ := (List.range 4).foldl (fun m i => nset m (16 * l + 4 * g + i) 0) p.defQ,
      setQ := mupd (fun _ => {}) p.setQ (4 * l + g) fun x => { x with credited := false } }

/-- EGR and SHP (R319). -/
def Device.storeEgr (d : Device) (w : WriteIn) : Device :=
  let l := (w.base - 0xE00000) / 0x400
  let o := w.base % 0x400
  if 0xE81000 ≤ w.base then d.storeReg w
  else if o = 0 then (d.storeReg w).groupModes l w.old w.new
  else if 0x100 ≤ o ∧ o < 0x1A8 ∧ o % 8 = 0 ∧ !bit w.old 31 ∧ bit w.new 31 then
    (d.storeReg w).onPath fun p => { p with shpFill := mset (fun _ => false) p.shpFill (21 * l + (o - 0x100) / 8) true }
  else d.storeReg w

/-- JFL. -/
def Device.storeJfl (d : Device) (w : WriteIn) : Device :=
  if w.base = Reg.JFL_CFG then
    let d := d.storeReg w
    if bits w.old 23 0 ≠ bits w.new 23 0 then d.identityChange else d
  else if 0xF02000 ≤ w.base ∧ w.base < 0xF03000 then
    let t := (w.base - 0xF02000) / 16
    if w.base % 16 = 0 then d.trunkCfgWrite t w.new
    else if w.base % 16 = 4 then d.trunkMembersWrite t w.new
    else d.storeReg w
  else d.storeReg w

/-- MRV: turning removal on makes the next sweep a first one, and the bucket is capped at its new depth (R204, R216). -/
def Device.storeMrv (d : Device) (w : WriteIn) : Device :=
  let d := d.storeReg w
  if w.base = Reg.MRV_AGE_CFG ∧ bits w.old 14 0 = 0 ∧ bits w.new 14 0 ≠ 0 then
    d.onMrv fun m => { m with firstSweep := true }
  else if w.base = Reg.MRV_LEARN_CFG then d.onMrv fun m => { m with tokens := min d.learnDepth m.tokens }
  else d

/-- BUF: CTRL_RESV starts a recompute (R265); the capture bucket is no deeper than RATE (R263, R268). -/
def Device.storeBuf (d : Device) (w : WriteIn) : Device :=
  let d := d.storeReg w
  if w.base = Reg.BUF_CFG then d.recomputeStart
  else if w.base = Reg.BUF_DMIR_CFG then d.onPath fun p => { p with dmirTok := min (d.get Reg.BUF_DMIR_CFG_RATE) p.dmirTok }
  else d

/-- UNT and PRT. -/
def Device.storeUnt (d : Device) (w : WriteIn) : Device :=
  if w.base = Reg.UNT_PUNTY_CFG then (d.storeReg w).puntyDown
  else if w.base = Reg.UNT_TENSION_CFG then d.tensKeep.storeReg w
  else if 0x70100 ≤ w.base ∧ w.base < 0x70140 then
    let d := d.storeReg w
    d.each (bitsSet 32 w.inc) fun d i => d.onUnit fun u => { u with win := lset u.win (8 * (w.base - 0x70100) + i) [] }
  else if 0x71000 ≤ w.base ∧ w.base < 0x71800 then d.bindWrite ((w.base - 0x71000) / 4) w.new
  else if 0x78000 ≤ w.base ∧ w.base % 8 = 0 then d.grpWrite ((w.base - 0x78000) / 8) w.new
  else d.storeReg w

/-- TIM. TIM_OFFSET acts at a write of its upper word or of all of it (R428). -/
def Device.storeTim (d : Device) (w : WriteIn) (upper : Bool) : Device :=
  let d := d.storeReg w
  if w.base = Reg.TIM_SET_W3 then d.todStep
  else if w.base = Reg.TIM_OFFSET then (if upper then d.offsetWrite.2 else d)
  else if w.base = Reg.TIM_CTRL then d.timCtrl w.inc
  else if Reg.TIM_SYNCE 0 ≤ w.base ∧ w.base < Reg.TIM_SYNCE 2 then d.synce ((w.base - Reg.TIM_SYNCE 0) / 4)
  else d

/-- HQ: doorbells (R486, R487). -/
def Device.storeHq (d : Device) (w : WriteIn) : Device :=
  let n := (w.base - 0x200000) / 0x1000
  let o := w.base % 0x1000
  if o = 0x10 then d.sqDoorbell n w.inc
  else if o = 0x30 then d.cqDoorbell n w.inc
  else d.storeReg w

/-- POOL: allocation and free (R521, R522). -/
def Device.storePool (d : Device) (w : WriteIn) : Device :=
  match poolWindow w.base with
  | none => d.storeReg w
  | some o =>
    if w.base % 16 = 0 then d.poolAlloc o (w.inc % 2 ^ 15)
    else if w.base % 16 = 4 then d.poolFree o w.inc
    else d.storeReg w

/-- GLB, AUD, SRV, LDG, DMA, SVC, DST and the rest. -/
def Device.storeSmall (d : Device) (w : WriteIn) : Device :=
  if w.base = Reg.GLB_SNAP_CMD then d.snapshot w.inc
  else if w.base = Reg.SRV_CTRL then
    let d := d.storeReg w
    if bit w.inc 31 then d.surveyStart w.rq else d
  else if 0x30100 ≤ w.base ∧ w.base < 0x30200 ∧ w.base % 8 = 4 then (d.storeReg w).limitsSet ((w.base - 0x30100) / 8)
  else if w.base = Reg.LDG_CTRL then
    let d := d.storeReg w
    if bit w.inc 31 then d.ckptNow else d
  else if 0x52000 ≤ w.base ∧ w.base < 0x52080 ∧ w.base % 32 = 0 then (d.storeReg w).telStop ((w.base - 0x52000) / 32)
  else if 0x400200 ≤ w.base ∧ w.base < 0x400300 then
    (d.storeReg w).lineMoved d ((w.base - 0x400200) / 4)
  else if w.base = Reg.DST_STACK_CMD then d.stackCommand (bits w.inc 5 4) (bits w.inc 3 0)
  else d.storeReg w

/-- A write that has passed every check takes effect in its block. -/
def Device.store (d : Device) (w : WriteIn) (upper : Bool) : Device :=
  let off := w.base
  if 0x1000000 ≤ off then d.storeMrv w
  else if 0xF00000 ≤ off then d.storeJfl w
  else if 0xE00000 ≤ off then d.storeEgr w
  else if 0xD80000 ≤ off then d.storeBuf w
  else if 0xD00000 ≤ off then d.storeXbr w
  else if 0xC00000 ≤ off then d.storeSlice w
  else if 0x800000 ≤ off then d.storeTile w
  else if 0x410000 ≤ off ∧ off < 0x420000 then d.storePool w
  else if 0x200000 ≤ off ∧ off < 0x400000 then d.storeHq w
  else if 0x70000 ≤ off ∧ off < 0x80000 then d.storeUnt w
  else if 0x60000 ≤ off ∧ off < 0x70000 then d.storeTim w upper
  else d.storeSmall w

end Sys2Proof.Machine
end

