-- ==== Sys2Proof/Machine/Bus.lean ====
section
/-!
DEFINITION. Writes on the register bus: plain registers, indirect windows, complement pairs and bit words (R460 to R469).
-/
namespace Sys2Proof.Machine

/-! ### Indirect windows -/

/-- A change made through a window is replicated as a write of ADDR and one of DATA (R374). -/
def Device.winRepl (d : Device) (w : Win) (a data : Nat) : Device :=
  (d.replPush (replRecord 1 0 w.addr (beBytes 4 a ++ beBytes 4 0))).replPush
    (replRecord 1 0 w.data (beBytes 4 data ++ beBytes 4 0))

/-- A change through a window, made unless something bars it. `f` makes it and writes its audit record. -/
def Device.winDo (d : Device) (rq : Requester) (w : Win) (a data : Nat) (audited : Bool) (f : Device → Device) :
    Except Refuse Device :=
  match d.barred rq audited (w != .dst) 2 with
  | some r => .error r
  | none => .ok ((f d).when (w != .dst) fun d => d.winRepl w a data)

/-- An IND record (R551). -/
def Device.indRecord (d : Device) (rq : Requester) (blk s a data : Nat) : Device :=
  d.auditBy rq 4 (leBytes 1 blk ++ leBytes 1 s ++ leBytes 2 0 ++ leBytes 4 a ++ leBytes 4 data)

/-- A word of a queue (R271): RESV_MIN, DEEP_MIN and RANK start a recompute. -/
def Device.bufWrite (d : Device) (rq : Requester) (a data : Nat) : Except Refuse Device :=
  let w := a % 16
  if 8256 ≤ a / 16 ∨ 5 ≤ w then .ok d
  else
    let m := [0xFFFF8000, 0xFFFFF, 0xFFFFF, 0x1FFFF, 0xFFFFF].getD w 0
    d.winDo rq .buf a data true fun d =>
      let d := d.onPath fun p => { p with qcfg := mset qcfgDflt p.qcfg a (BitVec.ofNat 32 (data &&& m)) }
      let d := d.indRecord rq 3 0 a data
      if w = 0 ∨ w = 1 ∨ w = 3 then d.recomputeStart else d

/-- A word of the rule table (R167, R169, R171, R172). -/
def Device.ruleWrite (d : Device) (rq : Requester) (s a data : Nat) : Except Refuse Device :=
  let r := a / 64
  let w := a % 64
  let valid := nget d.rules.valid r
  if w < 44 then
    d.winDo rq (.cls s) a data (valid != 0) fun d =>
      let d := d.onRules fun t => { t with word := mset (fun _ => 0) t.word a (BitVec.ofNat 32 data) }
      if valid = 0 then d else
        let d := (d.onRules fun t => { t with valid := nset t.valid r 0 }).put (Reg.CLS_STATUS_AUTO_INVAL s) true
        d.auditBy rq 5 (batchBody 5 0 1 r 0 0)
  else if w = 48 ∨ w = 49 then
    let h := nget d.rules.hit (65536 * s + r)
    let h := if w = 48 then withBits h 31 0 data else withBits h 47 32 data
    .ok (d.onRules fun t => { t with hit := nset t.hit (65536 * s + r) h })
  else if w = 63 then
    if bit data 0 && (d.rules.action r).bad then
      .error { reason := .rejected, note := fun d => d.put (Reg.CLS_STATUS_BAD_RULE s) true }
    else
      d.winDo rq (.cls s) a data true fun d =>
        let d := d.onRules fun t => { t with valid := nset t.valid r (if bit data 0 then 0xFFFF else 0) }
        d.auditBy rq 5 (batchBody 4 0 1 r 0 (d.rules.digest r (data % 2)))
  else .ok d

/-- A word of a meter (R233, R234, R236). `hw` says that hardware updates the field in the clock of the write. -/
def Device.meterWrite (d : Device) (rq : Requester) (hw : Bool) (s a data : Nat) : Except Refuse Device :=
  let m := a / 32
  let w := a % 32
  let id := 16384 * s + m
  if w < 3 then d.winDo rq (.mtr s) a data false fun d => d.meterStageWrite s w data
  else if w = 3 then
    d.winDo rq (.mtr s) a data true fun d =>
      let ws := (d.meterStage s).take 3 ++ [data % 2 ^ 24]
      (d.meterCommit s m data).auditBy rq 5 (batchBody 6 0 1 id 0 (crc32c (ws.flatMap (leBytes 4))))
  else if w = 8 then
    if hw then .ok (d.put (Reg.MTR_STATUS_OVERRIDE_LOST s) true)
    else d.winDo rq (.mtr s) a data false fun d => d.meterLoad s m w data
  else if w = 4 ∨ w = 6 ∨ (16 ≤ w ∧ w < 28 ∧ w % 2 = 0) then
    d.winDo rq (.mtr s) a data false fun d => d.meterHold s w data
  else if w = 5 ∨ w = 7 ∨ (16 ≤ w ∧ w < 28) then
    if hw && decide (w < 8) then .ok (d.put (Reg.MTR_STATUS_OVERRIDE_LOST s) true)
    else
      d.winDo rq (.mtr s) a data true fun d =>
        let v := nget d.meters.even (32 * s + (w - 1)) + 2 ^ 32 * (data % 2 ^ 16)
        (d.meterLoad s m w data).auditBy rq 5 (batchBody 7 0 1 id w (crc32c (leBytes 6 v)))
  else .ok d

/-- A write to a group's version is rejected: it is current, or frames that captured it remain (R284). -/
def Device.versionBusy (d : Device) (g v : Nat) : Bool :=
  v == d.groupCur g || d.oldBusy g || d.groupInflight g v != 0

/-- The PORT of a member record of a tile is allowed (R283). -/
def memberOk (t port : Nat) : Bool :=
  port / 8 == t || (t == 0 && (port == 512 || port == 513 || port == 515))

/-- A word of the multicast tables (R282 to R284, R298). -/
def Device.repWrite (d : Device) (rq : Requester) (s a data : Nat) : Except Refuse Device :=
  let no : Except Refuse Device := .error { reason := .rejected, note := fun d => d.badWrite s }
  let go := fun (f : Path → Path) => d.winDo rq (.rep s) a data true fun d => (d.onPath f).indRecord rq 4 s a data
  if a < 0x40000 then
    if d.versionBusy (a / 4) (a / 2 % 2) then no
    else go fun p => { p with grp := mset (fun _ => 0) p.grp a (BitVec.ofNat 32 data) }
  else if a < 0xC0000 then
    let t := 4 * s + (a - 0x40000) / 0x20000
    let e := a % 0x20000
    if d.versionBusy (e / 2) (e % 2) || decide (16384 < bits data 18 5 + bits data 4 0) then no
    else go fun p => { p with lists := mset (fun _ => 0) p.lists (131072 * t + e) (BitVec.ofNat 32 (data % 2 ^ 19)) }
  else if a < 0xD0000 then
    let t := 4 * s + (a - 0xC0000) / 0x4000
    if !memberOk t (bits data 29 20) then no
    else go fun p => { p with
      members := mset (fun _ => 0) p.members (16384 * t + a % 0x4000) (BitVec.ofNat 32 (data &&& 0x3FFFFFE0)) }
  else go id

/-- A word of the test window (R450). -/
def Device.dstWrite (d : Device) (rq : Requester) (a data : Nat) : Except Refuse Device :=
  if d.stackState (slotStack (a / 64)) ≠ 4 then .ok (d.put Reg.DST_STATUS_TEST_REJ true)
  else
    d.winDo rq .dst a data true fun d =>
      let st := mset (fun _ => 0) d.deep.staged (a % 64) (BitVec.ofNat 32 data)
      let bs := (List.range 64).flatMap fun i => leBytes 4 (mget (fun _ => (0 : Word)) st i).toNat
      let d := d.onDst fun x => { x with staged := st,
                                         mem := if a % 64 = 63 then lset x.mem (a / 64) bs else x.mem }
      d.indRecord rq 6 0 a data

/-- A write of a DATA register (R470): it acts at ADDR, which then advances whatever the block does with it. -/
def Device.winWrite (d : Device) (rq : Requester) (hw : Bool) (w : Win) (data : Nat) : Except Refuse Device :=
  let a := d.winAddr w
  let r : Except Refuse Device := match w with
    | .buf => d.bufWrite rq a data
    | .cls s => d.ruleWrite rq s a data
    | .mtr s => d.meterWrite rq hw s a data
    | .rep s => d.repWrite rq s a data
    | .dst => d.dstWrite rq a data
    | _ => .ok d
  match r with
  | .ok d => .ok (d.winNext w)
  | .error e => .error { e with note := fun d => (e.note d).winNext w }

/-! ### Registers -/

/-- A requester whose write is refused before ready (R59), for an offset. -/
def Device.bootBars (d : Device) (rq : Requester) (off : Nat) : Bool :=
  d.inCastOn && (match rq with
    | .pf0 _ => !(off / 8 * 8 == Reg.GLB_BOOT_CTRL || off == Reg.GLB_LOCK || off / 8 * 8 == Reg.GLB_LOCK_REL)
    | .vf _ _ | .gaffer _ | .jarlis _ => true
    | _ => false)

/-- A Cullet counter of a reserved code, 39 to 47 (R262, R272). -/
def reservedCullet (base : Nat) : Bool :=
  (decide (Reg.BUF_CULLET_SLC 0 0 ≤ base) && decide (base < Reg.BUF_CULLET_SLC 16 0)
    && decide (39 ≤ (base - Reg.BUF_CULLET_SLC 0 0) % 0x180 / 8))
  || (decide (Reg.BUF_CULLET_PORT 0 0 ≤ base) && decide (base < Reg.BUF_CULLET_PORT 516 0)
    && decide (39 ≤ (base - Reg.BUF_CULLET_PORT 0 0) % 0x180 / 8))

/-- A register of an array that is reserved and reads 0: lines 40 to 63 of DMA_LINE (R524), the last counter of PRT_STAT,
EGR_STAT, XBR_STAT and MTR_STAT (R405, R326, R297, R243), and the Cullet counters of reserved codes. -/
def reservedReg (base : Nat) : Bool :=
  (decide (Reg.DMA_LINE 40 ≤ base) && decide (base < Reg.DMA_LINE 64)) || base == Reg.PRT_STAT 3 || base == Reg.EGR_STAT 3
    || base == Reg.XBR_STAT 7 || reservedCullet base
    || (decide (Reg.MTR_STAT 0 7 ≤ base) && decide (base ≤ Reg.MTR_STAT 15 7) && base % 0x10000 == Reg.MTR_STAT 0 7 % 0x10000)

/-- The bits of a row that a write replaces: a reserved register takes none. -/
def RegRow.data (r : RegRow) (base : Nat) : Nat := if reservedReg base then 0 else r.rw ||| r.rwl ||| r.ctr

/-- What a write of the bits `inc` under the mask `t` makes of a register (R15). -/
def RegRow.next (r : RegRow) (base old inc t : Nat) : Nat :=
  let wr := r.data base &&& t
  maskOut ((maskOut old wr ||| (inc &&& wr)) ||| (r.w1s &&& inc)) (r.w1c &&& inc)

/-- A write is audited (R464): it touches an RW, RWL, W1S or WO field. An offset is audited when it steps ToD (R417). -/
def Device.audits (d : Device) (r : RegRow) (w : WriteIn) (t : Nat) (upper : Bool) : Bool :=
  if w.base = Reg.TIM_OFFSET then upper && (d.storeReg w).offsetWrite.1
  else ((r.data w.base &&& maskOut t r.ctr) ||| ((r.w1s ||| r.wo) &&& t)) != 0 && !auditExempt w.base

/-- A write that nothing refuses: its audit record, its replication and its effect. The record of a commit and that of a step
of time follow what they record. -/
def Device.perform (d : Device) (w : WriteIn) (audited viaBit upper : Bool) (wo : Nat) : Device :=
  let new := w.new ||| (w.inc &&& wo)
  let late := w.base % 0x10000 == 0x5010 || (decide (0x60000 ≤ w.base) && decide (w.base < 0x70000))
  let log := fun (d : Device) =>
    let d := d.when audited fun d => d.auditBy w.rq 1 (regBody w.base w.wide viaBit new w.old)
    d.when (audited && replicated w.base) fun d => d.replPush
      (if w.wide then replRecord 2 0 w.base (beBytes 8 new) else replRecord 1 0 w.base (beBytes 4 new ++ beBytes 4 0))
  if late then log (d.store w upper) else (log d).store w upper

/-- One write to a register that is there: refused, or performed. `touch` masks the bits of the word that the write carries. -/
def Device.write1 (d : Device) (rq : Requester) (hw : Bool) (off size data touch : Nat) (viaBit : Bool) :
    Except Refuse Device :=
  match regAt off with
  | none => .error { reason := .reserved }
  | some (r, _, up) =>
    if d.bootBars rq off then .error { reason := .boot }
    else match winAt off with
    | some w => d.winWrite rq hw w (data % 2 ^ 32)
    | none =>
      if r.w64 && r.ctr != 0 && size == 4 then .error { reason := .size }
      else
        let base := if up then off - 4 else off
        let t := if up then touch * 2 ^ 32 else touch
        let inc := (if up then data % 2 ^ 32 * 2 ^ 32 else data % 2 ^ (8 * size)) &&& t
        let old := if isGrpState base then d.grpStateWord else if r.w64 then d.rd64 base else d.rd base
        let next := r.next base old inc t
        let new := if isGrpState base then d.grpStateOf (next % 65536) else next
        let w : WriteIn := ⟨rq, off, base, r.w64, old, new, inc⟩
        let upper := up || size == 8
        let audited := d.audits r w t upper
        if d.flag Reg.GLB_LOCK_LOCKED && ((old ^^^ w.new) &&& r.rwl) != 0 then .error { reason := .locked }
        else match (d.judge w).or (d.barred rq audited (audited && replicated base)) with
        | some e => .error e
        | none => .ok (d.perform w audited viaBit upper r.wo)

/-! ### Complement pairs (R467, R468) -/

/-- How an access of the register bus ends: performed, a bus error, or a rejected pair. -/
inductive BusResult where
  | ok
  | err (r : BusReason)
  | pair
  deriving DecidableEq, Repr

/-- A rejected attempt (R468, R478). -/
def Device.cpwReject (d : Device) (rq : Requester) (code addr data : Nat) : Device :=
  let d := (d.inc (Reg.GLB_STAT_COUNT 3)).put Reg.GLB_CPW_STATUS_REJ true
  let d := (d.set Reg.GLB_CPW_STATUS_REASON code).set Reg.GLB_CPW_STATUS_ORIGIN (originOf rq)
  let d := (d.set Reg.GLB_CPW_STATUS_ID (requesterId rq)).set Reg.GLB_CPW_ADDR_OFFSET addr
  d.auditReject rq addr data code 1 0

/-- The pending pair of a block. -/
def Device.pend (d : Device) (no : Nat) : Option CpwPend := mget (fun _ => none) d.bus.cpw no

/-- Store the pending pair of a block. -/
def Device.setPend (d : Device) (no : Nat) (p : Option CpwPend) : Device :=
  d.onBus fun b => { b with cpw := mset (fun _ => none) b.cpw no p }

/-- The number of the block of an offset. -/
def blockNo (off : Nat) : Nat := match mapRow off with | some r => r.no | none => 0

/-- Another write to a block rejects its pending pair (INTERLEAVED). -/
def Device.interleave (d : Device) (off : Nat) : Device :=
  match d.pend (blockNo off) with
  | none => d
  | some p => (d.cpwReject p.by_ 2 p.addr p.value).setPend (blockNo off) none

/-- A completed pair of GLB_BOOT_CTRL is refused (R68). -/
def bootCtrlBad (v : Nat) : Bool :=
  decide (3 < bits v 3 0) || bits v 5 4 == 3 || (bits v 3 0 == 3 && bits v 5 4 == 0)

/-- A completed pair of GLB_BLK_RST is refused (R475). -/
def Device.blkRstBad (d : Device) (v : Nat) : Bool :=
  !bit v 31 || decide (0x50 < bits v 7 0) || d.flag Reg.GLB_BLK_RST_STATUS_BUSY
    || (decide (bits v 7 0 < 0x40) && d.role == roleStandby)

/-- A completed pair of AUD_FUSE_PROG is refused (R574). -/
def Device.fuseProgBad (d : Device) (v : Nat) : Bool :=
  let cmd := bits v 3 0
  decide (cmd < 1) || decide (3 < cmd) || bit v 4 || d.flag Reg.GLB_LOCK_LOCKED || d.fuses.busy.isSome
    || (cmd == 1 && (d.fuses.otp.key (bits v 5 5)).isSome) || (cmd == 3 && decide (64 ≤ d.fuses.otp.svn))

/-- A completed pair is refused by its register's own rules (VALUE), with what that leaves (R392, R465, R468). DESIGN CHOICE: a pair of
GLB_LOCK_REL other than RELEASE 1 is refused too; R73 and R468 say only what the pair with V = 1 does. -/
def Device.pairBad (d : Device) (hw : Bool) (a v : Nat) : Option (Device → Device) :=
  let no := fun (b : Bool) => if b then some (fun (d : Device) => d) else none
  if a = Reg.GLB_RST_CTRL then no (decide (1 < bits v 3 0))
  else if a = Reg.GLB_BLK_RST then no (d.blkRstBad v)
  else if a = Reg.GLB_BOOT_CTRL then no (bootCtrlBad v)
  else if a = Reg.GLB_LOCK_REL then no (v != 1)
  else if a = Reg.UNT_ROLE_CMD then
    if hw then some fun d => d.put Reg.UNT_STATUS_OVERRIDE_LOST true else no (decide (3 < bits v 3 0))
  else if a = Reg.PRT_GRP_CMD then
    if hw then some fun d => d.put Reg.PRT_STATUS_OVERRIDE_LOST true else no (decide (7 < bits v 3 0))
  else if a = Reg.LDG_ERASE then no (d.eraseBad v)
  else if a = Reg.AUD_FUSE_PROG then no (d.fuseProgBad v)
  else none

/-- DEVICE_RESET (R474): a commanded-reset event and a checkpoint, then the assertion of SYS_RST_N. The pulse ends with the
release of SYS_RST_N. -/
def Device.deviceReset (d : Device) (rq : Requester) : Device :=
  ((d.event 7 (originOf rq) (originId rq)).ckptAtOnce).sysReset

/-- Programming of the fuses starts (R574). -/
def Device.fuseStart (d : Device) (v : Nat) : Device :=
  let stage := (List.range 12).flatMap fun w => leBytes 4 (d.rd (Reg.AUD_FUSE_STAGE w))
  { d with fuses := { d.fuses with busy := some (bits v 3 0, bits v 5 5), stage := stage } }.put Reg.AUD_FUSE_STATUS_BUSY true

/-- A command of GLB_BOOT_CTRL (R68). -/
def Device.bootCtrl (d : Device) (v : Nat) : Device :=
  let clr := bit v 8
  let slot := bits v 5 4
  let d := d.when clr fun d => d.clrFails (bits v 3 0 != 1)
  match bits v 3 0 with
  | 1 => d.recast (if slot = 0 then none else some (slot - 1)) clr
  | 2 => d.selvedge 0xC2 0
  | 3 => d.prefAppend (slot - 1)
  | _ => d

/-- A completed pair acts as one write of V. -/
def Device.pairStore (d : Device) (rq : Requester) (a v : Nat) : Device :=
  if a = Reg.GLB_RST_CTRL then (if bits v 3 0 = 1 then d.deviceReset rq else d)
  else if a = Reg.GLB_BLK_RST then d.blkReset (bits v 7 0)
  else if a = Reg.GLB_BOOT_CTRL then d.bootCtrl v
  else if a = Reg.GLB_LOCK_REL then d.put Reg.GLB_LOCK_LOCKED false
  else if a = Reg.GLB_FLASH_WE then d.wr Reg.GLB_FLASH_WE v
  else if a = Reg.UNT_ROLE_CMD then d.roleCommand (bits v 3 0)
  else if a = Reg.PRT_GRP_CMD then d.grpCommand (bits v 27 16) (bits v 3 0)
  else if a = Reg.MRV_SEED then d.seedWrite v
  else if a = Reg.LDG_ERASE then d.ledErase rq
  else if a = Reg.AUD_FUSE_PROG then d.fuseStart v
  else d

/-- A pair that is a replicated location: MRV_SEED, and PRT_GRP_CMD but for the SF commands (R374). -/
def pairRepl (a v : Nat) : Bool := a == Reg.MRV_SEED || (a == Reg.PRT_GRP_CMD && decide (bits v 3 0 < 4))

/-- A completed pair (R468): refused, barred, or performed and audited once. -/
def Device.pairDone (d : Device) (rq : Requester) (hw : Bool) (a v size data : Nat) : BusResult × Device :=
  let v := match regAt a with | some (r, _, _) => v &&& (r.cpw % 2 ^ 32) | none => 0
  match d.pairBad hw a v with
  | some note => (.pair, (note d).cpwReject rq 7 a v)
  | none =>
    match d.barred rq true (pairRepl a v) with
    | some e => (.err e.reason, (e.note d).refuseWrite rq a size data e.reason e.blk)
    | none =>
      let d := (d.inc (Reg.GLB_STAT_COUNT 2)).auditBy rq 2 (leBytes 4 a ++ leBytes 4 v)
      let d := d.when (pairRepl a v) fun d => d.replPush (replRecord 3 0 a (beBytes 4 v ++ beBytes 4 0))
      (.ok, d.pairStore rq a v)

/-- A write to a complement-pair register. -/
def Device.pairWrite (d : Device) (rq : Requester) (hw : Bool) (off size data : Nat) : BusResult × Device :=
  let a := off / 8 * 8
  let lo := data % 2 ^ 32
  let vf : Bool := match rq with | .vf _ _ => true | .jarlis _ => size == 4 | _ => false
  if vf then (.pair, (d.interleave off).cpwReject rq 5 a lo)
  else if size = 8 then
    let d := d.interleave off
    if data / 2 ^ 32 % 2 ^ 32 = 2 ^ 32 - 1 - lo then d.pairDone rq hw a lo size data
    else (.pair, d.cpwReject rq 3 a lo)
  else if off = a then (.ok, (d.interleave off).setPend (blockNo off) (some ⟨a, lo, rq⟩))
  else match d.pend (blockNo off) with
    | some p =>
      if p.addr = a ∧ p.by_ = rq then
        let d := d.setPend (blockNo off) none
        if lo = 2 ^ 32 - 1 - p.value then d.pairDone rq hw a p.value size data else (.pair, d.cpwReject rq 3 a lo)
      else (.pair, (d.interleave off).cpwReject rq 4 off lo)
    | none => (.pair, d.cpwReject rq 4 off lo)

/-- A pending pair whose second half has not come within 1 µs (TIMEOUT). -/
def Device.pairTimeout (d : Device) (no : Nat) : Device :=
  match d.pend no with
  | none => d
  | some p => (d.cpwReject p.by_ 1 p.addr p.value).setPend no none

/-! ### Writes -/

/-- The end of a write that is a bus error. -/
def Device.refused (d : Device) (rq : Requester) (off size data : Nat) (e : Refuse) : BusResult × Device :=
  (.err e.reason, (e.note d).refuseWrite rq off size data e.reason e.blk)

/-- A write of a word of the bit-alias region (R469). -/
def Device.bitWrite (d : Device) (rq : Requester) (off size data : Nat) : BusResult × Device :=
  let (at_, b) := bitWord off
  if size ≠ 4 then d.refused rq off size data { reason := .size }
  else match regAt at_ with
    | none => d.refused (rq := rq) off size data { reason := .reserved }
    | some (r, _, _) =>
      if d.bootBars rq at_ then (d.interleave at_).refused rq off size data { reason := .boot }
      else if r.cpw ≠ 0 then
        (.pair, ((d.interleave at_).cpwReject rq 6 (at_ / 8 * 8) data).inc (Reg.GLB_STAT_COUNT 7))
      else
        let d := d.interleave at_
        match d.write1 rq false at_ 4 (data % 2 * 2 ^ b) (2 ^ b) true with
        | .error e => d.refused rq off size data e
        | .ok d => (.ok, d.inc (Reg.GLB_STAT_COUNT 7))

/-- A 64-bit write to two 32-bit registers: both or neither (R460). -/
def Device.write2 (d : Device) (rq : Requester) (hw : Bool) (off data : Nat) : BusResult × Device :=
  let lo := data % 2 ^ 32
  let hi := data / 2 ^ 32 % 2 ^ 32
  let bad := fun (o : Nat) => (wordError o true).map fun r => ({ reason := r } : Refuse)
  match bad off with
  | some e => d.refused rq off 8 lo e
  | none => match d.write1 rq hw off 4 lo (2 ^ 32 - 1) false with
    | .error e => d.refused rq off 8 lo e
    | .ok d1 => match bad (off + 4) with
      | some e => d.refused rq (off + 4) 8 hi e
      | none => match d1.write1 rq hw (off + 4) 4 hi (2 ^ 32 - 1) false with
        | .error e => d.refused rq (off + 4) 8 hi e
        | .ok d2 => (.ok, d2)

/-- A write by a requester, with its result. -/
def Device.busWriteR (d : Device) (rq : Requester) (hw : Bool) (off size : Nat) (full : Bool) (data : Nat) :
    BusResult × Device :=
  match d.accessError rq off size full with
  | some r => d.refused rq off size data { reason := r }
  | none =>
    if inBits off then d.bitWrite rq off size data
    else match regAt off with
      | none => (d.interleave off).refused rq off size data { reason := .reserved }
      | some (r, _, _) =>
        if r.cpw ≠ 0 then
          if d.bootBars rq off then (d.interleave off).refused rq off size data { reason := .boot }
          else d.pairWrite rq hw off size data
        else
          let d := d.interleave off
          if size = 4 ∨ r.w64 then
            match d.write1 rq hw off size data (2 ^ (8 * size) - 1) false with
            | .error e => d.refused rq off size data e
            | .ok d => (.ok, d)
          else d.write2 rq hw off data

/-- A write by a requester. -/
def Device.busWrite (d : Device) (rq : Requester) (off size : Nat) (data : Nat) (full : Bool := true) (hw : Bool := false) :
    Device :=
  if d.notSeen rq then d.unseen rq else (d.busWriteR rq hw off size full data).2

end Sys2Proof.Machine
end

