-- ==== Sys2Proof/Machine/RegWrites.lean ====
section
/-!
DEFINITION. The meanings of the commands that are accesses of the register bus: each is the access of its register, with the
checks, the audit and the effect that the bus and the block give it.
-/
namespace Sys2Proof.Machine

/-- A complement pair made as one 64-bit write (R468). -/
def Device.busPair (d : Device) (rq : Requester) (a v : Nat) (hw : Bool := false) : Device :=
  d.busWrite rq a 8 (v + 2 ^ 32 * (2 ^ 32 - 1 - v)) true hw

/-- A word of a window (R470): ADDR is written, then DATA. -/
def Device.busWin (d : Device) (rq : Requester) (w : Win) (a data : Nat) (hw : Bool := false) : Device :=
  (d.busWrite rq w.addr (if w = .dst then 8 else 4) a).busWrite rq w.data 4 data true hw

/-- TILE_PORT_CFG of a port. -/
def portReg (p : Nat) : Nat := Reg.TILE_PORT_CFG (tileOf p) (laneIn p)

/-- MAC_CFG of a port. -/
def macReg (p : Nat) : Nat := Reg.MAC_CFG (tileOf p) (laneIn p)

/-! ### Meanings -/

/-- RECAST (R68): SLOT and CLR_FAILS of the pair. -/
def execRecast (rq : Requester) (slot : Fin 4) (clr : Bool) (s_ : State) :
    Host.Outcome State Fault Refusal :=
  s_.run fun d => d.busPair rq Reg.GLB_BOOT_CTRL (1 + 16 * slot.val + 256 * b2n clr)

/-- ENTER_SELVEDGE (R68): CLR_FAILS of the pair. -/
def execEnterSelvedge (rq : Requester) (clr : Bool) (s_ : State) :
    Host.Outcome State Fault Refusal :=
  s_.run fun d => d.busPair rq Reg.GLB_BOOT_CTRL (2 + 256 * b2n clr)

/-- SET_PREF (R68): SLOT and CLR_FAILS of the pair. -/
def execSetPref (rq : Requester) (slot : Fin 4) (clr : Bool) (s_ : State) :
    Host.Outcome State Fault Refusal :=
  s_.run fun d => d.busPair rq Reg.GLB_BOOT_CTRL (3 + 16 * slot.val + 256 * b2n clr)

/-- LOCK_SET (R72). -/
def execLockSet (rq : Requester) (s_ : State) :
    Host.Outcome State Fault Refusal :=
  s_.run fun d => d.busWrite rq Reg.GLB_LOCK 4 1

/-- LOCK_RELEASE (R73). -/
def execLockRelease (rq : Requester) (s_ : State) :
    Host.Outcome State Fault Refusal :=
  s_.run fun d => d.busPair rq Reg.GLB_LOCK_REL 1

/-- FLASH_WE_WRITE (R74): A_EN and B_EN. -/
def execFlashWeWrite (rq : Requester) (a b : Bool) (s_ : State) :
    Host.Outcome State Fault Refusal :=
  s_.run fun d => d.busPair rq Reg.GLB_FLASH_WE (b2n a + 2 * b2n b)

/-- SURVEY_LANES (R88): SRV_CTRL is written with START 1 and SCOPE 0. -/
def execSurveyLanes (rq : Requester) (first last : Fin 512) (resolve auto : Bool) (s_ : State) :
    Host.Outcome State Fault Refusal :=
  s_.run fun d => d.busWrite rq Reg.SRV_CTRL 4 (2 ^ 31 + 2 ^ 30 * b2n auto + 2 ^ 29 * b2n resolve + 2 ^ 9 * last.val + first.val)

/-- SURVEY_MODULES (R88): SRV_CTRL is written with START 1 and SCOPE 1, its other fields as they stand. -/
def execSurveyModules (rq : Requester) (s_ : State) :
    Host.Outcome State Fault Refusal :=
  s_.run fun d => d.busWrite rq Reg.SRV_CTRL 4 (withBits (withBits (d.rd Reg.SRV_CTRL) 25 24 1) 31 31 1)

/-- PORT_ENABLE (R102): TILE_PORT_CFG is written with EN 1. -/
def execPortEnable (rq : Requester) (p : Fin 512) (cfg : BitVec 32) (s_ : State) :
    Host.Outcome State Fault Refusal :=
  s_.run fun d => d.busWrite rq (portReg p.val) 4 (withBits cfg.toNat 31 31 1)

/-- PORT_CHANGE (R102): the word written to TILE_PORT_CFG. -/
def execPortChange (rq : Requester) (p : Fin 512) (cfg : BitVec 32) (s_ : State) :
    Host.Outcome State Fault Refusal :=
  s_.run fun d => d.busWrite rq (portReg p.val) 4 cfg.toNat

/-- PORT_DELETE (R102): TILE_PORT_CFG is written with EN 0. -/
def execPortDelete (rq : Requester) (p : Fin 512) (cfg : BitVec 32) (s_ : State) :
    Host.Outcome State Fault Refusal :=
  s_.run fun d => d.busWrite rq (portReg p.val) 4 (withBits cfg.toNat 31 31 0)

/-- PORT_OPTION_CHANGE (R102): POLICY, SHED_EN, SLEEP_EN and PROBE_S are written, the other fields as they stand. -/
def execPortOptionChange (rq : Requester) (p : Fin 512) (policy shed sleep : Bool) (probe : BitVec 8) (s_ : State) :
    Host.Outcome State Fault Refusal :=
  s_.run fun d => d.busWrite rq (portReg p.val) 4 (withBits (withBits (d.portCfg p.val) 12 10 (4 * b2n policy + 2 * b2n shed + b2n sleep)) 7 0 probe.toNat)

/-- TXMAP_WRITE (R108). -/
def execTxmapWrite (rq : Requester) (t : Fin 64) (data : BitVec 32) (s_ : State) :
    Host.Outcome State Fault Refusal :=
  s_.run fun d => d.busWrite rq (Reg.TILE_TXMAP t.val) 4 data.toNat

/-- LANE_CTRL_WRITE (R133). -/
def execLaneCtrlWrite (rq : Requester) (lane : Fin 512) (data : BitVec 32) (s_ : State) :
    Host.Outcome State Fault Refusal :=
  s_.run fun d => d.busWrite rq (Reg.LANE_CTRL (tileOf lane.val) (laneIn lane.val)) 4 data.toNat

/-- MAX_LEN_WRITE (R138): MAC_CFG is written, its other fields as they stand. -/
def execMaxLenWrite (rq : Requester) (p : Fin 512) (len : BitVec 14) (s_ : State) :
    Host.Outcome State Fault Refusal :=
  s_.run fun d => d.busWrite rq (macReg p.val) 4 (withBits (d.rd (macReg p.val)) 13 0 len.toNat)

/-- FC_MODE_WRITE (R145): MAC_CFG is written, its other fields as they stand. -/
def execFcModeWrite (rq : Requester) (p : Fin 512) (mode : BitVec 2) (s_ : State) :
    Host.Outcome State Fault Refusal :=
  s_.run fun d => d.busWrite rq (macReg p.val) 4 (withBits (d.rd (macReg p.val)) 31 30 mode.toNat)

/-- PFC_MAP_WRITE (R145). -/
def execPfcMapWrite (rq : Requester) (p : Fin 512) (prio : Fin 8) (data : BitVec 32) (s_ : State) :
    Host.Outcome State Fault Refusal :=
  s_.run fun d => d.busWrite rq (Reg.MAC_PFC_MAP (tileOf p.val) (laneIn p.val) prio.val) 4 data.toNat

/-- RULE_WORD_WRITE (R171): word w of rule r through the window of slice s: ADDR is written, then DATA. -/
def execRuleWordWrite (rq : Requester) (s : Fin 16) (r : Fin 65536) (w : Fin 44) (data : BitVec 32) (s_ : State) :
    Host.Outcome State Fault Refusal :=
  s_.run fun d => d.busWin rq (.cls s.val) (64 * r.val + w.val) data.toNat

/-- RULE_COMMIT (R169). -/
def execRuleCommit (rq : Requester) (s : Fin 16) (r : Fin 65536) (s_ : State) :
    Host.Outcome State Fault Refusal :=
  s_.run fun d => d.busWin rq (.cls s.val) (64 * r.val + 63) 1

/-- RULE_INVALIDATE (R171). -/
def execRuleInvalidate (rq : Requester) (s : Fin 16) (r : Fin 65536) (s_ : State) :
    Host.Outcome State Fault Refusal :=
  s_.run fun d => d.busWin rq (.cls s.val) (64 * r.val + 63) 0

/-- SEED_WRITE (R187). -/
def execSeedWrite (rq : Requester) (v : BitVec 32) (s_ : State) :
    Host.Outcome State Fault Refusal :=
  s_.run fun d => d.busPair rq Reg.MRV_SEED v.toNat

/-- METER_STAGE_WRITE (R234). -/
def execMeterStageWrite (rq : Requester) (s : Fin 16) (m : Fin 16384) (w : Fin 3) (data : BitVec 32) (s_ : State) :
    Host.Outcome State Fault Refusal :=
  s_.run fun d => d.busWin rq (.mtr s.val) (32 * m.val + w.val) data.toNat

/-- METER_COMMIT (R234): word 3. -/
def execMeterCommit (rq : Requester) (s : Fin 16) (m : Fin 16384) (data : BitVec 32) (s_ : State) :
    Host.Outcome State Fault Refusal :=
  s_.run fun d => d.busWin rq (.mtr s.val) (32 * m.val + 3) data.toNat

/-- METER_FIELD_LOAD (R234): hwClock: hardware updates the field in the clock of the write. -/
def execMeterFieldLoad (rq : Requester) (s : Fin 16) (m : Fin 16384) (w : Fin 32) (data : BitVec 32) (hwClock : Bool) (s_ : State) :
    Host.Outcome State Fault Refusal :=
  s_.run fun d => d.busWin rq (.mtr s.val) (32 * m.val + w.val) data.toNat hwClock

/-- BUF_QUEUE_WRITE (R271). -/
def execBufQueueWrite (rq : Requester) (q : Fin 8256) (w : Fin 16) (data : BitVec 32) (s_ : State) :
    Host.Outcome State Fault Refusal :=
  s_.run fun d => d.busWin rq .buf (16 * q.val + w.val) data.toNat

/-- GROUP_VERSION_WRITE (R284): the address of R298 through the window of slice s. -/
def execGroupVersionWrite (rq : Requester) (s : Fin 16) (a : BitVec 20) (data : BitVec 32) (s_ : State) :
    Host.Outcome State Fault Refusal :=
  s_.run fun d => d.busWin rq (.rep s.val) a.toNat data.toNat

/-- GROUP_COMMIT (R284). -/
def execGroupCommit (rq : Requester) (s : Fin 16) (g : Fin 65536) (s_ : State) :
    Host.Outcome State Fault Refusal :=
  s_.run fun d => d.busWrite rq (Reg.REP_GRP_CMD s.val) 4 (2 ^ 31 + g.val)

/-- MIRROR_SESSION_WRITE (R293): word w of session n. -/
def execMirrorSessionWrite (rq : Requester) (n : Fin 16) (w : Fin 32) (data : BitVec 32) (s_ : State) :
    Host.Outcome State Fault Refusal :=
  s_.run fun d => d.busWrite rq (Reg.MIR_SESSION_W0 n.val + 4 * w.val) 4 data.toNat

/-- EGRESS_CFG_WRITE (R319): word w of the window of logical port l. -/
def execEgressCfgWrite (rq : Requester) (l : Fin 516) (w : Fin 256) (data : BitVec 32) (s_ : State) :
    Host.Outcome State Fault Refusal :=
  s_.run fun d => d.busWrite rq (Reg.EGR_PORT_CFG l.val + 4 * w.val) 4 data.toNat

/-- JARLIS_ID_WRITE (R328). -/
def execJarlisIdWrite (rq : Requester) (domain devid : BitVec 12) (s_ : State) :
    Host.Outcome State Fault Refusal :=
  s_.run fun d => d.busWrite rq Reg.JFL_CFG 4 (withBits (d.rd Reg.JFL_CFG) 23 0 (4096 * domain.toNat + devid.toNat))

/-- TRUNK_ENABLE (R355). -/
def execTrunkEnable (rq : Requester) (t : Fin 256) (slice : Fin 16) (window : BitVec 11) (s_ : State) :
    Host.Outcome State Fault Refusal :=
  s_.run fun d => d.busWrite rq (Reg.JFL_TRUNK_CFG t.val) 4 (2 ^ 31 + 2 ^ 27 * slice.val + window.toNat)

/-- TRUNK_DISABLE (R347). -/
def execTrunkDisable (rq : Requester) (t : Fin 256) (s_ : State) :
    Host.Outcome State Fault Refusal :=
  s_.run fun d => d.busWrite rq (Reg.JFL_TRUNK_CFG t.val) 4 (d.rd (Reg.JFL_TRUNK_CFG t.val) % 2 ^ 31)

/-- TRUNK_MEMBERS_WRITE (R337). -/
def execTrunkMembersWrite (rq : Requester) (t : Fin 256) (members : BitVec 32) (s_ : State) :
    Host.Outcome State Fault Refusal :=
  s_.run fun d => d.busWrite rq (Reg.JFL_TRUNK_MEMBERS t.val) 4 members.toNat

/-- PRT_BIND_WRITE (R362). -/
def execPrtBindWrite (rq : Requester) (p : Fin 512) (data : BitVec 32) (s_ : State) :
    Host.Outcome State Fault Refusal :=
  s_.run fun d => d.busWrite rq (Reg.PRT_BIND p.val) 4 data.toNat

/-- PRT_GRP_WRITE (R362). -/
def execPrtGrpWrite (rq : Requester) (g : Fin 4096) (data : BitVec 32) (s_ : State) :
    Host.Outcome State Fault Refusal :=
  s_.run fun d => d.busWrite rq (Reg.PRT_GRP_CFG g.val) 4 data.toNat

/-- CLEAR (R366): hwClock: hardware selects again for the group in the clock of the write. -/
def execClearRequest (rq : Requester) (g : Fin 4096) (hwClock : Bool) (s_ : State) :
    Host.Outcome State Fault Refusal :=
  s_.run fun d => d.busPair rq Reg.PRT_GRP_CMD (65536 * g.val + 0) hwClock

/-- LOCKOUT (R366): hwClock: hardware selects again for the group in the clock of the write. -/
def execLockout (rq : Requester) (g : Fin 4096) (hwClock : Bool) (s_ : State) :
    Host.Outcome State Fault Refusal :=
  s_.run fun d => d.busPair rq Reg.PRT_GRP_CMD (65536 * g.val + 1) hwClock

/-- FORCE (R366): hwClock: hardware selects again for the group in the clock of the write. -/
def execForce (rq : Requester) (g : Fin 4096) (hwClock : Bool) (s_ : State) :
    Host.Outcome State Fault Refusal :=
  s_.run fun d => d.busPair rq Reg.PRT_GRP_CMD (65536 * g.val + 2) hwClock

/-- MANUAL (R366): hwClock: hardware selects again for the group in the clock of the write. -/
def execManual (rq : Requester) (g : Fin 4096) (hwClock : Bool) (s_ : State) :
    Host.Outcome State Fault Refusal :=
  s_.run fun d => d.busPair rq Reg.PRT_GRP_CMD (65536 * g.val + 3) hwClock

/-- SF_W_SET (R366): hwClock: hardware selects again for the group in the clock of the write. -/
def execSfWSet (rq : Requester) (g : Fin 4096) (hwClock : Bool) (s_ : State) :
    Host.Outcome State Fault Refusal :=
  s_.run fun d => d.busPair rq Reg.PRT_GRP_CMD (65536 * g.val + 4) hwClock

/-- SF_W_CLR (R366): hwClock: hardware selects again for the group in the clock of the write. -/
def execSfWClr (rq : Requester) (g : Fin 4096) (hwClock : Bool) (s_ : State) :
    Host.Outcome State Fault Refusal :=
  s_.run fun d => d.busPair rq Reg.PRT_GRP_CMD (65536 * g.val + 5) hwClock

/-- SF_P_SET (R366): hwClock: hardware selects again for the group in the clock of the write. -/
def execSfPSet (rq : Requester) (g : Fin 4096) (hwClock : Bool) (s_ : State) :
    Host.Outcome State Fault Refusal :=
  s_.run fun d => d.busPair rq Reg.PRT_GRP_CMD (65536 * g.val + 6) hwClock

/-- SF_P_CLR (R366): hwClock: hardware selects again for the group in the clock of the write. -/
def execSfPClr (rq : Requester) (g : Fin 4096) (hwClock : Bool) (s_ : State) :
    Host.Outcome State Fault Refusal :=
  s_.run fun d => d.busPair rq Reg.PRT_GRP_CMD (65536 * g.val + 7) hwClock

/-- PUNTY_CFG_WRITE (R397). -/
def execPuntyCfgWrite (rq : Requester) (data : BitVec 32) (s_ : State) :
    Host.Outcome State Fault Refusal :=
  s_.run fun d => d.busWrite rq Reg.UNT_PUNTY_CFG 4 data.toNat

/-- BIND_OFF (R395): hwClock: hardware changes the role in the clock of the write. -/
def execBindOff (rq : Requester) (hwClock : Bool) (s_ : State) :
    Host.Outcome State Fault Refusal :=
  s_.run fun d => d.busPair rq Reg.UNT_ROLE_CMD 1 hwClock

/-- RELINQUISH (R395): hwClock: hardware changes the role in the clock of the write. -/
def execRelinquish (rq : Requester) (hwClock : Bool) (s_ : State) :
    Host.Outcome State Fault Refusal :=
  s_.run fun d => d.busPair rq Reg.UNT_ROLE_CMD 2 hwClock

/-- RESYNC (R395): hwClock: hardware changes the role in the clock of the write. -/
def execResync (rq : Requester) (hwClock : Bool) (s_ : State) :
    Host.Outcome State Fault Refusal :=
  s_.run fun d => d.busPair rq Reg.UNT_ROLE_CMD 3 hwClock

/-- TOD_STEP (R409): the four words of TIM_SET, word 3 last. -/
def execTodStep (rq : Requester) (sec : BitVec 64) (ns : BitVec 30) (frac : BitVec 16) (s_ : State) :
    Host.Outcome State Fault Refusal :=
  s_.run fun d => ((d.busWrite rq Reg.TIM_SET_W0 4 frac.toNat).busWrite rq Reg.TIM_SET_W1 4 ns.toNat |>.busWrite rq Reg.TIM_SET_W2 4 (sec.toNat % 2 ^ 32)).busWrite rq Reg.TIM_SET_W3 4 (sec.toNat / 2 ^ 32)

/-- OFFSET_WRITE (R417). -/
def execOffsetWrite (rq : Requester) (offset : BitVec 48) (s_ : State) :
    Host.Outcome State Fault Refusal :=
  s_.run fun d => d.busWrite rq Reg.TIM_OFFSET 8 offset.toNat

/-- HOLD (R418). -/
def execHold (rq : Requester) (s_ : State) :
    Host.Outcome State Fault Refusal :=
  s_.run fun d => d.busWrite rq Reg.TIM_CTRL 4 (2 ^ 31)

/-- ACQUIRE (R418). -/
def execAcquire (rq : Requester) (s_ : State) :
    Host.Outcome State Fault Refusal :=
  s_.run fun d => d.busWrite rq Reg.TIM_CTRL 4 (2 ^ 30)

/-- OFFLINE (R452). -/
def execOffline (rq : Requester) (k : Fin 4) (s_ : State) :
    Host.Outcome State Fault Refusal :=
  s_.run fun d => d.busWrite rq Reg.DST_STACK_CMD 4 (16 * k.val + 1)

/-- TEST (R452). -/
def execStackTest (rq : Requester) (k : Fin 4) (s_ : State) :
    Host.Outcome State Fault Refusal :=
  s_.run fun d => d.busWrite rq Reg.DST_STACK_CMD 4 (16 * k.val + 2)

/-- RECOVER (R452). -/
def execRecover (rq : Requester) (k : Fin 4) (s_ : State) :
    Host.Outcome State Fault Refusal :=
  s_.run fun d => d.busWrite rq Reg.DST_STACK_CMD 4 (16 * k.val + 3)

/-- POWER_OFF (R452). -/
def execPowerOff (rq : Requester) (k : Fin 4) (s_ : State) :
    Host.Outcome State Fault Refusal :=
  s_.run fun d => d.busWrite rq Reg.DST_STACK_CMD 4 (16 * k.val + 4)

/-- DST_DLY_WRITE (R437): word w of the delay registers of stack k. -/
def execDstDlyWrite (rq : Requester) (k : Fin 4) (w : Fin 256) (data : BitVec 32) (s_ : State) :
    Host.Outcome State Fault Refusal :=
  s_.run fun d => d.busWrite rq (Reg.DST_DLY_CH k.val 0 + 4 * w.val) 4 data.toNat

/-- DST_TEST_WRITE (R450): word w of a slot; word 63 writes the slot. -/
def execDstTestWrite (rq : Requester) (slot : BitVec 28) (w : Fin 64) (data : BitVec 32) (s_ : State) :
    Host.Outcome State Fault Refusal :=
  s_.run fun d => d.busWin rq .dst (64 * slot.toNat + w.val) data.toNat

/-- REGISTER_WRITE (R463): size in bytes; full: every byte enable is set. -/
def execRegisterWrite (rq : Requester) (off : BitVec 28) (size : BitVec 4) (full : Bool) (data : BitVec 64) (s_ : State) :
    Host.Outcome State Fault Refusal :=
  s_.run fun d => d.busWrite rq off.toNat size.toNat data.toNat full

/-- REGISTER_READ_ERROR (R461): a read; where nothing makes it an error it gives its data. -/
def execRegisterReadError (rq : Requester) (off : BitVec 28) (size : BitVec 4) (full : Bool) (s_ : State) :
    Host.Outcome State Fault Refusal :=
  s_.run fun d => d.busRead rq off.toNat size.toNat full none

/-- INDIRECT_READ (R470): a read of a DATA register; ecc: what the check bits of the memory show (a corrected or an
uncorrectable error). -/
def execIndirectRead (rq : Requester) (off : BitVec 28) (ecc : Option Bool) (s_ : State) :
    Host.Outcome State Fault Refusal :=
  s_.run fun d => d.busRead rq off.toNat 4 true ecc

/-- CPW_FIRST_HALF (R468): a 32-bit write of V to A. -/
def execCpwFirstHalf (rq : Requester) (off : BitVec 28) (v : BitVec 32) (s_ : State) :
    Host.Outcome State Fault Refusal :=
  s_.run fun d => d.busWrite rq off.toNat 4 v.toNat

/-- CPW_SECOND_HALF (R468): a 32-bit write to A + 4; hwClock: hardware acts on the same state in the clock of the
write (R465). -/
def execCpwSecondHalf (rq : Requester) (off : BitVec 28) (v : BitVec 32) (hwClock : Bool) (s_ : State) :
    Host.Outcome State Fault Refusal :=
  s_.run fun d => d.busWrite rq off.toNat 4 v.toNat true hwClock

/-- CPW_TIMEOUT (R468): the row of R458. -/
def execCpwTimeout (block : Fin 21) (s_ : State) :
    Host.Outcome State Fault Refusal :=
  s_.run fun d => d.pairTimeout block.val

/-- ALIAS_WRITE (R469): the word that stands for bit b of the control word at 4 × word. -/
def execBitWordWrite (rq : Requester) (word : Fin 8192) (b : Fin 32) (data : BitVec 32) (s_ : State) :
    Host.Outcome State Fault Refusal :=
  s_.run fun d => d.busWrite rq (0x100000 + 128 * word.val + 4 * b.val) 4 data.toNat

/-- SNAPSHOT (R472). -/
def execSnapshot (rq : Requester) (sets : BitVec 8) (s_ : State) :
    Host.Outcome State Fault Refusal :=
  s_.run fun d => d.busWrite rq Reg.GLB_SNAP_CMD 4 sets.toNat

/-- SNAPSHOT_DONE (R472). -/
def execSnapshotDone (s_ : State) :
    Host.Outcome State Fault Refusal :=
  s_.run fun d => d.snapDone

/-- DEVICE_RESET (R474): the pulse ends with SYS_RST_N_RELEASE. -/
def execDeviceReset (rq : Requester) (s_ : State) :
    Host.Outcome State Fault Refusal :=
  s_.run fun d => d.busPair rq Reg.GLB_RST_CTRL 1

/-- TILE_RESET (R475). -/
def execTileReset (rq : Requester) (t : Fin 64) (s_ : State) :
    Host.Outcome State Fault Refusal :=
  s_.run fun d => d.busPair rq Reg.GLB_BLK_RST (2 ^ 31 + t.val)

/-- GAFFER_CORE_RESET (R475). -/
def execGafferCoreReset (rq : Requester) (n : Fin 16) (s_ : State) :
    Host.Outcome State Fault Refusal :=
  s_.run fun d => d.busPair rq Reg.GLB_BLK_RST (2 ^ 31 + 0x40 + n.val)

/-- PMC_RESET (R475). -/
def execPmcReset (rq : Requester) (s_ : State) :
    Host.Outcome State Fault Refusal :=
  s_.run fun d => d.busPair rq Reg.GLB_BLK_RST (2 ^ 31 + 0x50)

/-- BLOCK_RESET_DONE (R475). -/
def execBlockResetDone (s_ : State) :
    Host.Outcome State Fault Refusal :=
  s_.run fun d => d.put Reg.GLB_BLK_RST_STATUS_BUSY false

/-- HQ_OWNER_WRITE (R485). -/
def execHqOwnerWrite (rq : Requester) (n : Fin 512) (data : BitVec 32) (s_ : State) :
    Host.Outcome State Fault Refusal :=
  s_.run fun d => d.busWrite rq (Reg.HQ_OWNER n.val) 4 data.toNat

/-- CQ_ENABLE (R485): HQ_CQ_CFG is written with EN 1. -/
def execCqEnable (rq : Requester) (n : Fin 512) (data : BitVec 32) (s_ : State) :
    Host.Outcome State Fault Refusal :=
  s_.run fun d => d.busWrite rq (Reg.HQ_CQ_CFG n.val) 4 (withBits data.toNat 31 31 1)

/-- SQ_ENABLE (R485): HQ_SQ_CFG is written with EN 1. -/
def execSqEnable (rq : Requester) (n : Fin 512) (data : BitVec 32) (s_ : State) :
    Host.Outcome State Fault Refusal :=
  s_.run fun d => d.busWrite rq (Reg.HQ_SQ_CFG n.val) 4 (withBits data.toNat 31 31 1)

/-- SQ_DOORBELL (R486). -/
def execSqDoorbell (rq : Requester) (n : Fin 512) (tail : BitVec 32) (s_ : State) :
    Host.Outcome State Fault Refusal :=
  s_.run fun d => d.busWrite rq (Reg.HQ_SQ_TAIL n.val) 4 tail.toNat

/-- CQ_DOORBELL (R487). -/
def execCqDoorbell (rq : Requester) (n : Fin 512) (data : BitVec 32) (s_ : State) :
    Host.Outcome State Fault Refusal :=
  s_.run fun d => d.busWrite rq (Reg.HQ_CQ_DB n.val) 4 data.toNat

/-- POOL_ALLOC (R521). -/
def execPoolAlloc (rq : Requester) (o : Fin 80) (size : BitVec 15) (s_ : State) :
    Host.Outcome State Fault Refusal :=
  s_.run fun d => d.busWrite rq (Reg.POOL_ALLOC o.val) 4 size.toNat

/-- POOL_FREE (R522). -/
def execPoolFree (rq : Requester) (o : Fin 80) (handle : BitVec 32) (s_ : State) :
    Host.Outcome State Fault Refusal :=
  s_.run fun d => d.busWrite rq (Reg.POOL_FREE o.val) 4 handle.toNat

/-- AUDIT_STREAM_WRITE (R554). -/
def execAuditStreamWrite (rq : Requester) (stream : Bool) (s_ : State) :
    Host.Outcome State Fault Refusal :=
  s_.run fun d => d.busWrite rq Reg.AUD_CFG 4 (2 ^ 31 * b2n stream)

/-- CHECKPOINT_NOW (R560). -/
def execCheckpointNow (rq : Requester) (s_ : State) :
    Host.Outcome State Fault Refusal :=
  s_.run fun d => d.busWrite rq Reg.LDG_CTRL 4 (2 ^ 31)

/-- LEDGER_ERASE (R565). -/
def execLedgerErase (rq : Requester) (v : BitVec 32) (s_ : State) :
    Host.Outcome State Fault Refusal :=
  s_.run fun d => d.busPair rq Reg.LDG_ERASE v.toNat

/-- PMC_SEL_WRITE (R569). -/
def execPmcSelWrite (rq : Requester) (n : Fin 256) (data : BitVec 32) (s_ : State) :
    Host.Outcome State Fault Refusal :=
  s_.run fun d => d.busWrite rq (Reg.PMC_SEL n.val) 4 data.toNat

/-- FUSE_WRITE_KEYHASH (R574). -/
def execFuseWriteKeyhash (rq : Requester) (slot : Fin 2) (s_ : State) :
    Host.Outcome State Fault Refusal :=
  s_.run fun d => d.busPair rq Reg.AUD_FUSE_PROG (1 + 32 * slot.val)

/-- FUSE_REVOKE_KEY (R574). -/
def execFuseRevokeKey (rq : Requester) (slot : Fin 2) (s_ : State) :
    Host.Outcome State Fault Refusal :=
  s_.run fun d => d.busPair rq Reg.AUD_FUSE_PROG (2 + 32 * slot.val)

/-- FUSE_BURN_SVN (R574). -/
def execFuseBurnSvn (rq : Requester) (slot : Fin 2) (s_ : State) :
    Host.Outcome State Fault Refusal :=
  s_.run fun d => d.busPair rq Reg.AUD_FUSE_PROG (3 + 32 * slot.val)

end Sys2Proof.Machine
end

