-- ==== Sys2Proof/Machine/Sync.lean ====
section
/-!
DEFINITION. Changes that come from elsewhere: the records that a standby applies (R375, R376, R378), and the requests and
responses of the management agent (R350 to R352, R538).
-/
namespace Sys2Proof.Machine

/-! ### Replicated records (R375, R376) -/

/-- The status with which a register access ends: 0, or the code that a requester would see (R461). -/
def BusResult.status : BusResult → Nat
  | .ok => 0
  | .err r => r.code
  | .pair => 8

/-- The standby applies a record as a write or a table command of origin Punty replication: whether its completion status is
the active's. A write that the active made has completed with 0. -/
def Device.replApply (d : Device) (r : List Byte) : Bool × Device :=
  let off := be32 r 4
  let v := be32 r 8
  let write := fun (size data : Nat) =>
    let (e, d) := d.busWriteR .punty false off size true data
    (e.status == 0, d)
  match byteAt r 0 with
  | 1 => write 4 v
  | 2 => write 8 (beNat (slice r 8 8))
  | 3 => write 8 (v + 2 ^ 32 * (2 ^ 32 - 1 - v))
  | 4 =>
    let (st, _, _, d) := d.tblExec .punty (slice r 8 64) none true
    (st == byteAt r 1, d)
  | _ => (false, d)

/-- The records of a message body by their RLEN (R375). -/
def replSplit : Nat → List Byte → List (List Byte)
  | 0, _ => []
  | fuel + 1, bs =>
    let n := be16 bs 2
    if (n ≠ 16 ∧ n ≠ 72) ∨ bs.length < n then [] else bs.take n :: replSplit fuel (bs.drop n)

/-- The records of a message body. -/
def replRecords (bs : List Byte) : List (List Byte) := replSplit (bs.length / 16 + 1) bs

/-- A record's table command waits for the engine, and for the scrub of its region (R187, R207, R209). -/
def Device.replWaits (d : Device) (r : List Byte) : Bool :=
  byteAt r 0 == 4 && (!d.engineReady || d.tblHeld (slice r 8 64))

/-- The standby waits for a resync to end before it applies a live record (R378). -/
def Device.replHeld (d : Device) (r : List Byte) : Bool := (d.unit.resync && !d.unit.syncEnded) || d.replWaits r

/-- A record whose completion status differs clears SYNCED and starts a resync (R376). -/
def Device.replMismatch (d : Device) : Device := d.resyncStart

/-- The standby applies the records it holds, in PSEQ order, until one has to wait. -/
def replDrain : Nat → Device → Device
  | 0, d => d
  | fuel + 1, d =>
    match d.unit.live with
    | [] => d
    | (n, r) :: rest =>
      if d.replHeld r then d
      else
        let (ok, d) := d.replApply r
        let d := (d.wr Reg.UNT_PSEQ_APPLIED n).onUnit fun u => { u with live := rest }
        let d := (d.inc (Reg.UNT_STAT_COUNT 5)).replMark
        if ok then replDrain fuel d else d.replMismatch

/-- Apply what can be applied. -/
def Device.replAll (d : Device) : Device := replDrain d.unit.live.length d

/-- The next PSEQ that the standby wants: none while a resync has given no record yet, since M is not known. -/
def Device.replWanted (d : Device) : Option Nat :=
  match d.unit.live.getLast? with
  | some (n, _) => some ((n + 1) % 2 ^ 32)
  | none => if d.unit.resync && !d.unit.syncEnded then none else some ((d.rd Reg.UNT_PSEQ_APPLIED + 1) % 2 ^ 32)

/-- One record of a REPLICATE message: taken in order, one seen before ignored, one beyond a gap not taken. -/
def Device.replTake (d : Device) (n : Nat) (r : List Byte) : Device :=
  match d.replWanted with
  | none => d.onUnit fun u => { u with live := [(n, r)] }
  | some w => if n = w then d.onUnit fun u => { u with live := u.live ++ [(n, r)] } else d

/-- REPLICATE_RECEIVED: a message of records from PSEQ `n` on (R376). A gap is answered with NAK. -/
def Device.replicateReceived (d : Device) (n : Nat) (bs : List Byte) : Device :=
  if d.role ≠ roleStandby ∨ !d.flag Reg.UNT_STATUS_PUNTY_UP then d
  else
    let rs := replRecords bs
    let (h, d) := d.heldTake bs.length rs.length
    let d := d.onUnit fun u => { u with heldLive := u.heldLive ++ [h] }
    let d := match d.replWanted with
      | some w => d.when (n != w && pseqLe w n) fun d => d.punty 3 w []
      | none => d
    let d := (List.range rs.length).foldl (fun d i => d.replTake ((n + i) % 2 ^ 32) (rs.getD i [])) d
    d.replAll.heldFree

/-! ### Resync (R378) -/

/-- Before the first SYNC record every Marver entry is removed, with one audit record. Each removal takes a TSEQ, as the
other removals that the engine makes by itself do (R192, R552). -/
def Device.syncClear (d : Device) : Device :=
  let d := d.closeBatch
  let es := d.mrv.tab.filterMap fun t => t.2
  let n := es.length
  let first := (d.rd Reg.MRV_TSEQ + b2n (n != 0)) % 2 ^ 32
  let d := (d.wr Reg.MRV_TSEQ (d.rd Reg.MRV_TSEQ + n)).onMrv fun m => { m with tab := [] }
  let d := d.each es fun d e => d.clearTuples e.key
  d.mrvShow.record 5 4 0 false (batchBody 0xA 0 (min n 256) first (d.rd Reg.MRV_TSEQ) 0)

/-- After the last SYNC record the standby goes on with the live records from M + 1 on. -/
def Device.syncEnd (d : Device) (m : Nat) : Device :=
  let d := d.wr Reg.UNT_PSEQ_APPLIED m
  let live := d.unit.live.filter fun e => !pseqLe e.1 m
  let gap := match live.head? with | some e => e.1 != (m + 1) % 2 ^ 32 | none => false
  let d := d.onUnit fun u => { u with syncEnded := true, live := if gap then [] else live }
  (d.when gap fun d => d.punty 3 ((m + 1) % 2 ^ 32) []).replAll

/-- The SYNC records that the standby holds are applied in order, until one has to wait; a mismatch starts the resync again. -/
def syncDrain : Nat → Device → Device
  | 0, d => d
  | fuel + 1, d =>
    match d.unit.syncQ, d.unit.syncLast with
    | [], some m => if d.unit.resync && !d.unit.syncEnded then d.syncEnd m else d
    | [], none => d
    | r :: rs, _ =>
      if d.replWaits r then d
      else
        let (ok, d) := d.replApply r
        let d := (d.onUnit fun u => { u with syncQ := rs }).replMark
        if ok then syncDrain fuel d else d.replMismatch

/-- Before the first SYNC record the standby's table is emptied (R378). DESIGN CHOICE: its multicast groups go back to version 0 as the current
one, so that the stream can write and commit both versions of each. -/
def Device.syncBegin (d : Device) : Device :=
  ((d.syncClear).onPath fun p => { p with cur := [] }).onUnit fun u => { u with syncStarted := true }

/-- SYNC_RECEIVED: a message of SYNC records, `n` the number of the first in their own sequence; `last` gives M with the
message that ends the stream. A standby that was in step takes the first record of a stream for the start of a resync (DEDUCED: the
active's replication had stopped, R377). -/
def Device.syncReceived (d : Device) (n : Nat) (bs : List Byte) (last : Option Nat) : Device :=
  if d.role ≠ roleStandby ∨ !d.flag Reg.UNT_STATUS_PUNTY_UP then d
  else
    let d := d.when (!d.unit.resync && n == 0) (·.resyncStart)
    if !d.unit.resync ∨ d.unit.syncEnded then d
    else if n ≠ d.unit.syncNext then d.punty 3 d.unit.syncNext []
    else
      let d := d.when (!d.unit.syncStarted) (·.syncBegin)
      let rs := replRecords bs
      let (h, d) := d.heldTake bs.length rs.length
      let d := d.onUnit fun u => { u with syncQ := u.syncQ ++ rs, syncNext := (u.syncNext + rs.length) % 2 ^ 32,
                                          syncLast := last.or u.syncLast, heldSync := u.heldSync ++ [h] }
      (syncDrain (d.unit.syncQ.length + 1) d).heldFree

/-- What waited on the standby goes on once the engine takes commands again. -/
def Device.standbyTurn (d : Device) : Device :=
  if d.role = roleStandby ∧ (d.unit.live ≠ [] ∨ d.unit.syncQ ≠ []) then
    ((syncDrain (d.unit.syncQ.length + 1) d).replAll).heldFree
  else d

/-! ### The active's SYNC stream (R378) -/

/-- A register word as it stood at M. -/
def SyncSnap.rd (x : SyncSnap) (off : Nat) : Nat := (mget regDflt x.regs off).toNat

/-- A record of a 32-bit write. -/
def rec32 (off v : Nat) : List Byte := replRecord 1 0 off (beBytes 4 v ++ beBytes 4 0)

/-- A record of a complement pair. -/
def recPair (off v : Nat) : List Byte := replRecord 3 0 off (beBytes 4 v ++ beBytes 4 0)

/-- The bits of a register that a plain write replaces and a resync rebuilds: counters are not replicated (R374). -/
def RegRow.syncBits (r : RegRow) : Nat := maskOut (r.rw ||| r.rwl) r.ctr

/-- The offsets of a row's registers. -/
def RegRow.offsets (r : RegRow) : List Nat :=
  r.dims.foldl (fun l e => l.flatMap fun b => (List.range e.2).map fun i => b + e.1 * i) [r.base]

/-- The replicated registers of a row that a plain write sets. -/
def RegRow.syncRegs (r : RegRow) : List (Nat × Nat × Bool) :=
  if r.syncBits = 0 ∨ r.cpw ≠ 0 then []
  else (r.offsets.filter fun o => replicated o && (winAt o).isNone && !auditExempt o && !reservedReg o).map fun o =>
    (o, r.syncBits, r.w64)

/-- The replicated registers in the order of the stream. DESIGN CHOICE: the ports come first, then the blocks of the frame path, then
the groups, and the bindings that need them last. -/
def syncRegs : List (Nat × Nat × Bool) :=
  (rowsTILE ++ rowsSLC ++ rowsMRV ++ rowsBUF ++ rowsXBR ++ rowsEGR ++ rowsJFL ++ rowsUNT.reverse).flatMap RegRow.syncRegs

/-- The record of a register. -/
def SyncSnap.regRec (x : SyncSnap) (e : Nat × Nat × Bool) : List Byte :=
  if e.2.2 then replRecord 2 0 e.1 (beBytes 8 ((x.rd e.1 + 2 ^ 32 * x.rd (e.1 + 4)) &&& e.2.1))
  else rec32 e.1 (x.rd e.1 &&& e.2.1)

/-- The `i`-th record of words written from an address of a window on: ADDR, then DATA, with a stride of one word. -/
def winRec (w : Win) (a i : Nat) (f : Nat → Nat) : List Byte := if i = 0 then rec32 w.addr a else rec32 w.data (f (i - 1))

/-- The records of a rule: words 0 to 43, then CONTROL (R167). -/
def SyncSnap.ruleRec (x : SyncSnap) (r i : Nat) : List Byte :=
  if i < 45 then winRec (.cls 0) (64 * r) i fun w => (mget (fun _ => (0 : Word)) x.rules.word (64 * r + w)).toNat
  else winRec (.cls 0) (64 * r + 63) (i - 45) fun _ => b2n (nget x.rules.valid r != 0)

/-- The records of version `v` of a group: TILES, the list entry of each tile, and the commit (R282 to R284). -/
def SyncSnap.versionRec (x : SyncSnap) (g v i : Nat) : List Byte :=
  if i < 3 then winRec (.rep 0) (4 * g + 2 * v) i fun w => (mget (fun _ => (0 : Word)) x.grp (4 * g + 2 * v + w)).toNat
  else if i < 131 then
    let t := (i - 3) / 2
    winRec (.rep (t / 4)) (0x40000 + 0x20000 * (t % 4) + 2 * g + v) ((i - 3) % 2) fun _ =>
      (mget (fun _ => (0 : Word)) x.lists (131072 * t + 2 * g + v)).toNat
  else rec32 (0xC05010) (2 ^ 31 + g)

/-- The records of a group: version 1 and version 0, each written while the other is current; the last commits version 1 where that is the
active's. -/
def SyncSnap.groupRec (x : SyncSnap) (g i : Nat) : List Byte :=
  if i < 132 then x.versionRec g 1 i
  else if i < 264 then x.versionRec g 0 (i - 132)
  else if nget x.cur g = 1 then rec32 (0xC05010) (2 ^ 31 + g) else rec32 (Win.rep 0).addr 0

/-- A command that inserts a Marver entry as it stands (R378). -/
def MrvEntry.insertCmd (e : MrvEntry) : List Byte :=
  [1, 0, 0, 0, 0, 0, 0, 0] ++ e.key ++ leBytes 8 e.result ++ leBytes 1 (16 * b2n e.learned + 8 * b2n e.static) ++ List.replicate 15 0

/-- The stream in segments: the number of records of each and what its `i`-th record is. -/
def SyncSnap.segs (x : SyncSnap) : List (Nat × (Nat → List Byte)) :=
  let ms := x.meters.filter fun e => !e.2.fresh
  let es := x.tab.filterMap fun e => e.2
  let ctrl : List Win := [.buf, .cls 0] ++ (List.range 16).map Win.mtr ++ (List.range 16).map Win.rep
  [ (1, fun _ => recPair Reg.MRV_SEED (x.rd Reg.MRV_SEED)),
    (syncRegs.length, fun i => x.regRec (syncRegs.getD i (0, 0, false))),
    (4096, fun g => recPair Reg.PRT_GRP_CMD (65536 * g + bits (x.rd (Reg.PRT_GRP_STATE g)) 15 14)),
    (ctrl.length, fun i => rec32 (ctrl.getD i .buf).ctrl 1),
    (8256 * 6, fun i => winRec .buf (16 * (i / 6)) (i % 6) fun w => (mget qcfgDflt x.qcfg (16 * (i / 6) + w)).toNat),
    (65536 * 47, fun i => x.ruleRec (i / 47) (i % 47)),
    (ms.length * 5, fun i => match ms[i / 5]? with
      | some e => winRec (.mtr (e.1 / 16384)) (32 * (e.1 % 16384)) (i % 5) fun w => e.2.words.getD w 0
      | none => []),
    (65536 * 265, fun i => x.groupRec (i / 265) (i % 265)),
    (x.members.length * 2, fun i => match x.members[i / 2]? with
      | some e => winRec (.rep (e.1 / 65536)) (0xC0000 + e.1 % 65536) (i % 2) fun _ => e.2.toNat
      | none => []),
    (es.length, fun i => match es[i]? with | some e => mrvRecord e.insertCmd 0 | none => []) ]

/-- The `i`-th record of segments. -/
def segRec : List (Nat × (Nat → List Byte)) → Nat → Option (List Byte)
  | [], _ => none
  | (n, f) :: l, i => if i < n then some (f i) else segRec l (i - n)

/-- A clock of the stream: a message of up to 28 records, which fits 2,028 bytes. DESIGN CHOICE: an empty message whose PSEQ is M ends the
stream; it starts again where a standby that shows an old SYNCED has not heard it. -/
def Device.syncSend (d : Device) : Device :=
  match d.unit.snap with
  | none => d
  | some x =>
    if d.role ≠ roleActive ∨ !d.unit.resync ∨ !d.flag Reg.UNT_STATUS_PUNTY_UP then d
    else
      let n := d.unit.syncPos
      let rs := (List.range 28).filterMap fun i => segRec x.segs (n + i)
      let total := (x.segs.map (·.1)).sum
      if rs = [] then
        if n = total then (d.punty 4 d.unit.mark []).onUnit fun u => { u with syncPos := if u.stale then 0 else n + 1 } else d
      else (d.punty 4 n (rs.flatMap id)).onUnit fun u => { u with syncPos := n + rs.length }

/-! ### The management agent (R350 to R352) -/

/-- An operation of a PDU with its STATUS, RSN and DATA. -/
def mgmtReply (o : List Byte) (status rsn data : Nat) : List Byte :=
  beBytes 1 (byteAt o 0) ++ beBytes 1 status ++ beBytes 1 rsn ++ beBytes 1 0 ++ slice o 4 4 ++ beBytes 8 data

/-- The agent executes one operation of a request of device `dev`. A failed operation returns the DATA of the request. -/
def Device.mgmtOp (d : Device) (dev : Nat) (o : List Byte) : List Byte × Device :=
  let rq : Requester := .jarlis (Fin.ofNat 4096 dev)
  let off := be32 o 4
  let data := beNat (slice o 8 8)
  let fail := fun (st rsn : Nat) => mgmtReply o st rsn data
  let read := fun (size : Nat) =>
    match d.readError rq off size true, d.busReadV rq off size true none with
    | some (_, r), (_, d) => (fail r.code 0, d)
    | none, (v, d) => (mgmtReply o 0 0 (v.getD 0), d)
  let write := fun (size : Nat) =>
    if !d.flag Reg.JFL_MGMT_CFG_WRITE_EN then (fail 0x10 0, d)
    else match d.busWriteR rq false off size true (data % 2 ^ (8 * size)) with
      | (.ok, d) => (fail 0 0, d)
      | (.err r, d) => (fail r.code 0, d)
      | (.pair, d) => (fail 0x11 (d.get Reg.GLB_CPW_STATUS_REASON), d)
  match byteAt o 0 with
  | 1 => read 4
  | 2 => write 4
  | 3 => read 8
  | 4 => write 8
  | _ => (fail 0x12 0, d)

/-- The operations of a PDU. -/
def pduOps (pdu : List Byte) : List (List Byte) := (List.range (byteAt pdu 1)).map fun i => slice pdu (8 + 16 * i) 16

/-- A management PDU (R351). -/
def mgmtPdu (mcode mtag : Nat) (ops : List (List Byte)) : List Byte :=
  beBytes 1 mcode ++ beBytes 1 ops.length ++ beBytes 2 0 ++ beBytes 4 mtag ++ ops.flatten

/-- MGMT_REQUEST_EXECUTE: the oldest accepted request is executed, its operations in order, and answered (R352). An operation
that resets the block takes the request with it. -/
def Device.mgmtExecute (d : Device) : Device :=
  match d.jarlis.mgmt with
  | [] => d
  | (dev, pdu) :: rest =>
    let (rs, d) := (pduOps pdu).foldl (fun (s : List (List Byte) × Device) o =>
      let (r, d) := s.2.mgmtOp dev o
      (s.1 ++ [r], d)) ([], d)
    if d.jarlis.mgmt.head? = some (dev, pdu) then
      let d := (d.onJfl fun j => { j with mgmt := rest }).inc Reg.JFL_MGMT_STATUS_REQUESTS
      d.mgmtOriginate dev (mgmtPdu 2 (be32 pdu 4) rs)
    else d

/-- MGMT_RESPONSE_RECEIVED: the response of an outstanding JMGMT command is written to its buffer and completes it; any other
is discarded (R350, R538). -/
def Device.mgmtResponse (d : Device) : Device :=
  match d.mgmtWaiting true with
  | none => d
  | some f =>
    let pdu := f.pdu
    let take := fun (d : Device) => d.onJfl fun j => { j with awaiting := j.awaiting.erase f }
    match (d.gaffer.jm.find? fun x => x.2 == be32 pdu 4).bind fun x => d.findOp x.1 with
    | some o =>
      if !pduOk pdu || byteAt pdu 1 != o.byte 22 then (take d).mgmtDrop f
      else if !d.dmaOk (d.owner o.sq) then d
      else
        let d := (take d).onGaf fun g => { g with jm := g.jm.filter fun x => x.1 != o.id }
        let ops := pduOps pdu
        let d := d.emit (.hostWrite (d.owner o.sq) (o.field 8 8) ops.flatten)
        d.mboxDone o 0 0 (ops.filter fun x => byteAt x 1 != 0).length
    | none => (take d).mgmtDrop f

/-! ### Meanings -/

/-- MGMT_REQUEST_EXECUTE (R352). -/
def execMgmtRequestExecute (s : State) : Host.Outcome State Fault Refusal := s.run (·.mgmtExecute)

/-- MGMT_RESPONSE_RECEIVED (R350). -/
def execMgmtResponseReceived (s : State) : Host.Outcome State Fault Refusal := s.run (·.mgmtResponse)

/-- REPLICATE_RECEIVED (R376): the PSEQ of the message and its body. A frame of a reserved TYPE is discarded and counted (R372); the other
types have commands of their own. -/
def execReplicateReceived (pseq : BitVec 32) (body : PuntyBody) (s : State) : Host.Outcome State Fault Refusal :=
  s.run fun d => match body with
    | .records bs => d.puntyIn bs.length (·.replicateReceived pseq.toNat bs)
    | .reserved type => if type = 0 ∨ 8 < type then d.puntyDrop else d

/-- SYNC_RECEIVED (R378): the PSEQ of the message, its body, and M with the last one. -/
def execSyncReceived (pseq : BitVec 32) (body : List Byte) (last : Option (BitVec 32)) (s : State) :
    Host.Outcome State Fault Refusal :=
  s.run (·.puntyIn body.length (·.syncReceived pseq.toNat body (last.map BitVec.toNat)))

end Sys2Proof.Machine
end

