-- ==== Sys2Proof/Machine/HostQueues.lean ====
section
/-!
DEFINITION. The host queues at work: fetching, completions and interrupts, inject and post entries, delivery of punt frames
and stamps, resets and the enables of functions (R483, R486 to R502), with the meanings of their commands.
-/
namespace Sys2Proof.Machine

/-! ### Fetching (R486, R488, R493) -/

/-- Entries of an SQ that software has posted and the device has not fetched. -/
def Device.sqLeft (d : Device) (q : Nat) : Nat :=
  let n := 2 ^ d.get (Reg.HQ_SQ_CFG_LOG2_N q)
  (d.get (Reg.HQ_SQ_TAIL_TAIL q) + n - d.get (Reg.HQ_SQ_HEAD_HEAD q)) % n

/-- C: the entries fetched toward a CQ that have not finished, posted buffers included, and the completions due on it. -/
def Device.claims (d : Device) (cq : Nat) : Nat :=
  (d.host.ops.filter fun o => d.cqOf o.sq == cq).length
    + (d.host.bufs.map fun e => if d.cqOf e.1 = cq then e.2.length else 0).sum
    + (d.host.bwait.map fun e => if d.cqOf e.1 = cq then e.2.length else 0).sum + (d.due cq).length

/-- Entries that may still be fetched toward a CQ: C stays below F + 32. -/
def Device.claimRoom (d : Device) (cq : Nat) : Nat := d.cqFree cq + 32 - d.claims cq

/-- Places left in the store of posted buffers: fetched POST entries have theirs. -/
def Device.postRoom (d : Device) : Nat :=
  8192 - (d.host.bufs.map fun e => e.2.length).sum - (d.host.ops.filter fun o => !d.inFlightSq o.sq).length

/-- An SQ that would be fetched but for the claims on its CQ. -/
def Device.wantsFetch (d : Device) (q : Nat) : Bool :=
  let t := d.get (Reg.HQ_SQ_CFG_TYPE q)
  d.sqEn q && d.sqLeft q != 0 && d.dmaOk (d.owner q) && decide (d.inFlight < 4096)
    && !(t == 2 && d.role == roleStandby) && !(!d.inFlightSq q && d.postRoom == 0)
    && !(t == 6 && !(List.range 32).any fun c => chanSq (d.rd (Reg.DMA_CHAN c)) == some q)

/-- The SQ that is fetched next, round-robin. -/
def Device.fetchPick (d : Device) : Option Nat :=
  ((List.range 512).map fun i => (d.host.rr + i) % 512).find? fun q => d.wantsFetch q && d.claimRoom (d.cqOf q) != 0

/-- How many entries one read request takes of an SQ. -/
def Device.fetchCount (d : Device) (q : Nat) : Nat :=
  let n := min (min 8 (d.sqLeft q)) (min (4096 - d.inFlight) (d.claimRoom (d.cqOf q)))
  if d.inFlightSq q then n else min n d.postRoom

/-- An entry has been fetched: none when it could not be read (R490, R491). An entry that could not be read, or an INJECT entry whose QCTL
or OPCODE fails, completes at once; POST entries, table commands and mailbox and DMA entries are checked in their order by those who
execute them (R492). -/
def Device.fetchEntry (d : Device) (q : Nat) (e : Option (List Byte)) : Device :=
  let type := d.get (Reg.HQ_SQ_CFG_TYPE q)
  let idx := d.get (Reg.HQ_SQ_HEAD_HEAD q)
  let b := nget d.host.bno q
  let o : HostOp := { id := d.host.nextOp, sq := q, idx := idx, bno := b, bytes := slice (e.getD []) 0 64, fault := e.isNone }
  let d := (d.set (Reg.HQ_SQ_HEAD_HEAD q) ((idx + 1) % 2 ^ d.get (Reg.HQ_SQ_CFG_LOG2_N q))).inc (Reg.HQ_STAT_COUNT q 0)
  let closes := bit (o.byte 3) 0 && !o.badQctl
  let d := d.onHost fun h => { h with nextOp := h.nextOp + 1, ops := h.ops ++ [o],
                                      bno := nset h.bno q (if closes then b + 1 else b) }
  if !d.inFlightSq q then d.showOps
  else if e.isNone then d.finishOp o 0x46 0 (leBytes 2 q)
  else if type = 0 ∧ o.badQctl then (d.cullet 0 512 35).finishOp o 0x40
  else if type = 0 ∧ o.byte 0 ≠ 1 ∧ o.byte 0 ≠ 2 then (d.cullet 0 512 35).finishOp o 0x41
  else d.showOps

/-- Fetching toward a CQ stops for its claims, or goes on again (R493). -/
def Device.holdCheck (d : Device) (q : Nat) : Device :=
  if d.wantsFetch q then
    let cq := d.cqOf q
    let full := d.claimRoom cq == 0
    let was := mget (fun _ => false) d.host.stopped cq
    (d.when (full && !was) fun d => d.inc (Reg.HQ_STAT_COUNT cq 2)).onHost fun h =>
      { h with stopped := mset (fun _ => false) h.stopped cq full }
  else d

/-- SQ_FETCH: one read request of the next SQ; `es` gives the entries as read, in ring order (R488). -/
def Device.sqFetch (d : Device) (es : List (Option (List Byte))) : Device :=
  let d := d.each (List.range 512) fun d q => d.holdCheck q
  match d.fetchPick with
  | none => d
  | some q =>
    let n := d.fetchCount q
    let d := d.each (List.range n) fun d i => d.fetchEntry q (es.getD i none)
    (d.onHost fun h => { h with rr := (q + 1) % 512 }).each (List.range 512) fun d q => d.holdCheck q

/-! ### Interrupts (R494) -/

/-- A CQ signals its vector; one that is masked sets its pending bit. -/
def Device.cqSignal (d : Device) (n : Nat) (masked : Bool) : Device :=
  let f := d.owner n
  let v := d.get (Reg.HQ_CQ_CFG_VECTOR n)
  let d := d.onHost fun h => { h with unsig := nset h.unsig n 0, timer := mset (fun _ => false) h.timer n false,
                                      msixPend := mset (fun _ => false) h.msixPend (2048 * f + v) masked }
  if masked then d else d.emit (.msix f v)

/-- MSIX_SIGNAL: COUNT completions have been written since the last signal. -/
def Device.msixSignal (d : Device) (n : Nat) (masked : Bool) : Device :=
  if d.flag (Reg.HQ_CQ_CFG_INT_EN n) && d.cqEn n
      && decide (max 1 (d.get (Reg.HQ_CQ_MOD_COUNT n)) ≤ nget d.host.unsig n) then
    d.cqSignal n masked
  else d

/-- CQ_TIMER_EXPIRE: TIMER_US after the oldest completion that has not been signalled. -/
def Device.cqTimer (d : Device) (n : Nat) (masked : Bool) : Device :=
  if d.flag (Reg.HQ_CQ_CFG_INT_EN n) && d.cqEn n && d.get (Reg.HQ_CQ_MOD_TIMER_US n) != 0
      && mget (fun _ => false) d.host.timer n then
    d.cqSignal n masked
  else d

/-! ### Inject (R496, R497) -/

/-- The entry of an INJECT queue whose turn it is, round-robin over the queues. -/
def Device.injNext (d : Device) : Option HostOp :=
  ((List.range 512).map fun i => (d.host.injRr + i) % 512).findSome? fun q =>
    if d.sqEn q && d.get (Reg.HQ_SQ_CFG_TYPE q) == 0 && d.dmaOk (d.owner q) then
      d.host.ops.find? fun o => o.sq == q && !o.taken
    else none

/-- The checks of an inject entry: the first failing status, 0 for none. -/
def Device.injBad (d : Device) (o : HostOp) : Nat :=
  let fixed := o.byte 0 == 2
  let dest := o.field 18 2
  let tsq := o.field 20 2
  if bits (o.byte 2) 7 5 ≠ 0 ∨ tsq / 512 ≠ 0 ∨ !allZero o.bytes 22 42 then 0x41
  else if !fixed ∧ (bits (o.byte 1) 7 2 ≠ 0 ∨ bits (o.byte 2) 4 0 ≠ 0 ∨ dest ≠ 0) then 0x41
  else if o.field 8 8 = 0 then 0x42
  else if o.field 16 2 < 60 ∨ 16379 < o.field 16 2 then 0x43
  else if fixed ∧ d.owner o.sq ≠ 0 ∧ !d.flag (Reg.HQ_VF_FIXED_EN (d.owner o.sq)) then 0x45
  else if fixed ∧ !bit (o.byte 2) 4 ∧ (515 < dest ∨ dest = 512 ∨ dest = 514) then 2
  else if bits (o.byte 1) 1 0 = 3 ∧ !(d.puntQueue tsq && d.owner tsq == d.owner o.sq) then 2
  else 0

/-- The frame of an inject entry, or of a descriptor of the service interface, as it enters the device. -/
def injFrame (o : HostOp) (id src now : Nat) (bs : List Byte) : Frame :=
  let fixed := o.byte 0 == 2
  let ptp := bits (o.byte 1) 1 0
  let col := bits (o.byte 1) 3 2
  let dest := if bit (o.byte 2) 4 then Dest.group (o.field 18 2) else Dest.port (o.field 18 2)
  let dec : Decision := if fixed then
      { dest := dest, tc := bits (o.byte 1) 7 4, queue := bits (o.byte 2) 3 0, colour := if col = 3 then 2 else col,
        ptp := ptp }
    else { ptp := ptp }
  { id := id, bytes := slice bs 0 (o.field 16 2), src := src, arrival := now, fixed := fixed, dec := dec,
    stampTo := if ptp = 3 then some (o.field 20 2, o.tag) else none }

/-- INJECT_PIPELINE and INJECT_FIXED: the entry whose turn it is, if it has this OPCODE, is checked, its frame read and
handed to slice 0 as from port 512. `bs` is the frame as read, none when the read failed. -/
def Device.inject (d : Device) (op : Nat) (bs : Option (List Byte)) : Device :=
  match d.injNext with
  | none => d
  | some o =>
    if o.byte 0 ≠ op ∨ d.inSelvedge then d
    else
      let d := d.onHost fun h => { h with injRr := (o.sq + 1) % 512 }
      let bad := d.injBad o
      if bad ≠ 0 then (d.cullet 0 512 35).finishOp o bad
      else match bs with
        | none => d.finishOp o 0x44
        | some bs =>
          let (id, d) := d.freshId
          let f := { injFrame o id 512 d.us bs with inj := some o.id }
          let d := d.onHost fun h => { h with ops := h.ops.map fun x => if x.id = o.id then { x with taken := true } else x }
          d.onPath fun p => { p with intReady := lpush p.intReady 512 f }

/-! ### Posted buffers (R498 to R500) -/

/-- The checks of a POST entry: the first failing status, 0 for none. -/
def postBad (type : Nat) (o : HostOp) : Nat :=
  let n := o.field 16 4
  if o.fault then 0x46
  else if o.badQctl then 0x40
  else if o.byte 0 ≠ 1 ∨ o.byte 1 ≠ 0 ∨ o.byte 2 ≠ 0 ∨ !allZero o.bytes 20 44 then 0x41
  else if o.field 8 8 = 0 ∨ o.field 8 8 % 64 ≠ 0 then 0x42
  else if type = 1 then (if n < 128 ∨ 65536 < n ∨ n % 64 ≠ 0 then 0x43 else 0)
  else if n < 32 ∨ 1048576 < n ∨ n % 32 ≠ 0 then 0x43 else 0

/-- POST: the oldest entry fetched from a PUNT, LEARN or AUDIT queue adds its buffer. One that fails completes when no buffer posted before
it is left (R492). -/
def Device.post (d : Device) (q : Nat) : Device :=
  if d.inFlightSq q then d
  else match d.host.ops.find? fun o => o.sq == q with
    | none => d
    | some o =>
      let bad := postBad (d.get (Reg.HQ_SQ_CFG_TYPE q)) o
      if bad ≠ 0 ∧ d.bufsOf q = [] then d.postFail o bad
      else
        let b : PostBuf := { op := o, addr := o.field 8 8, len := o.field 16 4, claimed := bad != 0, bad := bad }
        (d.onHost fun h => { h with ops := h.ops.filter (fun x => x.id != o.id), bufs := lpush h.bufs q b }).showOps

/-- Deliver a frame selected for port 512 or 515 to its buffer (R499). -/
def Device.puntFrame (d : Device) (r : PuntRec) : Device :=
  let e := r.sel.entry
  let d := d.onHost fun h => { h with punt := h.punt.erase r }
  match (d.bufsOf r.pq).find? fun b => b.op.id == r.buf with
  | none => d.puntForget r
  | some b =>
    let bs := d.entryBytes e
    let n := min bs.length (b.len - 32)
    let f := d.entryFrame e
    let hd := d.puntHeader f (if f.ckind = 4 then f.clen else bs.length) n
    let d := d.bufDone r.pq b (hd ++ bs.take n) 1 (decide (n < bs.length))
    let l := (if r.port = 512 then 0 else 16) + r.sel.q % 16
    ((d.lineLess l (32 + n)).releaseEntry e).inc (Reg.EGR_STAT_COUNT 0)

/-- The request line of a frame selected for port 512 or 515. -/
def PuntRec.line (r : PuntRec) : Nat := (if r.port = 512 then 0 else 16) + r.sel.q % 16

/-- A buffer is the next of its queue to be completed: buffers complete in the order of posting (R492, R498). A buffer that is gone
keeps nothing waiting. -/
def Device.bufTurn (d : Device) (q id : Nat) : Bool :=
  match d.bufsOf q with
  | b :: rest => b.op.id == id || rest.all fun x => x.op.id != id
  | [] => true

/-- PUNT_DELIVER: the oldest frame selected whose line and function may be served, or a transmit stamp (KIND 5), into the next buffer of its
queue. -/
def Device.puntDeliver (d : Device) (stamp : Bool) : Device :=
  if stamp then
    match d.host.stamps.find? fun s => ((d.freeBuf s.pq).any fun b => d.bufTurn s.pq b.op.id) && d.dmaOk (d.owner s.pq) && d.lineOpen 32 with
    | none => d
    | some s =>
      match d.freeBuf s.pq with
      | none => d
      | some b =>
        let d := d.onHost fun h => { h with stamps := h.stamps.erase s }
        (d.bufDone s.pq b (stampRecord s) 1 false).lineLess 32 32
  else
    match d.host.punt.find? fun r => d.bufTurn r.pq r.buf && d.dmaOk (d.owner r.pq) && d.lineOpen r.line with
    | none => d
    | some r => d.puntFrame r

/-- STAMP_TIMEOUT: the oldest KIND 5 record that has found no buffer for 1 ms (R500). -/
def Device.stampTimeout (d : Device) : Device :=
  match d.host.stamps.find? fun s => (d.freeBuf s.pq).isNone with
  | none => d
  | some s => (d.onHost fun h => { h with stamps := h.stamps.erase s }).inc Reg.HQ_GLB_STAT_STAMP_LOST

/-- BUFFER_FLUSH_TIMEOUT: FLUSH_US after its first record a LEARN or AUDIT buffer completes (R498). -/
def Device.bufFlush (d : Device) (q : Nat) : Device :=
  match d.bufsOf q with
  | b :: _ =>
    if b.recs ≠ 0 ∧ d.get (Reg.HQ_SQ_CFG_TYPE q) ≠ 1 ∧ d.dmaOk (d.owner q) then d.bufDone q b b.data b.recs false else d
  | [] => d

/-! ### Functions (R65, R483, R501) -/

/-- FLR of a function, or VF Enable 0 for the VFs (R501). -/
def Device.flr (d : Device) (func : Nat) (vfDisable : Bool) : Device :=
  if !d.pcieUp then d
  else if vfDisable then
    let d := d.each (List.range 63) fun d v => d.flrVf (v + 1)
    d.onHost fun h => { h with vfEn := false, bme := h.bme.filter fun e => e.1 == 0, mse := h.mse.filter fun e => e.1 == 0,
                               d3 := h.d3.filter fun e => e.1 == 0 }
  else if func = 0 then d.flrPf0
  else if d.host.vfEn then d.flrVf func
  else d

/-- Bus Master Enable and D3hot of a function change (R483). -/
def Device.busMaster (d : Device) (func : Nat) (bme d3 : Bool) : Device :=
  d.onHost fun h => { h with bme := mset (fun _ => false) h.bme func bme, d3 := mset (fun _ => false) h.d3 func d3 }

/-- Memory Space Enable of a function changes (R483). -/
def Device.memSpace (d : Device) (func : Nat) (en : Bool) : Device :=
  d.onHost fun h => { h with mse := mset (fun _ => false) h.mse func en }

/-- VF Enable is written 1: without effect in Selvedge mode (R65). -/
def Device.vfEnable (d : Device) : Device :=
  if d.inSelvedge || !d.pcieUp then d else d.onHost fun h => { h with vfEn := true }

/-! ### Meanings -/

/-- SQ_FETCH (R488): the entries as read from host memory, none where the read failed. -/
def execSqFetch (entries : List (Option (List Byte))) (s : State) : Host.Outcome State Fault Refusal :=
  s.run (·.sqFetch entries)

/-- COMPLETION_WRITE (R493). -/
def execCompletionWrite (cq : Fin 512) (s : State) : Host.Outcome State Fault Refusal := s.run (·.cqWrite cq.val)

/-- MSIX_SIGNAL (R494): `masked` says that the vector is masked. -/
def execMsixSignal (cq : Fin 512) (masked : Bool) (s : State) : Host.Outcome State Fault Refusal :=
  s.run (·.msixSignal cq.val masked)

/-- CQ_TIMER_EXPIRE (R494). -/
def execCqTimerExpire (cq : Fin 512) (masked : Bool) (s : State) : Host.Outcome State Fault Refusal :=
  s.run (·.cqTimer cq.val masked)

/-- INJECT_PIPELINE (R497): the frame as read, none when the read failed. -/
def execInjectPipeline (frame : Option (List Byte)) (s : State) : Host.Outcome State Fault Refusal :=
  s.run (·.inject 1 frame)

/-- INJECT_FIXED (R497). -/
def execInjectFixed (frame : Option (List Byte)) (s : State) : Host.Outcome State Fault Refusal :=
  s.run (·.inject 2 frame)

/-- POST (R498). -/
def execPost (sq : Fin 512) (s : State) : Host.Outcome State Fault Refusal := s.run (·.post sq.val)

/-- PUNT_DELIVER (R499): a frame, or a transmit stamp. -/
def execPuntDeliver (stamp : Bool) (s : State) : Host.Outcome State Fault Refusal := s.run (·.puntDeliver stamp)

/-- BUFFER_FLUSH_TIMEOUT (R498). -/
def execBufferFlushTimeout (sq : Fin 512) (s : State) : Host.Outcome State Fault Refusal := s.run (·.bufFlush sq.val)

/-- STAMP_TIMEOUT (R500). -/
def execStampTimeout (s : State) : Host.Outcome State Fault Refusal := s.run (·.stampTimeout)

/-- FLR (R501): of a function, or with `vfDisable` the clearing of VF Enable. -/
def execFlr (func : Fin 64) (vfDisable : Bool) (s : State) : Host.Outcome State Fault Refusal :=
  s.run (·.flr func.val vfDisable)

/-- BUS_MASTER_CHANGE (R483). -/
def execBusMasterChange (func : Fin 64) (bme d3hot : Bool) (s : State) : Host.Outcome State Fault Refusal :=
  s.run (·.busMaster func.val bme d3hot)

/-- MEMORY_SPACE_ENABLE_CHANGE (R483). -/
def execMemorySpaceEnableChange (func : Fin 64) (en : Bool) (s : State) : Host.Outcome State Fault Refusal :=
  s.run (·.memSpace func.val en)

/-- VF_ENABLE (R65). -/
def execVfEnable (s : State) : Host.Outcome State Fault Refusal := s.run (·.vfEnable)

end Sys2Proof.Machine
end

