-- ==== Sys2Proof/Machine/Dma.lean ====
section
/-!
DEFINITION. The DMA engine: descriptors and their checks, bursts and their arbitration, withdrawn requests (R510 to R519), with
the meanings of their commands.
-/
namespace Sys2Proof.Machine

/-! ### Checks (R517 to R519) -/

/-- A side of an entry: address space, FIXED, WIDTH in bytes, address. -/
abbrev DmaSide := Nat × Bool × Nat × Nat

/-- The number of bytes from the address that a side of `n` bytes covers: WIDTH on a fixed side. -/
def sideSpan (s : DmaSide) (n : Nat) : Nat := if s.2.1 then s.2.2.1 else n

/-- The width rules of R515: a fixed side and a REG side move whole accesses. -/
def sideLenBad (s : DmaSide) (n : Nat) : Bool := (s.2.1 || s.1 == 2) && n % s.2.2.1 != 0

/-- The address rules: alignment of a fixed or REG address, and the extent of the shared SRAM. -/
def sideAddrBad (s : DmaSide) (n : Nat) : Bool :=
  ((s.2.1 || s.1 == 2) && s.2.2.2 % s.2.2.1 != 0) || (s.1 == 3 && decide (16777216 < s.2.2.2 + sideSpan s n))

/-- The pool handle and the offset of a POOL address. -/
def poolAddr (a : Nat) : Nat × Nat := (a / 2 ^ 32 % 2 ^ 32, a % 2 ^ 32)

/-- A POOL side names a handle that the owner does not hold, or passes the end of the buffer. -/
def Device.sidePoolBad (d : Device) (o : Nat) (s : DmaSide) (n : Nat) : Bool :=
  s.1 == 1 &&
    (let (h, off) := poolAddr s.2.2.2
     let b := d.pbuf (handleClass h) (handleIndex h)
     !handleOk h || b.owner != some o || b.gen != handleGen h
      || decide (poolBytes (handleClass h) < off + sideSpan s n))

/-- The ranges of a COPY overlap so that a byte would be read after it was written (R517). -/
def overlaps (src dst : DmaSide) (n : Nat) : Bool :=
  let (s, e) := if src.1 = 1 then ((poolAddr src.2.2.2).2, (poolAddr dst.2.2.2).2) else (src.2.2.2, dst.2.2.2)
  src.1 == dst.1 && (src.1 != 1 || (poolAddr src.2.2.2).1 == (poolAddr dst.2.2.2).1)
    && decide (s < e) && decide (e < s + sideSpan src n)

/-- A reserved bit or byte of a DMA entry is set. -/
def HostOp.dmaReserved (o : HostOp) : Bool :=
  bits (o.byte 1) 3 0 != 0 || bits (o.byte 2) 3 0 != 0 || !allZero o.bytes 28 36
    || (o.byte 0 == 2 && bits (o.byte 1) 7 5 != 0)

/-- The checks of a descriptor, in the order of R519: the first failing status, 0 for none. -/
def Device.descBad (d : Device) (o : HostOp) : Nat :=
  let f := d.owner o.sq
  let n := o.dmaLen
  let copy := o.byte 0 == 1
  let sides := if copy then [o.src, o.dst] else [o.dst]
  if o.badQctl then 0x40
  else if o.byte 0 ≠ 1 ∧ o.byte 0 ≠ 2 ∨ o.dmaReserved then 0x41
  else if sides.any fun s => s.1 == 0 && s.2.2.2 == 0 then 0x42
  else if n = 0 ∨ 16777216 < n ∨ sides.any fun s => sideLenBad s n then 0x43
  else if sides.any fun s => sideAddrBad s n then 0x42
  else if f ≠ 0 ∧ sides.any fun s => s.1 == 3 then 0x45
  else if sides.any fun s => d.sidePoolBad f s n then 3
  else if copy ∧ overlaps o.src o.dst n then 1
  else 0

/-- A DMA entry completes (R519, R526): the bytes written stand in bytes 4 to 7. -/
def Device.descEnd (d : Device) (o : HostOp) (status detail bytes : Nat) : Device :=
  let d := d.inc (Reg.DMA_STAT_COUNT (if status = 0 then 2 else 3))
  let d := d.when (status == 1) fun d => d.inc (Reg.DMA_STAT_COUNT 4)
  (d.finishOp o status detail (leBytes 4 bytes)).poolSweep

/-- The oldest entry of the queue that a descriptor-mode channel serves, unless one is in progress. -/
def Device.descHead (d : Device) (c : Nat) : Option HostOp :=
  if (d.descOf c).isSome then none
  else (chanSq (d.rd (Reg.DMA_CHAN c))).bind fun q => d.host.ops.find? fun o => o.sq == q

/-- Entries that are neither COPY nor FILL, or whose QCTL is reserved, complete in their turn. -/
def descHeads (c : Nat) : Nat → Device → Device
  | 0, d => d
  | fuel + 1, d =>
    match d.descHead c with
    | none => d
    | some o => if o.badQctl || (o.byte 0 != 1 && o.byte 0 != 2) then descHeads c fuel (d.descEnd o (d.descBad o) 0 0) else d

/-- COPY and FILL: the next entry of channel `c`, if it has this OPCODE, is checked and its transfer begins (R518). -/
def Device.descStart (d : Device) (c op : Nat) : Device :=
  let d := descHeads c d.host.ops.length d
  match d.descHead c with
  | none => d
  | some o =>
    if o.byte 0 ≠ op ∨ !d.dmaOk (d.owner o.sq) then d
    else
      let bad := d.descBad o
      if bad ≠ 0 then d.descEnd o bad 0 0
      else d.onDma fun x => { x with desc := mset (fun _ => none) x.desc c (some { op := o }) }

/-! ### Moving bytes (R515, R516) -/

/-- The requester of a descriptor's register accesses: the owner function. Its PCIe ID is not part of the device's state; the
function number stands for it. -/
def dmaRequester (f : Nat) : Requester :=
  if f = 0 then .pf0 0 else .vf (Fin.ofNat 64 f) (BitVec.ofNat 16 f)

/-- The address of byte `i` of a side. -/
def sideByte (s : DmaSide) (i : Nat) : Nat := if s.2.1 then s.2.2.2 + i % s.2.2.1 else s.2.2.2 + i

/-- The addresses of the register accesses of bytes `done` to `done + n - 1` of a side. -/
def sideAccesses (s : DmaSide) (done n : Nat) : List Nat :=
  (List.range (n / s.2.2.1)).map fun j => sideByte s (done + j * s.2.2.1)

/-- What a read or a write of registers met: the bytes that went through, and the reason that ended it. -/
abbrev Moved := List Byte × Option Nat

/-- Read registers in order until one is a bus error. -/
def regReads (rq : Requester) (w : Nat) : List Nat → Device → Moved × Device
  | [], d => (([], none), d)
  | a :: as, d =>
    match d.readError rq a w true, d.busReadV rq a w true none with
    | some (_, r), (_, d) => (([], some r.code), d)
    | none, (v, d) =>
      let ((bs, e), d) := regReads rq w as d
      ((leBytes w (v.getD 0) ++ bs, e), d)

/-- Write registers in order until one is a bus error; the number of bytes written. -/
def regWrites (rq : Requester) (w : Nat) : List Nat → List Byte → Device → Nat × Option Nat × Device
  | [], _, d => (0, none, d)
  | a :: as, bs, d =>
    if bs.length < w then (0, none, d)
    else match d.busWriteR rq false a w true (leNat (bs.take w)) with
      | (.err r, d) => (0, some r.code, d)
      | (_, d) =>
        let (n, e, d) := regWrites rq w as (bs.drop w) d
        (n + w, e, d)

/-- The source bytes of a burst. `host` is what host memory gave: fewer bytes than asked for say that a read failed. -/
def Device.burstRead (d : Device) (o : HostOp) (done n : Nat) (host : List Byte) : Moved × Device :=
  let s := o.src
  if o.byte 0 = 2 then
    let a := sideByte o.dst
    (((List.range n).map fun i => (slice o.bytes 8 8).getD (a (done + i) % 8) 0, none), d)
  else if s.1 = 0 then ((host.take n, if host.length < n then some 0 else none), d)
  else if s.1 = 1 then
    (((List.range n).map fun i => d.poolByte (poolAddr s.2.2.2).1 (sideByte s (done + i) % 2 ^ 32), none), d)
  else if s.1 = 2 then regReads (dmaRequester (d.owner o.sq)) s.2.2.1 (sideAccesses s done n) d
  else (((List.range n).map fun i => (d.sramRead (sideByte s (done + i)) 1).getD 0 0, none), d)

/-- Write the bytes of a burst, whole accesses on a fixed side; how many were written and the reason that ended it. -/
def Device.burstWrite (d : Device) (o : HostOp) (done : Nat) (bs : List Byte) : Nat × Option Nat × Device :=
  let t := o.dst
  let bs := if t.2.1 then bs.take (bs.length / t.2.2.1 * t.2.2.1) else bs
  let n := bs.length
  if t.1 = 0 then
    let d := if t.2.1 then
        d.each (List.range (n / t.2.2.1)) fun d j =>
          d.emit (.hostWrite (d.owner o.sq) t.2.2.2 (slice bs (j * t.2.2.1) t.2.2.1))
      else if n = 0 then d else d.emit (.hostWrite (d.owner o.sq) (t.2.2.2 + done) bs)
    (n, none, d)
  else if t.1 = 1 then
    (n, none, d.each (List.range n) fun d i =>
      d.poolPut (poolAddr t.2.2.2).1 (sideByte t (done + i) % 2 ^ 32) (bs.getD i 0))
  else if t.1 = 2 then regWrites (dmaRequester (d.owner o.sq)) t.2.2.1 (sideAccesses t done n) bs d
  else (n, none, d.each (List.range n) fun d i => d.sramStore (sideByte t (done + i)) [bs.getD i 0])

/-! ### Bursts (R512 to R514) -/

/-- BURST_START: the burst of the channel of the highest level, round-robin within the level (R513). -/
def Device.burstStart (d : Device) : Device :=
  let c := (List.range 32).filter d.chanPending
  let prio := fun (x : Nat) => d.get (Reg.DMA_CHAN_PRIO x)
  let top := c.foldl (fun m x => max m (prio x)) 0
  let last := d.dma.last.getD top 31
  let order := ((List.range 32).map fun i => (last + 1 + i) % 32).filter fun x => c.contains x && prio x == top
  match order with
  | [] => d
  | ch :: _ => match d.chanNext ch with
    | none => d
    | some (line, n) =>
      let d := d.onDma fun x => { x with last := x.last.set top ch,
                                         burst := mset (fun _ => none) x.burst ch (some { line := line, bytes := n }) }
      let d := d.when line.isSome fun d => d.onDma fun x =>
        { x with lineAt := mset (fun _ => 63) x.lineAt ch (line.getD 0) }
      let d := (d.put (Reg.DMA_CHAN_STATUS_BUSY ch) true).set (Reg.DMA_CHAN_STATUS_LINE ch) (line.getD 0)
      (d.set (Reg.DMA_CHAN_STATUS_BURST_LEFT ch) n).pmc 0x11 ch

/-- The burst of a telemetry line writes the oldest record (R570). -/
def Device.telWrite (d : Device) (k : Nat) : Device :=
  match lget d.tel.wait k, d.lineData (36 + k) with
  | (_, r) :: rest, some (f, addr, n) =>
    if nget d.dma.moved (36 + k) < n then d
    else
      let d := d.emit (.hostWrite f addr r)
      let d := { d with tel := { d.tel with wait := lset d.tel.wait k rest } }
      (d.inc (Reg.PMC_TEL_WIDX_WIDX k)).lineLess (36 + k) n
  | _, _ => d

/-- A line's burst completes. One whose request was withdrawn has moved its bytes to a buffer that its producer gave up. -/
def Device.lineBurstDone (d : Device) (l : Nat) (b : Burst) : Device :=
  let d := d.when (!b.cut) fun d => d.onDma fun x => { x with moved := nset x.moved l (nget x.moved l + b.bytes) }
  if 36 ≤ l ∧ l < 40 then d.telWrite (l - 36) else d

/-- A descriptor's burst completes: its bytes are written, and the descriptor goes on, or ends (R519). One whose queue was reset
meanwhile ends here, with no completion (R501). -/
def Device.descBurstDone (d : Device) (c : Nat) (b : Burst) (host : List Byte) : Device :=
  match d.descOf c with
  | none => d
  | some x =>
    let ((bs, re), d) := d.burstRead x.op x.done b.bytes host
    let (n, we, d) := d.burstWrite x.op x.done bs
    let d := d.inc (Reg.DMA_STAT_COUNT 1) n
    let done := x.done + n
    let ended := fun (d : Device) => d.onDma fun y => { y with desc := mset (fun _ => none) y.desc c none }
    if (d.descOf c).isNone then d
    else if x.gone then (ended d).poolSweep
    else match we, re with
      | some r, _ => (ended d).descEnd x.op 2 r done
      | none, some r => (ended d).descEnd x.op (if r = 0 then 0x44 else 2) r done
      | none, none =>
        if done = x.op.dmaLen then (ended d).descEnd x.op 0 0 done
        else d.onDma fun y => { y with desc := mset (fun _ => none) y.desc c (some { x with done := done }) }

/-- BURST_DONE on channel `c`; `host` gives the bytes that a read of host memory returned. -/
def Device.burstDone (d : Device) (c : Nat) (host : List Byte) : Device :=
  match d.burstOf c with
  | none => d
  | some b =>
    let d := d.onDma fun x => { x with burst := mset (fun _ => none) x.burst c none }
    let d := (d.put (Reg.DMA_CHAN_STATUS_BUSY c) false).set (Reg.DMA_CHAN_STATUS_BURST_LEFT c) 0
    let d := d.inc (Reg.DMA_STAT_COUNT 0)
    match b.line with
    | some l => (d.inc (Reg.DMA_STAT_COUNT 1) b.bytes).lineBurstDone l b
    | none => d.descBurstDone c b host

/-- REQUEST_WITHDRAW: a line whose data, buffer, enable or bus mastering has gone away requests no more. A burst in progress
completes; what has been moved of the data counts for nothing, since it stays with its producer. -/
def Device.requestWithdraw (d : Device) (l : Nat) : Device :=
  if ((d.lineData l).any fun x => d.dmaOk x.1) && d.lineOpen l then d
  else (d.lineCut l).inc (Reg.DMA_STAT_COUNT 5)

/-! ### Meanings -/

/-- COPY (R518): on a descriptor-mode channel. -/
def execCopy (channel : Fin 32) (s : State) : Host.Outcome State Fault Refusal := s.run (·.descStart channel.val 1)

/-- FILL (R518). -/
def execFill (channel : Fin 32) (s : State) : Host.Outcome State Fault Refusal := s.run (·.descStart channel.val 2)

/-- BURST_START (R513). -/
def execBurstStart (s : State) : Host.Outcome State Fault Refusal := s.run (·.burstStart)

/-- BURST_DONE (R512): the bytes that reads of host memory returned, fewer than asked for when a read failed. -/
def execBurstDone (channel : Fin 32) (host : List Byte) (s : State) : Host.Outcome State Fault Refusal :=
  s.run (·.burstDone channel.val host)

/-- REQUEST_WITHDRAW (R514). -/
def execRequestWithdraw (line : Fin 64) (s : State) : Host.Outcome State Fault Refusal :=
  s.run (·.requestWithdraw line.val)

end Sys2Proof.Machine
end

