-- ==== Sys2Proof/Machine/Gaffer.lean ====
section
/-!
DEFINITION. The Gaffer services: the mailbox and its commands, continuity checks, port 513 and the watchdogs of the cores (R530 to
R547), with the meanings of their commands.
-/
namespace Sys2Proof.Machine

/-! ### The mailbox (R535 to R537) -/

/-- A row of the command catalogue: code, whether VFs may issue it, whether it is offered in Selvedge mode, the ROLE bit of the
service, the bytes of ARGS it uses, and whether it needs BUF_ADDR. -/
structure MboxCmd where
  code : Nat
  vf : Bool
  selv : Bool
  role : Nat
  args : Nat
  buf : Bool

/-- The catalogue (R537). -/
def mboxCmds : List MboxCmd :=
  [⟨0x01, true, true, 7, 0, false⟩, ⟨0x10, false, false, 0, 5, false⟩, ⟨0x11, false, false, 0, 9, false⟩,
   ⟨0x12, true, false, 0, 0, true⟩, ⟨0x20, false, false, 1, 14, true⟩, ⟨0x21, false, false, 1, 2, false⟩,
   ⟨0x22, true, false, 1, 2, false⟩, ⟨0x30, false, false, 2, 6, false⟩, ⟨0x31, false, false, 2, 44, false⟩]
  ++ [⟨0x32, true, false, 2, 2, false⟩, ⟨0x40, true, false, 3, 0, false⟩, ⟨0x50, false, true, 4, 7, false⟩,
   ⟨0x51, true, true, 4, 6, true⟩, ⟨0x52, false, false, 4, 6, true⟩, ⟨0x60, true, true, 5, 8, true⟩,
   ⟨0x70, false, true, 6, 1, false⟩, ⟨0x71, false, true, 6, 8, true⟩, ⟨0x72, false, true, 6, 12, false⟩,
   ⟨0x80, false, false, 7, 3, true⟩]

/-- The catalogue row of an OPCODE. -/
def mboxCmd (op : Nat) : Option MboxCmd := mboxCmds.find? fun c => c.code == op

/-- The head of a mailbox queue, unless its command runs: the commands of one SQ run one at a time. -/
def Device.mboxHead (d : Device) (q : Nat) : Option HostOp :=
  if d.get (Reg.HQ_SQ_CFG_TYPE q) ≠ 5 then none
  else match d.host.ops.find? fun o => o.sq == q with
    | some o => if o.taken then none else some o
    | none => none

/-- The checks of a command before its own: the common codes of R491, then those of R536. -/
def Device.mboxBad (d : Device) (o : HostOp) : Option Nat :=
  if o.badQctl then some 0x40
  else match mboxCmd (o.byte 0) with
    | none => some 0x41
    | some c =>
      if c.buf ∧ o.field 8 8 = 0 then some 0x42
      else if 16777216 < o.field 16 4 then some 0x43
      else if !c.vf ∧ d.owner o.sq ≠ 0 then some 0x45
      else if o.byte 1 ≠ 0 ∨ o.byte 2 ≠ 0 ∨ !allZero o.bytes (20 + c.args) (44 - c.args) then some 1
      else if (d.inSelvedge ∧ !c.selv) ∨ (d.serviceCore c.role).isNone then some 5
      else none

/-- Commands whose QCTL is reserved or whose OPCODE is not in the catalogue complete in their turn. -/
def mboxHeads (q : Nat) : Nat → Device → Device
  | 0, d => d
  | fuel + 1, d =>
    match d.mboxHead q with
    | none => d
    | some o =>
      if o.badQctl then mboxHeads q fuel (d.mboxDone o 0x40)
      else if (mboxCmd (o.byte 0)).isNone then mboxHeads q fuel (d.mboxDone o 0x41) else d

/-- Commands that run. -/
def Device.mboxRunning (d : Device) : Nat :=
  (d.host.ops.filter fun o => o.taken && d.get (Reg.HQ_SQ_CFG_TYPE o.sq) == 5).length

/-- What a command needs before it can run is taken: the flash, the 16 places of JMGMT, or request line 35. It waits in its SQ. -/
def Device.mboxBlocked (d : Device) (o : HostOp) : Bool :=
  match o.byte 0 with
  | 0x60 => !d.lineOpen 35
  | 0x71 | 0x72 => d.gaffer.flashOp.isSome
  | 0x80 => decide (16 ≤ d.gaffer.jm.length)
  | _ => false

/-- The mailbox SQs that have a command waiting which could run. -/
def Device.mboxWaiting (d : Device) : List Nat :=
  d.host.ops.filterMap fun o =>
    if d.mboxHead o.sq == some o && d.dmaOk (d.owner o.sq) && !d.mboxBlocked o then some o.sq else none

/-- It is the turn of a mailbox SQ: no SQ that waits stands before it in the rotation (R535). -/
def Device.mboxTurn (d : Device) (q : Nat) : Bool :=
  let far := fun x => (x + 512 - d.gaffer.rr) % 512
  d.mboxWaiting.all fun x => decide (far q ≤ far x)

/-- The firmware takes the head command of a mailbox queue, in its turn, if it has this OPCODE. -/
def Device.mbox (d : Device) (op q : Nat) (f : HostOp → Device → Device) : Device :=
  if !d.flag Reg.SVC_STATUS_READY || !d.dmaOk (d.owner q) || decide (64 ≤ d.mboxRunning) || !d.mboxTurn q then d
  else
    let d := mboxHeads q d.host.ops.length d
    match d.mboxHead q with
    | none => d
    | some o =>
      if o.byte 0 ≠ op ∨ d.mboxBlocked o then d
      else
        let d := d.onGaf fun g => { g with rr := (q + 1) % 512 }
        match d.mboxBad o with
        | some st => d.mboxDone o st
        | none => f o d

/-- A command goes on running. -/
def Device.mboxTake (d : Device) (o : HostOp) : Device :=
  d.onHost fun h => { h with ops := h.ops.map fun x => if x.id = o.id then { x with taken := true } else x }

/-- Write to BUF_ADDR. -/
def Device.mboxOut (d : Device) (o : HostOp) (bs : List Byte) : Device :=
  if bs.isEmpty then d else d.emit (.hostWrite (d.owner o.sq) (o.field 8 8) bs)

/-- The Gaffer core of a service as a requester. -/
def Device.coreBy (d : Device) (role : Nat) : Requester := .gaffer (Fin.ofNat 16 ((d.serviceCore role).getD 0))

/-! ### Firmware, PTP, learning -/

/-- The cores that run, as a mask. -/
def Device.coresRunning (d : Device) : Nat :=
  ((List.range 16).filter fun n => let s := d.get (Reg.SVC_CORE_STATE n); s == 1 || s == 2).foldl (fun m n => m + 2 ^ n) 0

/-- VERSION. -/
def Device.fwVersion (d : Device) (o : HostOp) : Device := d.mboxDone o 0 0 d.gaffer.fwVer d.coresRunning

/-- PTP_CLOCK_SET: the profile in byte 20, the clock type, the domain and the two priorities behind it. -/
def Device.ptpClockSet (d : Device) (o : HostOp) : Device :=
  if 2 < o.byte 20 then d.mboxDone o 1
  else (d.onGaf fun g => { g with ptpClock := slice o.bytes 20 5 }).mboxDone o 0

/-- PTP_PORT_SET: the port in bytes 20 and 21, the rest of the arguments behind it. -/
def Device.ptpPortSet (d : Device) (o : HostOp) : Device :=
  if 512 ≤ o.field 20 2 then d.mboxDone o 1
  else (d.onGaf fun g => { g with ptpPort := lset g.ptpPort (o.field 20 2) (slice o.bytes 22 7) }).mboxDone o 0

/-- PTP_STATUS: state, parent and the last 64 offsets as the stack holds them, which the model does not: free values. -/
def Device.ptpStatus (d : Device) (o : HostOp) : Device :=
  let (v, d) := d.draw
  (d.mboxOut o (leBytes (min (o.field 16 4) 528) v)).mboxDone o 0

/-- LEARN_STATUS. -/
def Device.learnStatus (d : Device) (o : HostOp) : Device := d.mboxDone o 0 0 d.mrv.fwInserts d.mrv.fwFull

/-! ### MEPs (R539, R540) -/

/-- A MEP. -/
def Device.mep (d : Device) (n : Nat) : Option Mep := mget (fun _ => none) d.gaffer.mep n

/-- Store a MEP. -/
def Device.setMep (d : Device) (n : Nat) (m : Option Mep) : Device :=
  d.onGaf fun g => { g with mep := mset (fun _ => none) g.mep n m }

/-- MEP_CREATE, with the MEG ID read from BUF_ADDR. -/
def Device.mepCreate (d : Device) (meg : Option (List Byte)) (o : HostOp) : Device :=
  let n := o.field 20 2
  let g := o.field 32 2
  if o.field 16 4 ≠ 48 then d.mboxDone o 0x43
  else if 16384 ≤ n ∨ 512 ≤ o.field 22 2 ∨ 4096 ≤ o.field 24 2 ∨ bits (o.byte 26) 3 0 = 0 ∨ 7 < bits (o.byte 26) 3 0
      ∨ 7 < o.byte 27 ∨ o.field 28 2 = 0 ∨ 8191 < o.field 28 2 ∨ 8191 < o.field 30 2 ∨ bits g 13 12 ≠ 0 then d.mboxDone o 1
  else if (d.mep n).isSome then d.mboxDone o 4
  else match meg with
    | none => d.mboxDone o 0x44
    | some bs =>
      let m : Mep := { port := o.field 22 2, vid := o.field 24 2, level := bits (o.byte 26) 7 5, up := bit (o.byte 26) 4,
                       period := bits (o.byte 26) 3 0, pcp := o.byte 27, mepid := o.field 28 2, rmepid := o.field 30 2,
                       bind := bit g 15, side := bit g 14, group := bits g 11 0, meg := slice bs 0 48, lastRx := d.ft }
      (d.setMep n (some m)).mboxDone o 0

/-- MEP_DELETE. -/
def Device.mepDelete (d : Device) (o : HostOp) : Device :=
  let n := o.field 20 2
  if 16384 ≤ n then d.mboxDone o 1
  else if (d.mep n).isNone then d.mboxDone o 3 else (d.setMep n none).mboxDone o 0

/-- MEP_STATUS. -/
def Device.mepStatus (d : Device) (o : HostOp) : Device :=
  let n := o.field 20 2
  if 16384 ≤ n then d.mboxDone o 1
  else match d.mep n with
    | none => d.mboxDone o 3
    | some m => d.mboxDone o 0 0 (b2n m.loc + 2 * b2n m.rdi + 4 * b2n m.mismatch) m.rx

/-- On a LOC change of a bound MEP the firmware writes the SF command of its member (R540). -/
def Device.mepSf (d : Device) (m : Mep) (on : Bool) : Device :=
  if m.bind && (d.serviceCore 1).isSome then
    let cmd := (if m.side then 6 else 4) + b2n (!on)
    d.busPair (d.coreBy 1) Reg.PRT_GRP_CMD (2 ^ 16 * m.group + cmd)
  else d

/-- Three periods of a period code, in ns. -/
def ccmTriple (code : Nat) : Nat :=
  match code with
  | 1 => 10000000
  | 2 => 30000000
  | 3 => 300000000
  | 4 => 3000000000
  | 5 => 30000000000
  | 6 => 180000000000
  | _ => 1800000000000

/-- The CCM of a MEP, without FCS. Its layout is that of Y.1731 (PRESUMED), the source address that of the firmware's
template, a free value. -/
def ccmBytes (m : Mep) (sa : Nat) : List Byte :=
  let tag := if m.vid = 0 then [] else beBytes 2 0x8100 ++ beBytes 2 (m.pcp * 8192 + m.vid)
  beBytes 6 (0x0180C2000030 + m.level) ++ beBytes 6 sa ++ tag ++ beBytes 2 0x8902 ++ beBytes 1 (m.level * 32) ++ beBytes 1 1
    ++ beBytes 1 (128 * b2n m.loc + m.period) ++ beBytes 1 70 ++ beBytes 4 0 ++ beBytes 2 m.mepid ++ m.meg
    ++ List.replicate 17 0

/-- CCM_TRANSMIT: as a frame of port 513, straight to the port of a down MEP and through the lookup for an up MEP. -/
def Device.ccmTransmit (d : Device) (n : Nat) : Device :=
  match d.mep n with
  | none => d
  | some m =>
    if d.unit.muted then d
    else
      let (sa, d) := d.draw
      let (id, d) := d.freshId
      let dec : Decision := if m.up then {} else { dest := .port m.port, tc := m.pcp, queue := m.pcp }
      let f : Frame := { id := id, bytes := ccmBytes m sa, src := 513, arrival := d.us, fixed := !m.up, dec := dec }
      d.onPath fun p => { p with intReady := lpush p.intReady 513 f }

/-- CCM_RECEIVE: the MEG ID, level, MEPID, period and RDI of a CCM that reaches a MEP. -/
def Device.ccmReceive (d : Device) (n : Nat) (meg : List Byte) (level mepid period : Nat) (rdi : Bool) : Device :=
  match d.mep n with
  | none => d
  | some m =>
    let ok := slice meg 0 48 == m.meg && level == m.level && mepid == m.rmepid && period == m.period
    if ok then
      let d := d.setMep n (some { m with rx := m.rx + 1, lastRx := d.ft, rdi := rdi, mismatch := false, loc := false })
      if m.loc then d.mepSf m false else d
    else d.setMep n (some { m with rx := m.rx + 1, mismatch := true })

/-- LOC_CHECK: no valid CCM for 3.5 periods (R539). -/
def Device.locCheck (d : Device) (n : Nat) : Device :=
  match d.mep n with
  | none => d
  | some m =>
    if !m.loc && decide (7 * ccmTriple m.period * 65536 ≤ 6 * (d.ft - m.lastRx)) then
      (d.setMep n (some { m with loc := true })).mepSf m true
    else d

/-! ### Protection protocols (R541) -/

/-- APS_LINEAR_SET: the group in bytes 20 and 21, the mode in byte 22, the MEP of the APS channel in bytes 24 and 25. -/
def Device.apsLinear (d : Device) (o : HostOp) : Device :=
  let g := o.field 20 2
  if 4096 ≤ g ∨ 1 < o.byte 22 ∨ 16384 ≤ o.field 24 2 then d.mboxDone o 1
  else if (d.mep (o.field 24 2)).isNone then d.mboxDone o 3
  else (d.onGaf fun x => { x with linear := lset x.linear g (slice o.bytes 20 6) }).mboxDone o 0

/-- APS_RING_SET: the ring in bytes 20 and 21, what it names behind it. -/
def Device.apsRing (d : Device) (o : HostOp) : Device :=
  (d.onGaf fun x => { x with ring := lset x.ring (o.field 20 2) (slice o.bytes 20 44) }).mboxDone o 0

/-- APS_STATUS: the requests as the protocol holds them, which the model does not: free values. -/
def Device.apsStatus (d : Device) (o : HostOp) : Device :=
  let g := o.field 20 2
  if (lget d.gaffer.linear g).isEmpty && (lget d.gaffer.ring g).isEmpty then d.mboxDone o 3
  else
    let (v, d) := d.draw
    d.mboxDone o 0 0 v

/-! ### Survey, I²C, ledger -/

/-- SURVEY: SRV_CTRL is written (R88). A lane survey's command completes when the survey ends. DEDUCED: one that would resolve ports writes
their configuration, which is replicated, so a standby refuses it (R374, R543). -/
def Device.surveyCmd (d : Device) (o : HostOp) : Device :=
  let scope := o.byte 20
  if 1 < scope ∨ o.byte 21 ≠ 0 ∨ 512 ≤ o.field 22 2 ∨ 512 ≤ o.field 24 2 ∨ 1 < o.byte 26
      ∨ (scope = 0 ∧ o.field 24 2 < o.field 22 2) then d.mboxDone o 1
  else if d.inSelvedge then d.mboxDone o 0
  else if scope = 0 ∧ o.byte 26 = 1 ∧ d.role = roleStandby then d.mboxDone o 7
  else
    let v := 2 ^ 31 + (if d.flag Reg.SRV_CTRL_AUTO_RESURVEY then 2 ^ 30 else 0) + 2 ^ 29 * (o.byte 26 % 2) + 2 ^ 24 * scope
      + 2 ^ 9 * o.field 24 2 + o.field 22 2
    match d.busWriteR (d.coreBy 4) false Reg.SRV_CTRL 4 true v with
    | (.err r, d) => d.mboxDone o 6 r.code
    | (_, d) =>
      if scope = 0 ∧ d.flag Reg.SRV_STATUS_BUSY then
        (d.mboxTake o).onGaf fun g => { g with surveyOps := g.surveyOps ++ [o.id] }
      else d.mboxDone o 0

/-- The arguments of an I²C command: master, channel, address, page, offset and length. -/
def i2cOk (o : HostOp) : Bool :=
  decide (o.byte 20 < 16) && decide (o.byte 21 < 8) && decide (o.byte 22 < 128) && decide (o.byte 25 ≤ 128)

/-- I2C_READ: what the module gave, none for no acknowledge or clock stretching above 10 ms. -/
def Device.i2cRead (d : Device) (read : Option (List Byte)) (o : HostOp) : Device :=
  let n := o.byte 25
  if !i2cOk o then d.mboxDone o 1
  else if o.field 16 4 < n then d.mboxDone o 0x43
  else
    let d := d.emit (.board "I2C_READ" ((slice o.bytes 20 6).map BitVec.toNat))
    match read with
    | none => d.mboxDone o 9
    | some bs => (d.mboxOut o (slice bs 0 n)).mboxDone o 0

/-- I2C_WRITE: the bytes read from BUF_ADDR, none when the read failed, and whether the module acknowledged. -/
def Device.i2cWrite (d : Device) (data : Option (List Byte)) (ack : Bool) (o : HostOp) : Device :=
  let n := o.byte 25
  if !i2cOk o then d.mboxDone o 1
  else if o.field 16 4 < n then d.mboxDone o 0x43
  else match data with
    | none => d.mboxDone o 0x44
    | some bs =>
      (d.emit (.board "I2C_WRITE" ((slice o.bytes 20 6 ++ slice bs 0 n).map BitVec.toNat))).mboxDone o (if ack then 0 else 9)

/-- LEDGER_READ: by request line 35 (R511). While the ledger is erased it reads 0 (R565). -/
def Device.ledgerCmd (d : Device) (o : HostOp) : Device :=
  let off := o.field 20 4
  let n := o.field 24 4
  if 0x400000 < off + n then d.mboxDone o 1
  else if o.field 16 4 < n then d.mboxDone o 0x43
  else
    let bs := if d.ledger.erasing then List.replicate n 0 else d.ledRead off n
    (d.mboxOut o bs).mboxDone o 0

/-! ### Flash -/

/-- FLASH_VERIFY: the checks of R50. -/
def Device.flashVerify (d : Device) (o : HostOp) : Device :=
  if 1 < o.byte 20 then d.mboxDone o 1 else d.mboxDone o 0 0 (d.imageCheck (o.byte 20)).1

/-- Flash work on a slot is refused: 1 for an argument, 8 for protection (R46, R74, R536). -/
def Device.flashBad (d : Device) (slot off n : Nat) : Option Nat :=
  if 3 < slot ∨ d.flash.quarter < off + n then some 1
  else if slot = 2 ∨ (slot < 2 ∧ !bit (d.rd Reg.GLB_FLASH_WE) slot) then some 8
  else none

/-- FLASH_WRITE: the slot in byte 20, the offset in bytes 24 to 27; the bytes as read from BUF_ADDR. One work at a time. -/
def Device.flashWriteCmd (d : Device) (data : Option (List Byte)) (o : HostOp) : Device :=
  let n := o.field 16 4
  match d.flashBad (o.byte 20) (o.field 24 4) n with
  | some st => d.mboxDone o st
  | none =>
    match data with
    | none => d.mboxDone o 0x44
    | some bs =>
      let w : FlashWork := ⟨o.id, o.byte 20, o.field 24 4, n, some (slice bs 0 n)⟩
      (d.mboxTake o).onGaf fun g => { g with flashOp := some w }

/-- FLASH_ERASE: the slot in byte 20, offset and length in bytes 24 to 31. -/
def Device.flashEraseCmd (d : Device) (o : HostOp) : Device :=
  let off := o.field 24 4
  let n := o.field 28 4
  match d.flashBad (o.byte 20) off n with
  | some st => d.mboxDone o st
  | none =>
    if off % d.flash.erase ≠ 0 ∨ n % d.flash.erase ≠ 0 then d.mboxDone o 1
    else (d.mboxTake o).onGaf fun g => { g with flashOp := some ⟨o.id, o.byte 20, off, n, none⟩ }

/-- FLASH_WORK_DONE: the flash holds what was asked for, and the command completes (R535). -/
def Device.flashDone (d : Device) : Device :=
  match d.gaffer.flashOp with
  | none => d
  | some w =>
    let d := d.onGaf fun g => { g with flashOp := none }
    let d := match w.data with
      | some bs => d.flashWrite w.slot w.off bs
      | none => d.flashErase w.slot w.off w.len
    d.mboxById w.op 0

/-! ### JMGMT (R538) -/

/-- JMGMT: the operation records as read from BUF_ADDR. At most 16 are outstanding. -/
def Device.jmgmt (d : Device) (ops : Option (List Byte)) (o : HostOp) : Device :=
  let dev := o.field 20 2
  let n := o.byte 22
  if 4096 ≤ dev ∨ dev = d.get Reg.JFL_CFG_DEVID ∨ n = 0 ∨ 32 < n ∨ o.field 16 4 ≠ 16 * n then d.mboxDone o 1
  else if (d.route dev).isNone then d.mboxDone o 3
  else match ops with
    | none => d.mboxDone o 0x44
    | some bs =>
      let tag := (d.gaffer.mtag + 1) % 2 ^ 32
      let d := (d.mboxTake o).onGaf fun g => { g with jm := g.jm ++ [(o.id, tag)], mtag := tag }
      d.mgmtOriginate dev (mgmtPdu 1 tag ((List.range n).map fun i => slice bs (16 * i) 16))

/-- JMGMT_TIMEOUT: no response to the oldest request within 5 ms. -/
def Device.jmgmtTimeout (d : Device) : Device :=
  match d.gaffer.jm with
  | [] => d
  | (id, _) :: rest => (d.onGaf fun g => { g with jm := rest }).mboxById id 5

/-! ### Port 513 (R542) -/

/-- SERVICE_FRAME_SEND: a frame of port 513 by a descriptor laid out as an inject entry, its ADDR an offset in shared SRAM. One
that the checks of R496 would fail is not sent. -/
def Device.serviceSend (d : Device) (e : List Byte) : Device :=
  let o : HostOp := { id := 0, sq := 0, idx := 0, bno := 0, bytes := slice e 0 64 }
  let n := o.field 16 2
  let dest := o.field 18 2
  let fixed := o.byte 0 == 2
  let bad : Bool := (o.byte 0 != 1 && !fixed) || decide (n < 60) || decide (16379 < n)
    || decide (16777216 < o.field 8 8 + n) || (fixed && !bit (o.byte 2) 4 && (decide (515 < dest) || dest == 512 || dest == 514))
  if bad ∨ d.inSelvedge ∨ d.coresRunning = 0 then d
  else
    let (id, d) := d.freshId
    let f := injFrame o id 513 d.us (d.sramRead (o.field 8 8) n)
    d.onPath fun p => { p with intReady := lpush p.intReady 513 f }

/-! ### Watchdogs (R544) -/

/-- GAFFER_WATCHDOG: the core restarts; the third expiry within 60 s leaves it FAILED. -/
def Device.gafWatchdog (d : Device) (n : Nat) : Device :=
  let s := d.get (Reg.SVC_CORE_STATE n)
  if s ≠ 1 ∧ s ≠ 2 then d
  else
    let d := (d.coreRestart n).inc (Reg.SVC_STAT_COUNT 2)
    let recent := (lget d.gaffer.expiries n).filter fun t => decide (d.ft < t + 60 * secUnits)
    let d := d.onGaf fun g => { g with expiries := lset g.expiries n (recent ++ [d.ft]) }
    let d := (d.auditEvent 0xA n (d.get (Reg.SVC_CORE_RESTARTS n)) 0).event 8 n 0
    if 2 ≤ recent.length then
      (d.set (Reg.SVC_CORE_STATE n) 3).set Reg.SVC_STATUS_CORE_FAILED (setBit (d.get Reg.SVC_STATUS_CORE_FAILED) n true)
    else d

/-! ### Meanings -/

/-- VERSION (R537). -/
def execVersion (sq : Fin 512) (s : State) : Host.Outcome State Fault Refusal :=
  s.run (·.mbox 0x01 sq.val fun o d => d.fwVersion o)

/-- PTP_CLOCK_SET (R537). -/
def execPtpClockSet (sq : Fin 512) (s : State) : Host.Outcome State Fault Refusal :=
  s.run (·.mbox 0x10 sq.val fun o d => d.ptpClockSet o)

/-- PTP_PORT_SET (R537). -/
def execPtpPortSet (sq : Fin 512) (s : State) : Host.Outcome State Fault Refusal :=
  s.run (·.mbox 0x11 sq.val fun o d => d.ptpPortSet o)

/-- PTP_STATUS (R537). -/
def execPtpStatus (sq : Fin 512) (s : State) : Host.Outcome State Fault Refusal :=
  s.run (·.mbox 0x12 sq.val fun o d => d.ptpStatus o)

/-- MEP_CREATE (R540): the MEG ID as read from BUF_ADDR, none when the read failed. -/
def execMepCreate (sq : Fin 512) (meg : Option (List Byte)) (s : State) : Host.Outcome State Fault Refusal :=
  s.run (·.mbox 0x20 sq.val fun o d => d.mepCreate meg o)

/-- MEP_DELETE (R537). -/
def execMepDelete (sq : Fin 512) (s : State) : Host.Outcome State Fault Refusal :=
  s.run (·.mbox 0x21 sq.val fun o d => d.mepDelete o)

/-- MEP_STATUS (R537). -/
def execMepStatus (sq : Fin 512) (s : State) : Host.Outcome State Fault Refusal :=
  s.run (·.mbox 0x22 sq.val fun o d => d.mepStatus o)

/-- APS_LINEAR_SET (R541). -/
def execApsLinearSet (sq : Fin 512) (s : State) : Host.Outcome State Fault Refusal :=
  s.run (·.mbox 0x30 sq.val fun o d => d.apsLinear o)

/-- APS_RING_SET (R541). -/
def execApsRingSet (sq : Fin 512) (s : State) : Host.Outcome State Fault Refusal :=
  s.run (·.mbox 0x31 sq.val fun o d => d.apsRing o)

/-- APS_STATUS (R537). -/
def execApsStatus (sq : Fin 512) (s : State) : Host.Outcome State Fault Refusal :=
  s.run (·.mbox 0x32 sq.val fun o d => d.apsStatus o)

/-- LEARN_STATUS (R537). -/
def execLearnStatus (sq : Fin 512) (s : State) : Host.Outcome State Fault Refusal :=
  s.run (·.mbox 0x40 sq.val fun o d => d.learnStatus o)

/-- SURVEY (R537). -/
def execSurvey (sq : Fin 512) (s : State) : Host.Outcome State Fault Refusal :=
  s.run (·.mbox 0x50 sq.val fun o d => d.surveyCmd o)

/-- I2C_READ (R537): what the module gave, none for an I²C error. -/
def execI2cRead (sq : Fin 512) (read : Option (List Byte)) (s : State) : Host.Outcome State Fault Refusal :=
  s.run (·.mbox 0x51 sq.val fun o d => d.i2cRead read o)

/-- I2C_WRITE (R537): the bytes as read from BUF_ADDR, and whether the module acknowledged. -/
def execI2cWrite (sq : Fin 512) (data : Option (List Byte)) (ack : Bool) (s : State) :
    Host.Outcome State Fault Refusal := s.run (·.mbox 0x52 sq.val fun o d => d.i2cWrite data ack o)

/-- LEDGER_READ (R537). -/
def execLedgerRead (sq : Fin 512) (s : State) : Host.Outcome State Fault Refusal :=
  s.run (·.mbox 0x60 sq.val fun o d => d.ledgerCmd o)

/-- FLASH_VERIFY (R537). -/
def execFlashVerify (sq : Fin 512) (s : State) : Host.Outcome State Fault Refusal :=
  s.run (·.mbox 0x70 sq.val fun o d => d.flashVerify o)

/-- FLASH_WRITE (R537): the bytes as read from BUF_ADDR. -/
def execFlashWrite (sq : Fin 512) (data : Option (List Byte)) (s : State) : Host.Outcome State Fault Refusal :=
  s.run (·.mbox 0x71 sq.val fun o d => d.flashWriteCmd data o)

/-- FLASH_ERASE (R537). -/
def execFlashErase (sq : Fin 512) (s : State) : Host.Outcome State Fault Refusal :=
  s.run (·.mbox 0x72 sq.val fun o d => d.flashEraseCmd o)

/-- JMGMT (R538): the operation records as read from BUF_ADDR. -/
def execJmgmt (sq : Fin 512) (ops : Option (List Byte)) (s : State) : Host.Outcome State Fault Refusal :=
  s.run (·.mbox 0x80 sq.val fun o d => d.jmgmt ops o)

/-- JMGMT_TIMEOUT (R538). -/
def execJmgmtTimeout (s : State) : Host.Outcome State Fault Refusal := s.run (·.jmgmtTimeout)

/-- CCM_TRANSMIT (R539). -/
def execCcmTransmit (mep : Fin 16384) (s : State) : Host.Outcome State Fault Refusal := s.run (·.ccmTransmit mep.val)

/-- CCM_RECEIVE (R539): what a CCM that reaches the MEP carries. -/
def execCcmReceive (mep : Fin 16384) (meg : List Byte) (level : Fin 8) (mepid : Fin 8192) (period : Fin 8) (rdi : Bool)
    (s : State) : Host.Outcome State Fault Refusal :=
  s.run (·.ccmReceive mep.val meg level.val mepid.val period.val rdi)

/-- LOC_CHECK (R539). -/
def execLocCheck (mep : Fin 16384) (s : State) : Host.Outcome State Fault Refusal := s.run (·.locCheck mep.val)

/-- SERVICE_FRAME_SEND (R542): the descriptor. -/
def execServiceFrameSend (desc : List Byte) (s : State) : Host.Outcome State Fault Refusal := s.run (·.serviceSend desc)

/-- GAFFER_WATCHDOG (R544). -/
def execGafferWatchdog (core : Fin 16) (s : State) : Host.Outcome State Fault Refusal := s.run (·.gafWatchdog core.val)

/-- FLASH_WORK_DONE (R535). -/
def execFlashWorkDone (s : State) : Host.Outcome State Fault Refusal := s.run (·.flashDone)

end Sys2Proof.Machine
end

