-- ==== Sys2Proof/Machine/Records.lean ====
section
/-!
DEFINITION. The meanings of the commands of the audit ring, the ledger, telemetry and the fuses (R554, R556, R557, R560, R565, R570,
R574).
-/
namespace Sys2Proof.Machine

/-- AUDIT_RECORD_STREAMED: the oldest record not yet streamed goes into the AUDIT queue's buffer, and its slot is free (R554). -/
def Device.auditStreamed (d : Device) : Device :=
  let q := d.get Reg.HQ_GLB_CFG_AUDIT_Q
  if !d.stream || d.used == 0 || !d.flag Reg.HQ_GLB_CFG_AUDIT_QV || !d.sqEn q || !d.dmaOk (d.owner q) || !d.lineOpen 34 then d
  else
    let rp := d.rd Reg.AUD_RP
    let bs := slice (mget (fun _ => []) d.audit.ring (rp % 65536)) 0 32
    let (ok, d') := d.bufAppend q bs
    if ok then (((d'.wr Reg.AUD_RP (rp + 1)).inc (Reg.AUD_STAT_COUNT 1)).lineLess 34 32).overflowRecord else d

/-- SUMMARY_CLOSE: 1 s after the summary opened, and not less than 1 s after the previous one closed (R557). -/
def Device.summaryClose (d : Device) : Device := if d.sumMayClose then d.closeSummary else d

/-- CHECKPOINT (R560): the interval has passed, or, while a checkpoint waits, the deltas of the firmware have come: pairs of an
offset in the slot and a count. -/
def Device.checkpoint (d : Device) (deltas : Option (List (Nat × Nat))) : Device :=
  let d := if d.ledger.waitDelta then d else d.ckptNow
  if d.ledger.waitDelta then
    match deltas with
    | some ds => (d.ckptDeltas ds).ckptWrite
    | none => d
  else d

/-- CHECKPOINT_DELTA_TIMEOUT: 1 s without the deltas (R560). -/
def Device.deltaTimeout (d : Device) : Device := if d.ledger.waitDelta then d.ckptWrite else d

/-- DEFERRED_CHECKPOINT: the 10 s mark of a trigger that came too soon (R560). -/
def Device.ckptDeferred (d : Device) : Device :=
  if d.ledger.deferred && !d.ledger.erasing && !d.ledger.waitDelta then
    (d.onLedger fun l => { l with deferred := false }).ckptStart
  else d

/-- The 256-byte record of a telemetry set (R570). -/
def Device.telRecord (d : Device) (k : Nat) : List Byte :=
  let n := d.get (Reg.PMC_TEL_CFG_COUNT k)
  let first := d.get (Reg.PMC_TEL_CFG_FIRST k)
  let cnt := fun (i : Nat) =>
    leBytes 8 (d.get (Reg.PMC_CNT_COUNT i) + 2 ^ 63 * b2n (bit (d.rd (Reg.PMC_OVF (i / 32))) (i % 32)))
  slice (leBytes 4 (tmSec d.tod) ++ leBytes 4 (tmNs d.tod) ++ leBytes 4 (nget d.tel.seq k) ++ leBytes 1 k ++ leBytes 1 n
    ++ leBytes 2 first ++ (List.range n).flatMap fun i => cnt (first + i)) 0 256

/-- TELEMETRY_SAMPLE of set `k` (R570). Records that wait for the request line take their places in the ring. -/
def Device.telSample (d : Device) (k : Nat) : Device :=
  if !d.flag (Reg.PMC_TEL_CFG_EN k) then d
  else
    let wait := (lget d.tel.wait k).length
    let held := (d.get (Reg.PMC_TEL_WIDX_WIDX k) + 65536 - d.get (Reg.PMC_TEL_RIDX_RIDX k)) % 65536 + wait
    if 2 ^ d.get (Reg.PMC_TEL_CFG_LOG2_N k) ≤ held then d.inc (Reg.PMC_TEL_SKIPPED_COUNT k)
    else
      { d with tel := { d.tel with seq := nset d.tel.seq k ((nget d.tel.seq k + 1) % 2 ^ 32),
                                   wait := lpush d.tel.wait k (d.rd64 (Reg.PMC_TEL_BASE k), d.telRecord k) } }

/-- FUSE_PROGRAM_DONE: `err` says that a bit failed to verify (R574). -/
def Device.fuseDone (d : Device) (err : Bool) : Device :=
  if d.fuses.busy.isSome then
    ((d.fuseBurn err).put Reg.AUD_FUSE_STATUS_BUSY false).put Reg.AUD_FUSE_STATUS_ERR err
  else d

/-! ### Meanings -/

/-- AUDIT_RECORD_STREAMED (R554). -/
def execAuditRecordStreamed (s : State) : Host.Outcome State Fault Refusal := s.run (·.auditStreamed)

/-- SUMMARY_CLOSE (R557). -/
def execSummaryClose (s : State) : Host.Outcome State Fault Refusal := s.run (·.summaryClose)

/-- CHECKPOINT (R560): the firmware's deltas, if they have come. -/
def execCheckpoint (deltas : Option (List (Nat × Nat))) (s : State) : Host.Outcome State Fault Refusal :=
  s.run (·.checkpoint deltas)

/-- CHECKPOINT_DELTA_TIMEOUT (R560). -/
def execCheckpointDeltaTimeout (s : State) : Host.Outcome State Fault Refusal := s.run (·.deltaTimeout)

/-- DEFERRED_CHECKPOINT (R560). -/
def execDeferredCheckpoint (s : State) : Host.Outcome State Fault Refusal := s.run (·.ckptDeferred)

/-- LEDGER_ERASE_DONE (R565). -/
def execLedgerEraseDone (s : State) : Host.Outcome State Fault Refusal := s.run (·.ledEraseDone)

/-- TELEMETRY_SAMPLE (R570). -/
def execTelemetrySample (set : Fin 4) (s : State) : Host.Outcome State Fault Refusal := s.run (·.telSample set.val)

/-- FUSE_PROGRAM_DONE (R574). -/
def execFuseProgramDone (err : Bool) (s : State) : Host.Outcome State Fault Refusal := s.run (·.fuseDone err)

end Sys2Proof.Machine
end

