-- ==== Sys2Proof/Machine/Power.lean ====
section
/-!
DEFINITION. Power domains, supplies, temperature, reference clocks, adaptive voltage scaling and the PCIe reset (R76 to R78,
R577 to R588, R606, R609), with the meanings of their commands.
-/
namespace Sys2Proof.Machine

/-! ### Power domains (R577 to R582) -/

/-- A reference input is present: 0 to 15 SerDes, 16 AON, 17 PCIe. -/
def Device.refUp (d : Device) (i : Nat) : Bool := !mget (fun _ => false) d.power.refDown i

/-- DOMAIN_AWAKE (R579): the PLLs of the PCIe domain and of the Punty link lock with it (R587); in a tile the PLL assignments that waited are
made (R581). -/
def Device.domainAwake (d : Device) (n : Nat) : Device :=
  if d.power.waking.contains n then
    let d := (d.onPower fun p => { p with waking := p.waking.filter (· != n) }).pwrSet n true
    if n < 64 then d.pllSettle n
    else if n = 112 then d.pllBit 3 (d.refUp 17) else if n = 113 then d.pllBit 4 (d.refUp 0) else d
  else d

/-- DOMAIN_WAKE_TIMEOUT (R579): Cast-On fails under DOMAIN_WAKE; otherwise the domain stays down. -/
def Device.wakeTimeout (d : Device) (n : Nat) : Device :=
  if d.power.waking.contains n then
    let d := d.onPower fun p => { p with waking := p.waking.filter (· != n) }
    if d.boot.run then d.failHard 0x41 n
    else (d.put Reg.PWR_STATUS_WAKE_FAIL true).set Reg.PWR_STATUS_DOMAIN n
  else d

/-- The conditions under which a tile is powered down (R580, R581, R592): idle, drained, and under TILE_AUTO if it has an enabled
port. -/
def Device.tileIdle (d : Device) (t : Nat) : Bool :=
  let ps := d.portsOfTile t
  d.pwrOn t && (d.flag Reg.PWR_CFG_TILE_AUTO || ps.isEmpty)
    && ps.all (fun p => d.flag (Reg.TILE_PORT_STATUS_ASLEEP t (laneIn p)) && !(d.port p).probing)
    && !d.survey.lanes.any (fun l => tileOf l == t)
    && (List.range 8).all (fun k => bits (d.rd (Reg.LANE_CTRL t k)) 5 2 == 0)
    && !(d.flag Reg.GLB_BLK_RST_STATUS_BUSY && d.get Reg.GLB_BLK_RST_STATUS_TARGET == t)
    && (lget d.path.ready t).isEmpty && (lget d.path.dep t).isEmpty && (tilePorts t).all fun p => d.staleCount p == 0

/-- TILE_POWER_DOWN (R581): the tile's PLLs keep their assignment and lose lock. -/
def Device.tileDown (d : Device) (t : Nat) : Device :=
  if d.tileIdle t then
    (d.each [0, 1] fun d j => d.setPll t j (d.pllOn t j) false (d.pllFam t j) (d.pllLanes t j)).pwrDown t
  else d

/-! ### PERST_N (R59, R583) -/

/-- PERST_N goes low: the PCIe domain is reset, and its link is down. The Gaffer cores lose the pool buffers they held. -/
def Device.perstLow (d : Device) : Device :=
  let n := d.host.nextOp
  let d := d.flrPf0
  let d := { d with regs := d.regs.filter fun e => match regAt e.1 with | some (r, _, _) => decide (r.dom ≠ Dom.pcie) | none => true }
  { d with host := { nextOp := n }, dma := {}, pool := {}, power := { d.power with perst := false } }.pllBit 3 false

/-- PCIE_POWER_DOWN: 1 ms after PERST_N went low. -/
def Device.pcieDown (d : Device) : Device := if d.power.perst then d else d.pwrDown 112

/-- PERST_N rises: the domain wakes and trains its link. -/
def Device.perstHigh (d : Device) : Device :=
  let d := d.onPower fun p => { p with perst := true }
  if d.pwrOn 112 then d.pllBit 3 (d.refUp 17) else d.wakeAsk 112

/-! ### Supplies (R76, R77, R561) -/

/-- A reading of a rail sensor within its range, with the lowest and highest of the ledger; both at 0 say that none was taken. -/
def Device.railRead (d : Device) (n mv : Nat) : Device :=
  let v := min mv (if n < 24 then 1500 else 1800)
  let w := d.acc (railAcc n + 32)
  let lo := w % 65536
  let hi := w / 65536
  let lo := if w = 0 then v else min lo v
  (d.set (Reg.SRV_RAIL_MV n) v).accSet (railAcc n + 32) (lo + 65536 * max hi v)

/-- RAIL_SAMPLE: the readings of sensors 0, 1, 2, … -/
def Device.railSample (d : Device) (mvs : List Nat) : Device :=
  d.each ((mvs.take 32).zipIdx) fun d x => d.railRead x.2 x.1

/-- A supply leaves its window (R60, R77, R380, R561). -/
def Device.supplyOut (d : Device) (n : Nat) (up : Bool) : Device :=
  if d.flag (Reg.SRV_RAIL_LIVE_OUT n) || !d.canCross n up then d
  else
    let d := (d.put (Reg.SRV_RAIL_OUT n) true).put (Reg.SRV_RAIL_LIVE_OUT n) true
    let d := d.onPower fun p => { p with out := mset (fun _ => none) p.out n (some (d.ft, up)) }
    let d := d.accAdd (railAcc n + (if up then 24 else 28))
    if d.boot.run then d.failEnv 0x81 n
    else if d.boot? = 0xC then d.critical 5 n
    else d

/-! ### Adaptive voltage scaling (R606, R607) -/

/-- The sensors of VDD_CORE. -/
def coreSensors : List Nat := [0, 1, 2, 3, 22]

/-- Give the windows of VDD_CORE their limits. -/
def Device.coreWindow (d : Device) (lo hi : Nat) : Device :=
  d.each coreSensors fun d n => (d.set (Reg.SRV_RAIL_LIM_LO_MV n) lo).set (Reg.SRV_RAIL_LIM_HI_MV n) hi

/-- The target: the fused value, with 15 mV more while the cold adder is applied. -/
def Device.avsTarget (d : Device) : Nat := d.get Reg.PWR_AVS_FUSED_MV + if d.flag Reg.PWR_AVS_COLD then 15 else 0

/-- The target is sent, and its acknowledgement awaited. -/
def Device.avsSend (d : Device) : Device :=
  (d.onPower fun p => { p with avsWait := true }).emit (.avs (d.get Reg.PWR_AVS_TARGET_MV))

/-- AVS_TRANSFER: a target that is due; the windows cover the old and the new one first. -/
def Device.avsTransfer (d : Device) : Device :=
  if d.power.avsDue then
    let new := d.avsTarget
    let old := d.power.avsOld
    let d := d.coreWindow (min old new - 40) (max old new + 40)
    let d := (d.set Reg.PWR_AVS_TARGET_MV new).put Reg.PWR_AVS_ACK false
    (d.onPower fun p => { p with avsDue := false, avsNarrow := false }).avsSend
  else d

/-- AVS_ACK. -/
def Device.avsAck (d : Device) : Device :=
  if d.power.avsWait then
    (d.onPower fun p => { p with avsWait := false, avsFail := false, avsNarrow := true,
                                 avsOld := d.get Reg.PWR_AVS_TARGET_MV }).put Reg.PWR_AVS_ACK true
  else d

/-- AVS_WINDOW_NARROW: 1 ms after the acknowledgement. -/
def Device.avsNarrow (d : Device) : Device :=
  if d.power.avsNarrow then
    let v := d.get Reg.PWR_AVS_TARGET_MV
    (d.coreWindow (v - 40) (v + 40)).onPower fun p => { p with avsNarrow := false }
  else d

/-- AVS_TIMEOUT: no acknowledgement within 1 ms; during Cast-On a condition of class E (R60). -/
def Device.avsTimeout (d : Device) : Device :=
  if d.power.avsWait then
    let d := (d.onPower fun p => { p with avsWait := false, avsFail := true }).put Reg.PWR_AVS_ERR true
    if d.boot.run then d.failEnv 0x81 0 else d
  else d

/-- AVS_RETRY: every 10 ms the target is sent again. -/
def Device.avsRetry (d : Device) : Device := if d.power.avsFail && !d.power.avsWait then d.avsSend else d

/-! ### Temperature (R76, R78, R561, R584, R606) -/

/-- The bin of the Tj histogram (R561) of a temperature in quarters of a degree. -/
def tjBin (q : Int) : Nat := if q < -160 then 0 else if 440 ≤ q then 31 else ((q + 180) / 20).toNat

/-- One more of `per` parts of an accumulator's unit. -/
def tally (per : Nat) (m : Map Nat) (k : Nat) : Bool × Map Nat :=
  let n := nget m k + 1
  if per ≤ n then (true, nset m k 0) else (false, nset m k n)

/-- A millisecond at this temperature and in this role goes into the ledger's histogram and minutes (R561). -/
def Device.tempLedger (d : Device) : Device :=
  let b := tjBin d.tempMax
  let (sec, tj) := tally 1000 d.ledger.tjMs b
  let (min, role) := tally 60000 d.ledger.roleMs d.role
  let r := d.role
  let d := { d with ledger := { d.ledger with tjMs := tj, roleMs := role } }
  (d.when sec fun d => d.accAdd (0x80 + 4 * b)).when min fun d => d.accAdd64 (0x40 + 8 * r) 1

/-- The thermal warning (R584). -/
def Device.thermWarn (d : Device) : Device :=
  let t := d.tempMax
  let lim : Int := 4 * d.get Reg.PWR_THERM_WARN_C
  if d.flag Reg.PWR_STATUS_THERM_WARN then
    if t ≤ lim - 20 then (d.put Reg.PWR_STATUS_THERM_WARN false).emit (.pin "THERM_N" .high) else d
  else if lim < t then
    ((d.put Reg.PWR_STATUS_THERM_WARN true).put Reg.PWR_STATUS_THERM_SEEN true).emit (.pin "THERM_N" .low)
  else d

/-- The cold adder (R606): a change makes a transfer due. -/
def Device.coldAdder (d : Device) : Device :=
  let t := d.tempMax
  let was := d.flag Reg.PWR_AVS_COLD
  let now := if was then decide (t < 20) else decide (t < 0)
  if now = was then d else (d.put Reg.PWR_AVS_COLD now).onPower fun p => { p with avsDue := true }

/-- SRV_TEMP_MAX: the highest reading, and the lowest sensor that shows it. -/
def Device.tempShow (d : Device) : Device :=
  let t (n : Nat) : Int := signed 16 (d.get (Reg.SRV_TEMP_TEMP n))
  let m := (List.range 64).foldl (fun m n => if t m < t n then n else m) 0
  (d.set Reg.SRV_TEMP_MAX_SENSOR m).set Reg.SRV_TEMP_MAX_TEMP (d.get (Reg.SRV_TEMP_TEMP m))

/-- A temperature reading within the range of its sensor, −55 °C to 150 °C, in quarters of a degree (R76). -/
def tempRead (v : Nat) : Nat := unsigned 16 (max (-220) (min 600 (signed 16 v)))

/-- TEMP_SAMPLE: the readings of sensors 0, 1, 2, … in quarters of a degree; above 105 °C during Cast-On is a condition of
class E (R60). -/
def Device.tempSample (d : Device) (ts : List Nat) : Device :=
  let d := d.each ((ts.take 64).zipIdx) fun d x => d.set (Reg.SRV_TEMP_TEMP x.2) (tempRead x.1)
  let d := d.tempShow.tempLedger.thermWarn.coldAdder
  if d.boot.run && decide (420 < d.tempMax) then d.failEnv 0x82 (d.get Reg.SRV_TEMP_MAX_SENSOR) else d

/-- THERMAL_SHUTDOWN: above SHUT_C for 1 ms (R584, R591). -/
def Device.thermalShutdown (d : Device) : Device :=
  let n := d.get Reg.SRV_TEMP_MAX_SENSOR
  if decide (d.tempMax ≤ 4 * d.get Reg.PWR_THERM_SHUT_C) then d
  else if d.boot.run then d.failEnv 0x82 n
  else if d.boot? = 0xC then d.mute.selvedge 0x82 n
  else d

/-! ### Reference clocks (R100, R588) -/

/-- A bit of PWR_CLK_STATUS for a reference input. -/
def Device.refShow (d : Device) (i : Nat) (on : Bool) : Device :=
  if i < 16 then d.set Reg.PWR_CLK_STATUS_SERDES_REF (setBit (d.get Reg.PWR_CLK_STATUS_SERDES_REF) i on)
  else d.put (if i = 16 then Reg.PWR_CLK_STATUS_AON_REF else Reg.PWR_CLK_STATUS_PCIE_REF) on

/-- REFCLK_LOSS. -/
def Device.refLoss (d : Device) (i : Nat) : Device :=
  let d := (d.onPower fun p => { p with refDown := mset (fun _ => false) p.refDown i true }).refShow i false
  if i < 16 then
    let d := d.each (List.range 8) fun d k => d.tilePllRef (4 * i + k / 2) (k % 2)
    if i = 0 then (d.pllBit 4 false).puntyDown else d
  else if i = 16 then
    let d := d.pllLoss 1
    d.pllBit 2 false
  else d.pllBit 3 false

/-- REFCLK_RETURN: a SerDes input is used again at the next port enable, the PCIe link trains again. -/
def Device.refReturn (d : Device) (i : Nat) : Device :=
  if d.refUp i then d
  else
    let d := (d.onPower fun p => { p with refDown := mset (fun _ => false) p.refDown i false }).refShow i true
    if i < 16 then
      let d := d.onPower fun p => { p with refIdle := mset (fun _ => false) p.refIdle i true }
      if i = 0 then d.pllBit 4 (d.pwrOn 113) else d
    else if i = 17 then d.pllBit 3 (d.pwrOn 112 && d.power.perst)
    else d

/-! ### Loss of power (R609) -/

/-- POWER_LOSS: only the ledger, the fuses and the flash keep what they hold; the board's regulator starts at 800 mV again. -/
def Device.powerLoss (d : Device) : Device := d.sysReset.onPower fun p => { p with avsOld := 800 }

/-! ### Meanings -/

/-- DOMAIN_AWAKE (R579). -/
def execDomainAwake (n : Fin 116) (s : State) : Host.Outcome State Fault Refusal := s.run (·.domainAwake n.val)

/-- DOMAIN_WAKE_TIMEOUT (R579). -/
def execDomainWakeTimeout (n : Fin 116) (s : State) : Host.Outcome State Fault Refusal := s.run (·.wakeTimeout n.val)

/-- TILE_POWER_DOWN (R581). -/
def execTilePowerDown (t : Fin 64) (s : State) : Host.Outcome State Fault Refusal := s.run (·.tileDown t.val)

/-- PERST_N_ASSERT (R583). -/
def execPerstNAssert (s : State) : Host.Outcome State Fault Refusal := s.run (·.perstLow)

/-- PCIE_POWER_DOWN (R583). -/
def execPciePowerDown (s : State) : Host.Outcome State Fault Refusal := s.run (·.pcieDown)

/-- PERST_N_RELEASE (R59, R583). -/
def execPerstNRelease (s : State) : Host.Outcome State Fault Refusal := s.run (·.perstHigh)

/-- RAIL_SAMPLE (R76). -/
def execRailSample (mvs : List (BitVec 16)) (s : State) : Host.Outcome State Fault Refusal :=
  s.run (·.railSample (mvs.map (·.toNat)))

/-- TEMP_SAMPLE (R76, R584, R606). -/
def execTempSample (temps : List (BitVec 16)) (s : State) : Host.Outcome State Fault Refusal :=
  s.run (·.tempSample (temps.map (·.toNat)))

/-- SUPPLY_WINDOW_CROSS (R77): upwards or downwards. -/
def execSupplyWindowCross (n : Fin 32) (up : Bool) (s : State) : Host.Outcome State Fault Refusal :=
  s.run (·.supplyOut n.val up)

/-- SUPPLY_WINDOW_RETURN (R77). -/
def execSupplyWindowReturn (n : Fin 32) (s : State) : Host.Outcome State Fault Refusal := s.run (·.supplyBack n.val)

/-- THERMAL_SHUTDOWN (R584). -/
def execThermalShutdown (s : State) : Host.Outcome State Fault Refusal := s.run (·.thermalShutdown)

/-- REFCLK_LOSS (R588): 0 to 15 SerDes, 16 AON, 17 PCIe. -/
def execRefclkLoss (i : Fin 18) (s : State) : Host.Outcome State Fault Refusal := s.run (·.refLoss i.val)

/-- REFCLK_RETURN (R588). -/
def execRefclkReturn (i : Fin 18) (s : State) : Host.Outcome State Fault Refusal := s.run (·.refReturn i.val)

/-- AVS_TRANSFER (R606). -/
def execAvsTransfer (s : State) : Host.Outcome State Fault Refusal := s.run (·.avsTransfer)

/-- AVS_ACK (R606). -/
def execAvsAck (s : State) : Host.Outcome State Fault Refusal := s.run (·.avsAck)

/-- AVS_WINDOW_NARROW (R606). -/
def execAvsWindowNarrow (s : State) : Host.Outcome State Fault Refusal := s.run (·.avsNarrow)

/-- AVS_TIMEOUT (R606). -/
def execAvsTimeout (s : State) : Host.Outcome State Fault Refusal := s.run (·.avsTimeout)

/-- AVS_RETRY (R606). -/
def execAvsRetry (s : State) : Host.Outcome State Fault Refusal := s.run (·.avsRetry)

/-- POWER_LOSS (R609). -/
def execPowerLoss (s : State) : Host.Outcome State Fault Refusal := s.run (·.powerLoss)

end Sys2Proof.Machine
end

