-- ==== Sys2Proof/Machine/Boot.lean ====
section
/-!
DEFINITION. Cast-On: the steps of an attempt, configuration records, the firmware's start, and SYS_RST_N (R41, R42, R50 to R64, R533,
R534, R608), with the meanings of their commands.
-/
namespace Sys2Proof.Machine

/-! ### SYS_RST_N (R41, R42, R608) -/

/-- SYS_RST_N is released (R42, R61, R369): the straps are sampled; the supplies' windows, the reference inputs and PERST_N show what
stands outside. A rail outside its window is a condition of class E (R608); a window that is off after reset has none outside (R93). -/
def Device.release (d : Device) (retry single pair slot peerActLow peerRelqLow : Bool) : Device :=
  if d.unit.released then d
  else
    let d := (d.put Reg.UNT_STATUS_PAIR pair).put Reg.UNT_STATUS_SLOT slot
    let d := (d.put Reg.UNT_STATUS_PEER_ACT peerActLow).put Reg.UNT_STATUS_PEER_RELQ peerRelqLow
    let d := (d.onUnit fun u => { u with released := true }).onBoot fun b => { b with retry := retry, single := single }
    let d := d.each (List.range 18) fun d i => d.refShow i (d.refUp i)
    let d := d.when d.power.perst fun d => d.wakeAsk 112
    let d := d.onPower fun p => { p with avsDue := true, out := p.out.filter fun e => e.2.any fun o => d.canCross e.1 o.2 }
    let d := d.each d.power.out fun d e => (d.put (Reg.SRV_RAIL_OUT e.1) true).put (Reg.SRV_RAIL_LIVE_OUT e.1) true
    d.castStart 0

/-! ### Records that steps take (R56, R57) -/

/-- The batch audit record of a configuration record (R57, R552). -/
def Device.recAudit (d : Device) (i status : Nat) (v : List Byte) : Device :=
  d.recordBy .image 5 false (batchBody 9 status 1 i i (crc32c v))

/-- The configuration records with their index. -/
def Device.recList (d : Device) : List (Nat × Rec) := d.records.1.zipIdx.map fun x => (x.2, x.1)

/-- The delays of an HBM_DELAY record (R56, R456) are written, and the stack's check starts. -/
def Device.hbmDelay (d : Device) (v : List Byte) : Device :=
  let k := byteAt v 0
  let d := d.each (List.range 16) fun d c =>
    (d.set (Reg.DST_DLY_CH_CA k c) (byteAt v (4 + 4 * c))).set (Reg.DST_DLY_CH_CK k c) (byteAt v (5 + 4 * c))
  let d := d.each (List.range 128) fun d w =>
    (d.set (Reg.DST_DLY_BL_WDQS k w) (byteAt v (68 + 2 * w))).set (Reg.DST_DLY_BL_RDQS k w) (byteAt v (69 + 2 * w))
  d.stackCheck k

/-- The HBM_DELAY records in order: the index of one that is refused (R437). -/
def hbmRecords : List (Nat × Rec) → Device → Option Nat × Device
  | [], d => (none, d)
  | (i, r) :: rest, d =>
    if r.type ≠ 0x40 then hbmRecords rest d
    else if d.stackState (byteAt r.value 0) = 1 ∨ !d.canLog then (some i, d)
    else hbmRecords rest ((d.hbmDelay r.value).recAudit i 0 r.value)

/-! ### Beginning a step (R57, R58, R579) -/

/-- Tiles that a PORT record names. -/
def Device.recTiles (d : Device) : List Nat := ((d.portRecs.filter fun r => decide (r.port < 512)).map fun r => tileOf r.port).eraseDups

/-- Step 7: the remaining domains wake, in the order of R579. -/
def Device.wakeRest (d : Device) : Device :=
  d.each ([80, 81, 82, 83] ++ (List.range 8).map (104 + ·) ++ [114, 84, 85, 86, 87] ++ (if d.paired then [113] else [])
    ++ (List.range 16).map (88 + ·) ++ d.recTiles) Device.wakeAsk

/-- Step 8: the section is scanned, the delays are written and the checks started; a stack without a record stays down. -/
def Device.scanStep (d : Device) : Device :=
  match d.records.2 with
  | some i => d.fail 0x19 i
  | none =>
    let skipped := d.records.1.any fun r => !recKnown r.type
    let d := d.when skipped fun d => d.put Reg.GLB_BOOT_WARN_OPT_SKIPPED true
    match hbmRecords d.recList d with
    | (some i, d) => d.fail 0x1A i
    | (none, d) => d.each ((List.range 4).filter fun k => d.stackState k != 1) fun d k =>
        (d.set Reg.GLB_BOOT_WARN_HBM_OFF (setBit (d.get Reg.GLB_BOOT_WARN_HBM_OFF) k true)).pwrDown (84 + k)

/-- Step 9: the PORT and RATE_POLICY records are taken, and their lanes and every module are surveyed. -/
def Device.surveyStep (d : Device) : Device :=
  let d := d.onBoot fun b => { b with ports := d.portRecs, policy := d.policyRecs }
  let ls := (List.range 512).filter fun l => d.boot.ports.any fun r => decide (r.port ≤ l) && decide (l < r.port + r.width)
  let d := (d.put Reg.SRV_STATUS_BUSY true).put Reg.SRV_CTRL_START true
  let d := (d.surveySend ls).each (List.range 16) fun d m => d.switchSet m 0
  d.onSurvey fun s => { s with lanes := ls, masters := List.range 16, by_ := none, auto := [], resolve := [], waiting := [] }

/-- The firmware section of the image in the Skein. -/
def Device.bootFirmware (d : Device) : Section × List Byte :=
  let tab := leNat (slice d.boot.image 20 4)
  let ss := (List.range 2).map fun i => sectionOf (slice d.boot.image (tab + 32 * i) 32)
  let s := (ss.find? fun s => s.type == 1).getD ⟨0, 0, 0, 0, 0⟩
  (s, slice d.boot.image s.off s.len)

/-- Step 11: the firmware is checked, copied to shared SRAM, and core 0 released (R533, R534). -/
def Device.firmwareStep (d : Device) : Device :=
  let (s, bs) := d.bootFirmware
  if firmwareOk 1 bs then
    let d := (d.sramWrite s.load bs).onGaf fun g => { g with code := (s.load, s.load + bs.length), fwVer := leNat (slice bs 4 4) }
    (d.set (Reg.SVC_CORE_STATE 0) 1).onBoot fun b => { b with fwWait := true }
  else d.fail 0x1C 0

/-- The next step begins, by its STATE. -/
def Device.enterStep (d : Device) (s : Nat) : Device :=
  let d := d.bootState s
  if s = 1 then d.wakeAsk 115
  else if s = 3 then d.when d.flash.present Device.flashDiscover
  else if s = 4 then d.xspiRead (d.flash.quarter * d.boot.slot) (d.imgHead d.boot.slot).len
  else if s = 2 then d.each ((List.range 16).map (64 + ·)) Device.wakeAsk
  else if s = 6 then d.wakeRest
  else if s = 7 then d.scanStep
  else if s = 8 then d.surveyStep
  else if s = 9 then d.onBoot fun b => { b with recIdx := 0, pool0 := some d.pool }
  else if s = 10 then d.firmwareStep
  else d

/-! ### Ending a step (R50, R51, R55, R58, R61, R64) -/

/-- Step 2: the ledger opens, an attempt cut short is recorded; FAILS, the history and the slot are taken; Selvedge mode under
UNPROVISIONED or HELD, or the started record. -/
def Device.ledgerStep (d : Device) : Device :=
  let d := d.ledOpen.castCut
  let fails := if d.boot.retry then 0 else d.ledFails
  let d := ((d.set Reg.GLB_BOOT_STATUS_FAILS fails).histLoad fails).onBoot fun b => { b with fails := fails, retry := false }
  if d.unprovisioned then d.selvedge 0xC3 0
  else if fails = 3 then d.selvedge 0xC1 0
  else
    let slot := d.pickSlot fails
    let d := (d.set Reg.GLB_BOOT_STATUS_SLOT slot).onBoot fun b => { b with slot := slot }
    (d.castAppend (castBytes d.lifeMin d.nextCast slot 0 fails 0 0 0 0)).enterStep 2

/-- The density of the flash is one that R44 supports. -/
def Device.flashOk (d : Device) : Bool :=
  d.flash.present && decide (16777216 ≤ d.flash.quarter) && decide (d.flash.quarter ≤ 67108864)

/-- Step 4 reads the header of a slot and, if the header is an image's, its signature block (R58). -/
def Device.headRead (d : Device) (slot : Nat) : Device :=
  let base := d.flash.quarter * slot
  let d := d.xspiRead base 256
  let b := d.flashRead slot 0 256
  if leNat (slice b 0 4) = 0x53524749 ∧ leNat (slice b 252 4) = crc32c (slice b 0 252) then
    d.xspiRead (base + (d.imgHead slot).sig) 256 else d

/-- Step 5: the image is read into the Skein once. -/
def Device.readStep (d : Device) : Device :=
  let h := d.imgHead d.boot.slot
  let d := d.onBoot fun b => { b with image := d.flashRead b.slot 0 h.len, digest := digestOf (d.flashRead b.slot 0 h.sig) }
  match d.sectionCheck d.boot.slot with
  | some (r, x) => d.fail r x
  | none => d.enterStep 5

/-- The ECDSA check over the copy in the Skein. -/
def Device.signOk (d : Device) : Bool :=
  let b := slice d.boot.image (leNat (slice d.boot.image 24 4)) 256
  Config.ecdsaOk (slice b 0 97) d.boot.digest (slice b 100 96)

/-- The audit record of an accepted image (R551). -/
def Device.imageAudit (d : Device) : Device :=
  let seq := match d.lastCast with | some r => castSeq r | none => 0
  d.recordBy .image 7 false (leBytes 1 d.boot.slot ++ slice d.boot.image 7 1 ++ leBytes 2 0 ++ slice d.boot.image 12 4
    ++ slice d.boot.digest 0 4 ++ leBytes 2 seq)

/-- Step 6: the signature. The watchdog runs from its end. -/
def Device.signStep (d : Device) : Device :=
  if d.signOk then
    ((d.when d.canLog Device.imageAudit).onBoot fun b => { b with watchdog := true }).enterStep 6
  else d.fail 0x17 0

/-- Step 7 ends: the tiles of a missing reference input stay down (R70, R100). -/
def Device.wokenStep (d : Device) : Device :=
  let d := d.pllBit 2 true
  let miss := (List.range 16).filter fun i => !bit (d.get Reg.PWR_CLK_STATUS_SERDES_REF) i
  let d := d.set Reg.GLB_BOOT_WARN_REFCLK_MISSING (miss.foldl (fun m i => m + 2 ^ i) 0)
  (d.each (miss.flatMap fun i => [4 * i, 4 * i + 1, 4 * i + 2, 4 * i + 3]) Device.pwrDown).enterStep 7

/-- The record that holds the PORT entry of a port. -/
def Device.portRecIdx (d : Device) (p : Nat) : Nat :=
  match d.recList.find? fun x => x.2.type == 0x30 && (entries 8 x.2.value).any fun e => leNat (slice e 0 2) == p with
  | some x => x.1
  | none => 0

/-- The rate families of the ports of a tile with a fixed rate. -/
def Device.fixedFams (d : Device) (t : Nat) : List Nat :=
  ((d.boot.ports.filter fun r => r.rate != 0xFF && tileOf r.port == t).map fun r => rateFam r.rate).eraseDups

/-- The port whose fixed rate breaks the two-PLL rule of its tile (R55): the first of a third family. -/
def Device.thirdFam (d : Device) : Option Nat :=
  (d.boot.ports.find? fun r => r.rate != 0xFF && !((d.fixedFams (tileOf r.port)).take 2).contains (rateFam r.rate)).map (·.port)

/-- A port that asks for the policy and has a lane no entry covers (R55). -/
def Device.uncovered (d : Device) : Option Nat :=
  (d.boot.ports.find? fun r => r.rate == 0xFF && (List.range r.width).any fun i => (d.policyOf (r.port + i)).isNone).map (·.port)

/-- The resolution of one port at Cast-On (R55, R70, R87). -/
def Device.castRate (d : Device) (x : Nat × Nat × Rated) : Device :=
  let p := x.1
  let r := match x.2.2 with | .rate r => some r | _ => none
  let d := d.onBoot fun b => { b with ports := b.ports.map fun e =>
    if e.port = p ∧ e.rate = 0xFF then { e with resolved := r } else e }
  let d := d.showRate p x.2.1 (x.2.2 == .noRate)
  let d := d.when (x.2.2 == .noRate) fun d => d.put Reg.GLB_BOOT_WARN_NO_RATE true
  d.when (x.2.2 == .waits) fun d => d.onSurvey fun s => { s with waiting := s.waiting ++ [p] }

/-- Step 9 ends: rates are resolved (R55). -/
def Device.ratesStep (d : Device) : Device :=
  match d.uncovered.or d.thirdFam with
  | some p => d.fail 0x1A (d.portRecIdx p)
  | none =>
    let part := d.boot.ports.any fun r => (List.range r.width).any fun i => d.get (Reg.SRV_LANE_LO_STATE (r.port + i)) == 3
    let mods := (List.range 128).any fun c => d.get (Reg.SRV_MODULE_STATE c) == 3
    let d := d.when (part || mods) fun d => d.put Reg.GLB_BOOT_WARN_SURVEY_PARTIAL true
    let ask := (d.boot.ports.filter fun r => r.rate == 0xFF).map fun r => (r.port, r.width)
    (d.each (d.resolveRates d.fixedFams ask) Device.castRate).enterStep 9

/-- The record to be applied next at step 10, if it is not END. -/
def Device.nextRec (d : Device) : Option Rec :=
  match d.records.1[d.boot.recIdx]? with
  | some r => if r.type = 0xFFFF then none else some r
  | none => none

/-- The core PLL locks, and ToD and FT count its clocks from then on (R408, R587). -/
def Device.coreLock (d : Device) : Device := (d.pllBit 1 true).put Reg.TIM_STATUS_CORE_CLK true

/-- The step that STATE shows ends well, if what it waits for has come. -/
def Device.stepEnd (d : Device) : Device :=
  let s := d.boot?
  if s = 0 then
    if d.power.avsDue || d.power.avsWait || d.power.avsFail then d else (d.pllBit 0 true).enterStep 1
  else if s = 1 then (if d.power.waking.contains 115 then d else d.ledgerStep)
  else if s = 2 then
    if d.power.waking.any fun n => decide (64 ≤ n) && decide (n < 80) then d else d.coreLock.enterStep 3
  else if s = 3 then
    if !d.flashOk then d.failHard 0x80 0
    else
      let d := d.headRead d.boot.slot
      match d.headCheck d.boot.slot with
      | some (r, x) => d.fail r x
      | none => d.enterStep 4
  else if s = 4 then d.readStep
  else if s = 5 then d.signStep
  else if s = 6 then (if d.power.waking.any (· != 112) then d else d.wokenStep)
  else if s = 7 then (if (List.range 4).any fun k => d.stackState k == 1 then d else d.enterStep 8)
  else if s = 8 then (if d.flag Reg.SRV_STATUS_BUSY then d else d.ratesStep)
  else if s = 9 then
    if d.nextRec.isSome then d else if !d.canLog then d.fail 0x1A d.boot.recIdx
    else (d.recAudit d.boot.recIdx 0 []).enterStep 10
  else if s = 10 then (if d.flag Reg.SVC_STATUS_READY then d.enterStep 11 else d)
  else if s = 11 then d.ready
  else d

/-- A step fault can arise in the step that STATE shows (R58, R63). -/
def stepFaultAt (f : StepFault) (s : Nat) : Bool :=
  match f with
  | .pll n => (s == 0 && n.val == 0) || (s == 2 && n.val == 1) || (s == 6 && (n.val == 2 || n.val == 4))
      || (decide (9 ≤ s) && decide (16 ≤ n.val))
  | .fuse _ => s == 0
  | .ledger => s == 1
  | .memory _ => s == 2
  | .flashRead _ => s == 3 || s == 4

/-- REASON and DETAIL of a step fault (R63). -/
def stepFaultReason (f : StepFault) : Nat × Nat :=
  match f with
  | .pll n => (0x40, n.val)
  | .fuse w => (0x42, w.val)
  | .ledger => (0x43, 0)
  | .memory i => (0x44, i.val)
  | .flashRead a => (0x18, bits a.val 27 12)

/-- CAST_ON_STEP_DONE (R58). -/
def Device.castStep (d : Device) (fault : Option StepFault) : Device :=
  if !d.boot.run then d
  else match fault with
    | none => d.stepEnd
    | some f => if stepFaultAt f d.boot? then d.fail (stepFaultReason f).1 (stepFaultReason f).2 else d

/-! ### Configuration records (R52 to R57) -/

/-- Step 10 still runs: no write of the record has started another Cast-On or Selvedge mode. -/
def Device.applying (d : Device) : Bool := d.boot.run && d.boot? == 9

/-- What a word of the AON or PCIe domain held before a record first wrote it is kept (R62). -/
def Device.keepOld (d : Device) (off : Nat) : Device :=
  match regAt off with
  | some (r, _, _) =>
    if r.dom = .core ∨ (mget (fun _ => none) d.boot.undo off).isSome then d
    else d.onBoot fun b => { b with undo := mset (fun _ => none) b.undo off (some (BitVec.ofNat 32 (d.rd off))) }
  | none => d

/-- Writes of a record in order, each an offset, a size and a value: whether every one was performed (R57). -/
def recWrites : List (Nat × Nat × Nat) → Device → Bool × Device
  | [], d => (true, d)
  | (off, size, v) :: rest, d =>
    if !d.applying then (true, d)
    else match ((d.keepOld off).when (size == 8) fun d => d.keepOld (off + 4)).busWriteR .image false off size true v with
      | (.ok, d) => recWrites rest d
      | (_, d) => (false, d)

/-- The writes that a REG32, REG64, CPW or IND record makes (R53). -/
def Rec.writes (r : Rec) : List (Nat × Nat × Nat) :=
  let u (e : List Byte) (i : Nat) : Nat := leNat (slice e i 4)
  if r.type = 1 then (entries 8 r.value).map fun e => (u e 0, 4, u e 4)
  else if r.type = 2 then (entries 16 r.value).map fun e => (u e 0, 8, leNat (slice e 8 8))
  else if r.type = 3 then (entries 8 r.value).flatMap fun e => [(u e 0, 4, u e 4), (u e 0 + 4, 4, 2 ^ 32 - 1 - u e 4)]
  else
    [(u r.value 0, 4, u r.value 4), (u r.value 8, 4, u r.value 12)]
      ++ (entries 4 (r.value.drop 20)).map fun e => (u r.value 16, 4, leNat e)

/-- A PORT entry has values that its fields hold (R54). -/
def PortRec.fits (r : PortRec) : Bool :=
  decide (r.port < 512) && decide (r.width < 16) && (decide (r.rate < 16) || r.rate == 0xFF)
    && (decide (r.fec < 16) || r.fec == 0xFF) && decide (r.an < 4) && decide (r.kind < 2)

/-- The word that a PORT entry writes: a port that asks for the policy is left disabled where it has no rate (R54, R55, R103). -/
def PortRec.word (r : PortRec) : Nat :=
  let ask := r.rate == 0xFF
  let rate := if ask then r.resolved.getD 0 else r.rate
  let en := !ask || r.resolved.isSome
  2 ^ 31 * b2n en + 2 ^ 24 * r.width + 2 ^ 20 * rate + 2 ^ 16 * (if r.fec = 0xFF then 0xF else r.fec) + 2 ^ 14 * r.an
    + 2 ^ 13 * r.kind + 2 ^ 12 * b2n ask

/-- Port formation by PORT entries (R54, R87): a port left down waits for a partner or shows that it has no rate. -/
def portWrites : List PortRec → Device → Bool × Device
  | [], d => (true, d)
  | e :: rest, d =>
    let r := (d.boot.ports.find? fun x => x.port == e.port && x.rate == e.rate).getD e
    if !r.fits then (false, d)
    else match d.busWriteR .image false (Reg.TILE_PORT_CFG (tileOf r.port) (laneIn r.port)) 4 true r.word with
      | (.ok, d) =>
        let down := r.rate == 0xFF && r.resolved.isNone
        portWrites rest (d.when down fun d =>
          d.setPortState r.port (if d.survey.waiting.contains r.port then 7 else 0xA))
      | (_, d) => (false, d)

/-- The array of a BULK in a configuration record: it lies wholly within the value of one NOTE record (R193). -/
def Device.noteArray (d : Device) (off n : Nat) : Option (List Byte) :=
  let spans := (d.records.1.foldl (fun (s : Nat × List (Nat × Nat)) r =>
    (s.1 + 8 + r.value.length, if r.type = 0xFF then s.2 ++ [(s.1 + 8, s.1 + 8 + r.value.length)] else s.2)) (0, [])).2
  if spans.any fun x => decide (x.1 ≤ off) && decide (off + n ≤ x.2) then some (slice d.config off n) else none

/-- The array of a command of the image. -/
def Device.cmdArray (d : Device) (e : List Byte) : Option (List Byte) := d.noteArray (cmdAddr e) (64 * bulkCount e)

/-- A command of the image, or a sub-entry of it, would change a key that a scrub holds off (R207). -/
def Device.cmdHeld (d : Device) (e : List Byte) : Bool :=
  d.tblHeld e || (byteAt e 0 == 6 && match d.cmdArray e with | some bs => (entries 64 bs).any d.tblHeld | none => false)

/-- The table commands of an MRV record in order, until one fails unless the record is optional: the first failure's status. -/
def mrvCommands (optional : Bool) : List (List Byte) → Nat → Device → Nat × Device
  | [], st, d => (st, d)
  | e :: rest, st, d =>
    let (x, _, _, d) := d.tblExec .image e (d.cmdArray e) true
    let st := if st = 0 then x else st
    if x ≠ 0 ∧ !optional then (st, d) else mrvCommands optional rest st d

/-- What becomes of a record: it waits, it is complete with the status of its first failed command, or it fails the attempt under a
reason. -/
inductive RecEnd where
  | waits
  | done (status : Nat)
  | fails (reason status : Nat)
  deriving DecidableEq, Repr

/-- The effect of one record at step 10 (R53, R57). -/
def Device.recApply (d : Device) (r : Rec) : RecEnd × Device :=
  let u (i : Nat) : Nat := leNat (slice r.value i 4)
  let wr := fun (x : Bool × Device) => ((if x.1 then RecEnd.done 0 else .fails 0x1A 0), x.2)
  if r.type = 1 ∨ r.type = 2 ∨ r.type = 3 ∨ r.type = 0x10 then wr (recWrites r.writes d)
  else if r.type = 4 then
    match d.busReadV .image (u 0) 4 true none with
    | (some v, d) => (if v &&& u 4 = u 8 then .done 0 else .waits, d)
    | (none, d) => (.fails 0x1A 0, d)
  else if r.type = 0x20 then
    if !d.engineReady || (entries 64 r.value).any d.cmdHeld then (.waits, d)
    else
      let (st, d) := mrvCommands (bit r.flags 0) (entries 64 r.value) 0 d
      if st = 0 then (.done 0, d)
      else if bit r.flags 0 then (.done st, d.put Reg.GLB_BOOT_WARN_OPT_SKIPPED true)
      else (.fails 0x1A st, d)
  else if r.type = 0x30 then wr (portWrites ((entries 8 r.value).map portRec) d)
  else (.done 0, d)

/-- The record is audited and the next one follows. -/
def Device.recDone (d : Device) (r : Rec) (i status : Nat) : Device :=
  (d.recAudit i status r.value).onBoot fun b => { b with recIdx := i + 1 }

/-- CONFIG_RECORD (R57). An HBM_DELAY record is passed over; a record that cannot be logged is refused. -/
def Device.configRecord (d : Device) : Device :=
  let i := d.boot.recIdx
  match d.nextRec with
  | none => d
  | some r =>
    if !d.applying then d
    else if r.type = 0x40 then d.onBoot fun b => { b with recIdx := i + 1 }
    else if !d.canLog then d.fail 0x1A i
    else match d.recApply r with
      | (.waits, d) => d
      | (.done st, d) => if d.applying then d.recDone r i st else d.recAudit i st r.value
      | (.fails why st, d) => (d.recAudit i st r.value).fail why i

/-- WAIT_FIELD_TIMEOUT (R53): the field has not reached its value. -/
def Device.waitTimeout (d : Device) : Device :=
  match d.nextRec with
  | none => d
  | some r =>
    if !d.applying || r.type != 4 then d
    else match d.recApply r with
      | (.waits, d) => (d.recAudit d.boot.recIdx 0 r.value).fail 0x1B d.boot.recIdx
      | _ => d

/-! ### Class E, watchdog, firmware (R60, R61, R534) -/

/-- CLASS_E_RECHECK (R60); `last` says that 2 s have passed. -/
def Device.recheck (d : Device) (last : Bool) : Device :=
  match d.boot.left with
  | none => d
  | some s =>
    if d.envCause.isNone then ((d.bootState s).bootReason 0 0).onBoot fun b => { b with left := none }
    else if last then d.failHard (d.get Reg.GLB_BOOT_STATUS_REASON) (d.get Reg.GLB_BOOT_STATUS_DETAIL)
    else d

/-- CAST_ON_WATCHDOG (R61). -/
def Device.castWatchdog (d : Device) : Device := if d.boot.run && d.boot.watchdog then d.fail 0x1E d.boot? else d

/-- FIRMWARE_READY (R534): core 0 reports ready and starts the other cores that it gives services; the rest stay OFF and go down
(R577). In Selvedge mode core 0 runs alone. -/
def Device.firmwareReady (d : Device) (roles : List Nat) : Device :=
  if d.boot.fwWait && (d.inSelvedge || d.boot? == 0xA) then
    let d := (d.put Reg.SVC_STATUS_READY true).onBoot fun b => { b with fwWait := false }
    let d := d.set (Reg.SVC_CORE_ROLE 0) (roles.getD 0 0)
    if d.inSelvedge then d
    else d.each (mrangeList 1 16) fun d n =>
      if roles.getD n 0 % 256 ≠ 0 && d.pwrOn (88 + n) then
        (d.set (Reg.SVC_CORE_ROLE n) (roles.getD n 0)).set (Reg.SVC_CORE_STATE n) 1
      else d.pwrDown (88 + n)
  else d
where
  /-- The numbers `lo` to `hi - 1`. -/
  mrangeList (lo hi : Nat) : List Nat := (List.range (hi - lo)).map (lo + ·)

/-- FIRMWARE_START_TIMEOUT (R534). -/
def Device.firmwareTimeout (d : Device) : Device := if d.boot.fwWait && d.boot.run then d.fail 0x1D 0 else d

/-! ### Meanings -/

/-- SYS_RST_N_ASSERT (R41). -/
def execSysRstNAssert (s : State) : Host.Outcome State Fault Refusal := s.run (·.sysReset)

/-- SYS_RST_N_RELEASE (R42): the straps BOOT_RETRY, XSPI_SINGLE, UNIT_PAIR and UNIT_SLOT, and whether the peer's pins are low. -/
def execSysRstNRelease (retry single pair slot peerActLow peerRelqLow : Bool) (s : State) : Host.Outcome State Fault Refusal :=
  s.run (·.release retry single pair slot peerActLow peerRelqLow)

/-- CAST_ON_STEP_DONE (R58): with what went wrong, if anything did. -/
def execCastOnStepDone (fault : Option StepFault) (s : State) : Host.Outcome State Fault Refusal := s.run (·.castStep fault)

/-- CLASS_E_RECHECK (R60). -/
def execClassERecheck (last : Bool) (s : State) : Host.Outcome State Fault Refusal := s.run (·.recheck last)

/-- CAST_ON_WATCHDOG (R61). -/
def execCastOnWatchdog (s : State) : Host.Outcome State Fault Refusal := s.run (·.castWatchdog)

/-- CONFIG_RECORD (R57). -/
def execConfigRecord (s : State) : Host.Outcome State Fault Refusal := s.run (·.configRecord)

/-- WAIT_FIELD_TIMEOUT (R53). -/
def execWaitFieldTimeout (s : State) : Host.Outcome State Fault Refusal := s.run (·.waitTimeout)

/-- FIRMWARE_READY (R534): the ROLE of each core, 0 for one that is not started. -/
def execFirmwareReady (roles : List (BitVec 8)) (s : State) : Host.Outcome State Fault Refusal :=
  s.run (·.firmwareReady (roles.map (·.toNat)))

/-- FIRMWARE_START_TIMEOUT (R534). -/
def execFirmwareStartTimeout (s : State) : Host.Outcome State Fault Refusal := s.run (·.firmwareTimeout)

end Sys2Proof.Machine
end

