-- ==== Sys2Proof/Machine/Mac.lean ====
section
/-!
DEFINITION. The commands of the MAC: reception of a frame, received and sent flow control, the pause watchdog (R135 to
R146).
-/
namespace Sys2Proof.Machine

/-- RX_FRAME_START: the ingress time-stamp is taken, and MAX_LEN and the reserve are those of this moment (R135, R138). -/
def Device.rxStart (d : Device) (p : Nat) : Device :=
  if d.portUp p && (d.rxOf p).isNone then
    (d.draw.2).setRx p (some { sfd := (d.ft + d.deskew p + d.stampAdj p false).toNat, maxLen := d.maxLen p })
  else d

/-- The hash index of a group address (R140). -/
def hashIndex (a : Nat) : Nat := bits a 47 36 ^^^ bits a 35 24 ^^^ bits a 23 12 ^^^ bits a 11 0

/-- The group-address filter accepts an address (R139). -/
def Device.groupAccepts (d : Device) (p a : Nat) : Bool :=
  let t := tileOf p
  let k := laneIn p
  let i := hashIndex a
  !bit a 40 || a == 0xFFFFFFFFFFFF || a / 16 == 0x0180C200000 || d.flag (Reg.MAC_CFG_MC_ALL t k)
    || bit (d.rd (Reg.MAC_MC_HASH t k (i / 32))) (i % 32)

/-- RX_ADDRESS_COMPLETE: the filter, then the MAC Control test (R135). -/
def Device.rxAddress (d : Device) (p : Nat) (bs : List Byte) : Device :=
  match d.rxOf p with
  | none => d
  | some x =>
    let bs := x.bytes ++ bs
    let x := { x with bytes := bs }
    match d.ethAt p bs with
    | none => d.setRx p (some x)
    | some o =>
      if !d.groupAccepts p (beNat (slice bs o 6)) then
        (d.setRx p (some { x with filtered := true })).rxDrop p 13 4
      else d.setRx p (some { x with ctrl := be16 bs (o + 12) == 0x8808 })

/-- A block is needed and neither source has one: the blocks taken go back, and the rest is not stored (R137). -/
def Device.rxOverrun (d : Device) (p : Nat) (x : RxFrame) : Device :=
  ((d.freeBlocks p x.bytes x.blkR x.blkS).rxDrop p 12 0).driftAll { src := p, tsSec := tmSec x.sfd % 4, tsNs := tmNs x.sfd }

/-- One block for a frame in reception, or the frame overruns. -/
def Device.rxTake (d : Device) (p : Nat) (x : RxFrame) : RxFrame × Device :=
  match d.takeBlock p with
  | (some true, d) => ({ x with blkR := x.blkR + 1 }, d)
  | (some false, d) => ({ x with blkS := x.blkS + 1 }, d)
  | (none, d) => ({ x with overrun := true, blkR := 0, blkS := 0 }, d.rxOverrun p x)

/-- The last byte, as stored, that MAX_LEN allows of a frame: byte MAX_LEN of the length of R135. -/
def Device.rxLimit (d : Device) (p : Nat) (x : RxFrame) : Nat := x.maxLen + d.lenSkip p x.bytes

/-- RX_GATHER_BLOCK: data is received and a block allocated, unless the frame is not stored (R135, R137). Beyond byte MAX_LEN nothing is
written, and the blocks go back. -/
def Device.rxBlock (d : Device) (p : Nat) (bs : List Byte) (cw : List (Option (BitVec 4))) : Device :=
  let d := d.fecCount p cw
  match d.rxOf p with
  | none => d
  | some x =>
    let was := x.bytes.length
    let x := { x with bytes := x.bytes ++ bs, code := x.code || d.fecBad p cw }
    if x.filtered || x.ctrl || x.overrun || x.tooLong then d.setRx p (some x)
    else
      let (x, d) := if d.rxLimit p x ≤ was then (x, d) else d.rxTake p x
      if !x.overrun && decide (d.rxLimit p x < x.bytes.length) then
        (d.setRx p (some { x with tooLong := true, blkR := 0, blkS := 0 })).freeBlocks p x.bytes x.blkR x.blkS
      else d.setRx p (some x)

/-- The classification of R136 at the end of a frame: statistic and Cullet reason of a discard. -/
def rxClass (len maxLen : Nat) (fcsOk codeErr : Bool) : Option (Nat × Nat) :=
  let good := fcsOk && !codeErr
  if len < 64 then some (if good then 7 else 8, 3)
  else if maxLen < len then some (if good then 9 else 10, 3)
  else if codeErr then some (6, 2)
  else if !fcsOk then some (5, 2)
  else none

/-- A 0x8808 frame that has passed its checks is accepted or counted in RX_CTRL_OTHER (R141). -/
def Device.ctrlEnd (d : Device) (p : Nat) (bs : List Byte) : Device :=
  let o := (d.ethAt p bs).getD 0
  let da := beNat (slice bs o 6)
  let op := be16 bs (o + 14)
  let m := d.fcMode p
  let mine := da == pauseAddr || da == d.get (Reg.MAC_ADDR_ADDR (tileOf p) (laneIn p))
  if mine && ((m == 1 && op == 1) || (m == 2 && op == 0x0101)) then
    d.updPort p fun x => { x with ctrl := x.ctrl ++ [bs] }
  else d.macStat p 16

/-- A ready-list entry is free for a frame (R21, R23): 8 of 64 entries are kept for control frames. DESIGN CHOICE: which entries are reserved
is counted anew from the list, so a control frame beyond eight moves to a reserved entry as soon as one empties. -/
def Device.readyRoom (d : Device) (t : Nat) (control : Bool) : Bool :=
  let l := lget d.path.ready t
  let nc := (l.filter (·.control)).length
  let unres := (l.length - nc) + (nc - 8)
  (control && decide (nc < 8)) || decide (unres < 56)

/-- Count a frame placed on a ready list (R155). -/
def Device.rxCount (d : Device) (p : Nat) (bs : List Byte) : Device :=
  let da := beNat (slice bs (if d.isJarlis p then 16 else 0) 6)
  ((((d.macStat p 0 (bs.length + 4)).macStat p 1).macStat p (2 + castOf da)).pmc 2 p)

/-- A good frame goes on the ready list, or is discarded under GATHER_RATE (R18, R21, R23). -/
def Device.rxReady (d : Device) (p : Nat) (x : RxFrame) : Device :=
  let s := sliceOf p
  let i : ParseIn := ⟨x.bytes, d.get (Reg.PRS_CFG_TPID_X s), d.get (Reg.PRS_CFG_VXLAN_PORT2 s)⟩
  let control := (i.run (d.isJarlis p)).isControl
  if d.readyRoom (tileOf p) control then
    let (id, d) := d.freshId
    let f : Frame := { id := id, bytes := x.bytes, src := p, control := control, sfd := x.sfd, arrival := d.us,
                       blkR := x.blkR, blkS := x.blkS, jh := d.isJarlis p }
    (d.rxCount p x.bytes).onPath fun q => { q with ready := lpush q.ready (tileOf p) f }
  else
    ((d.freeBlocks p x.bytes x.blkR x.blkS).cullet s p 1).driftAll
      { src := p, tsSec := tmSec x.sfd % 4, tsNs := tmNs x.sfd }

/-- The blocks that the tail of a frame needs: `n` more, or the frame overruns. -/
def Device.rxTail (d : Device) (p : Nat) (x : RxFrame) : Nat → RxFrame × Device
  | 0 => (x, d)
  | n + 1 => let (x, d) := d.rxTake p x; if x.overrun then (x, d) else d.rxTail p x n

/-- RX_FRAME_END: the last data bytes, and what the FCS check and the PCS found (R136). A frame holds the blocks of its bytes, FCS counted, up
to byte MAX_LEN. -/
def Device.rxEnd (d : Device) (p : Nat) (bs : List Byte) (fcsOk codeErr : Bool) (cw : List (Option (BitVec 4))) : Device :=
  let d := d.fecCount p cw
  match d.rxOf p with
  | none => d
  | some x =>
    let x := { x with bytes := x.bytes ++ bs, code := x.code || d.fecBad p cw }
    let all := x.bytes.length + 4
    let len := all - d.lenSkip p x.bytes
    let d := d.setRx p none
    if x.filtered then d
    else
      let stored := !x.ctrl && !x.overrun && !x.tooLong
      let (x, d) := if stored then d.rxTail p x ((min all (d.rxLimit p x) + 255) / 256 - (x.blkR + x.blkS)) else (x, d)
      let d := d.rxSize p len
      if x.overrun then d
      else match rxClass len x.maxLen fcsOk (codeErr || x.code) with
        | some (stat, reason) => (d.freeBlocks p x.bytes x.blkR x.blkS).rxDrop p stat reason
        | none => if x.ctrl then d.ctrlEnd p x.bytes else d.rxReady p x

/-! ### Received flow control (R142, R146) -/

/-- The oldest accepted MAC Control frame of an opcode. -/
def Device.popCtrl (d : Device) (p op : Nat) : Option (List Byte × Device) :=
  match (d.port p).ctrl with
  | [] => none
  | bs :: rest => if be16 bs 14 = op then some (bs, d.updPort p fun x => { x with ctrl := rest }) else none

/-- RX_PAUSE_FRAME: an accepted PAUSE frame acts. -/
def Device.rxPause (d : Device) (p : Nat) : Device :=
  match d.popCtrl p 1 with
  | none => d
  | some (bs, d) =>
    let d := d.macStat p 14
    if d.fcMode p ≠ 1 ∨ d.inBreak p 0 then d else d.pauseLoad p 0 (be16 bs 16)

/-- RX_PFC_FRAME: an accepted PFC frame acts on each enabled priority. -/
def Device.rxPfc (d : Device) (p : Nat) : Device :=
  match d.popCtrl p 0x0101 with
  | none => d
  | some (bs, d) =>
    (d.macStat p 15).each (bitsSet 8 (be16 bs 16)) fun d i =>
      let q := be16 bs (18 + 2 * i)
      let d := if q = 0 then d else d.macStat p (36 + i)
      if d.fcMode p ≠ 2 ∨ d.inBreak p i then d else d.pauseLoad p i q

/-- PAUSE_TIMER_EXPIRE: a running timer ends. -/
def Device.pauseExpire (d : Device) (p i : Nat) : Device :=
  if (d.port p).pauseQ.any fun e => e.1 == i then d.pauseLoad p i 0 else d

/-- PAUSE_WD_TRIP: a paused target enters its break. -/
def Device.wdTrip (d : Device) (p i : Nat) : Device :=
  let t := tileOf p
  let k := laneIn p
  if bit (d.get (Reg.MAC_FC_STATUS_RX_PAUSED t k)) i && !d.inBreak p i && d.get (Reg.MAC_WD_WD_MS t k) != 0 then
    let d := d.set (Reg.MAC_FC_STATUS_WD_TRIP t k) (setBit (d.get (Reg.MAC_FC_STATUS_WD_TRIP t k)) i true)
    let d := d.set (Reg.MAC_FC_STATUS_WD_BREAK t k) (setBit (d.get (Reg.MAC_FC_STATUS_WD_BREAK t k)) i true)
    d.macStat p 52
  else d

/-- PAUSE_WD_BREAK_END: the break ends and the target is unpaused. -/
def Device.wdEnd (d : Device) (p i : Nat) : Device :=
  if d.inBreak p i then
    let f := Reg.MAC_FC_STATUS_WD_BREAK (tileOf p) (laneIn p)
    (d.set f (setBit (d.get f) i false)).pauseLoad p i 0
  else d

/-! ### Sent flow control (R143) -/

/-- XOFF_ASSERT: newly requested priorities are asserted and a frame is sent. -/
def Device.xoffAssert (d : Device) (p : Nat) : Device :=
  let d := d.xoffLook p
  let was := d.txXoff p
  let now := was ||| d.xoffWant p
  if now = was then d else (d.setXoff p now).sendXoff p (d.fcMode p) now 0

/-- XOFF_RELEASE: priorities no longer requested are released. -/
def Device.xoffRelease (d : Device) (p : Nat) : Device :=
  let d := d.xoffLook p
  let was := d.txXoff p
  let keep := was &&& d.xoffWant p
  if keep = was then d else (d.setXoff p keep).sendXoff p (d.fcMode p) keep (was - keep)

/-- XOFF_REFRESH: the frame is repeated while XOFF lasts. -/
def Device.xoffRefresh (d : Device) (p : Nat) : Device :=
  let was := d.txXoff p
  if was = 0 then d else d.sendXoff p (d.fcMode p) was 0

/-! ### Meanings -/

/-- RX_FRAME_START (R135). -/
def execRxFrameStart (p : Fin 512) (s : State) : Host.Outcome State Fault Refusal := s.run (·.rxStart p.val)

/-- RX_ADDRESS_COMPLETE (R139). -/
def execRxAddressComplete (p : Fin 512) (bytes : List Byte) (s : State) : Host.Outcome State Fault Refusal :=
  s.run (·.rxAddress p.val bytes)

/-- RX_GATHER_BLOCK (R137). -/
def execRxGatherBlock (p : Fin 512) (x : RxBlock) (s : State) : Host.Outcome State Fault Refusal :=
  s.run (·.rxBlock p.val x.bytes x.cw)

/-- RX_FRAME_END (R136). -/
def execRxFrameEnd (p : Fin 512) (bytes : List Byte) (fcsOk : Bool) (pcs : PcsEnd) (s : State) : Host.Outcome State Fault Refusal :=
  s.run (·.rxEnd p.val bytes fcsOk pcs.codeErr pcs.cw)

/-- RX_PAUSE_FRAME (R142). -/
def execRxPauseFrame (p : Fin 512) (s : State) : Host.Outcome State Fault Refusal := s.run (·.rxPause p.val)

/-- RX_PFC_FRAME (R142). -/
def execRxPfcFrame (p : Fin 512) (s : State) : Host.Outcome State Fault Refusal := s.run (·.rxPfc p.val)

/-- PAUSE_TIMER_EXPIRE (R142). -/
def execPauseTimerExpire (p : Fin 512) (target : Fin 8) (s : State) : Host.Outcome State Fault Refusal :=
  s.run (·.pauseExpire p.val target.val)

/-- XOFF_ASSERT (R143). -/
def execXoffAssert (p : Fin 512) (s : State) : Host.Outcome State Fault Refusal := s.run (·.xoffAssert p.val)

/-- XOFF_REFRESH (R143). -/
def execXoffRefresh (p : Fin 512) (s : State) : Host.Outcome State Fault Refusal := s.run (·.xoffRefresh p.val)

/-- XOFF_RELEASE (R143). -/
def execXoffRelease (p : Fin 512) (s : State) : Host.Outcome State Fault Refusal := s.run (·.xoffRelease p.val)

/-- PAUSE_WD_TRIP (R146). -/
def execPauseWdTrip (p : Fin 512) (target : Fin 8) (s : State) : Host.Outcome State Fault Refusal :=
  s.run (·.wdTrip p.val target.val)

/-- PAUSE_WD_BREAK_END (R146). -/
def execPauseWdBreakEnd (p : Fin 512) (target : Fin 8) (s : State) : Host.Outcome State Fault Refusal :=
  s.run (·.wdEnd p.val target.val)

end Sys2Proof.Machine
end

