-- ==== Sys2Proof/Machine/Dispatch.lean ====
section
/-!
DEFINITION. Which meaning each command has.
-/
namespace Sys2Proof.Machine

/-- The effect of a command on everything but the queue of waiting commands. -/
def exec (i : Instr) (s : State) : Host.Outcome State Fault Refusal :=
  match i with
  | .sysRstNAssert => Sys2Proof.Machine.execSysRstNAssert s
  | .sysRstNRelease a0 a1 a2 a3 a4 a5 => Sys2Proof.Machine.execSysRstNRelease a0 a1 a2 a3 a4 a5 s
  | .perstNAssert => Sys2Proof.Machine.execPerstNAssert s
  | .pciePowerDown => Sys2Proof.Machine.execPciePowerDown s
  | .perstNRelease => Sys2Proof.Machine.execPerstNRelease s
  | .castOnStepDone a0 => Sys2Proof.Machine.execCastOnStepDone a0 s
  | .classERecheck a0 => Sys2Proof.Machine.execClassERecheck a0 s
  | .castOnWatchdog => Sys2Proof.Machine.execCastOnWatchdog s
  | .configRecord => Sys2Proof.Machine.execConfigRecord s
  | .waitFieldTimeout => Sys2Proof.Machine.execWaitFieldTimeout s
  | .firmwareReady a0 => Sys2Proof.Machine.execFirmwareReady a0 s
  | .firmwareStartTimeout => Sys2Proof.Machine.execFirmwareStartTimeout s
  | .recast a0 a1 a2 => Sys2Proof.Machine.execRecast a0 a1 a2 s
  | .enterSelvedge a0 a1 => Sys2Proof.Machine.execEnterSelvedge a0 a1 s
  | .setPref a0 a1 a2 => Sys2Proof.Machine.execSetPref a0 a1 a2 s
  | .lockSet a0 => Sys2Proof.Machine.execLockSet a0 s
  | .lockRelease a0 => Sys2Proof.Machine.execLockRelease a0 s
  | .flashWeWrite a0 a1 a2 => Sys2Proof.Machine.execFlashWeWrite a0 a1 a2 s
  | .railSample a0 => Sys2Proof.Machine.execRailSample a0 s
  | .tempSample a0 => Sys2Proof.Machine.execTempSample a0 s
  | .supplyWindowCross a0 a1 => Sys2Proof.Machine.execSupplyWindowCross a0 a1 s
  | .thermalShutdown => Sys2Proof.Machine.execThermalShutdown s
  | .surveyLanes a0 a1 a2 a3 a4 => Sys2Proof.Machine.execSurveyLanes a0 a1 a2 a3 a4 s
  | .surveyModules a0 => Sys2Proof.Machine.execSurveyModules a0 s
  | .laneSurveyDone a0 a1 a2 a3 a4 a5 a6 a7 a8 a9 a10 => Sys2Proof.Machine.execLaneSurveyDone a0 a1 a2 a3 a4 a5 a6 a7 a8 a9 a10 s
  | .moduleSurveyDone a0 a1 => Sys2Proof.Machine.execModuleSurveyDone a0 a1 s
  | .modulePresencePoll a0 a1 => Sys2Proof.Machine.execModulePresencePoll a0 a1 s
  | .autoResurvey a0 => Sys2Proof.Machine.execAutoResurvey a0 s
  | .portEnable a0 a1 a2 => Sys2Proof.Machine.execPortEnable a0 a1 a2 s
  | .portChange a0 a1 a2 => Sys2Proof.Machine.execPortChange a0 a1 a2 s
  | .portDelete a0 a1 a2 => Sys2Proof.Machine.execPortDelete a0 a1 a2 s
  | .portOptionChange a0 a1 a2 a3 a4 a5 => Sys2Proof.Machine.execPortOptionChange a0 a1 a2 a3 a4 a5 s
  | .staleDrainDone a0 => Sys2Proof.Machine.execStaleDrainDone a0 s
  | .pllLock a0 a1 => Sys2Proof.Machine.execPllLock a0 a1 s
  | .pllLoss a0 => Sys2Proof.Machine.execPllLoss a0 s
  | .refclkLoss a0 => Sys2Proof.Machine.execRefclkLoss a0 s
  | .txmapWrite a0 a1 a2 => Sys2Proof.Machine.execTxmapWrite a0 a1 a2 s
  | .laneCtrlWrite a0 a1 a2 => Sys2Proof.Machine.execLaneCtrlWrite a0 a1 a2 s
  | .anPageExchangeDone a0 a1 => Sys2Proof.Machine.execAnPageExchangeDone a0 a1 s
  | .parallelDetect a0 => Sys2Proof.Machine.execParallelDetect a0 s
  | .trainingComplete a0 => Sys2Proof.Machine.execTrainingComplete a0 s
  | .jarlisPagesReceived a0 a1 a2 a3 a4 => Sys2Proof.Machine.execJarlisPagesReceived a0 a1 a2 a3 a4 s
  | .notJarlisRetry a0 => Sys2Proof.Machine.execNotJarlisRetry a0 s
  | .linkDown a0 => Sys2Proof.Machine.execLinkDown a0 s
  | .linkReacquired a0 => Sys2Proof.Machine.execLinkReacquired a0 s
  | .reacquireTimeout a0 => Sys2Proof.Machine.execReacquireTimeout a0 s
  | .shedWindowEnd a0 => Sys2Proof.Machine.execShedWindowEnd a0 s
  | .occupancyRestore a0 => Sys2Proof.Machine.execOccupancyRestore a0 s
  | .shedDone a0 => Sys2Proof.Machine.execShedDone a0 s
  | .laneWidthReceived a0 a1 => Sys2Proof.Machine.execLaneWidthReceived a0 a1 s
  | .shedLanesLocked a0 => Sys2Proof.Machine.execShedLanesLocked a0 s
  | .laneReadyReceived a0 a1 => Sys2Proof.Machine.execLaneReadyReceived a0 a1 s
  | .restoreTimeout a0 => Sys2Proof.Machine.execRestoreTimeout a0 s
  | .sleepEnter a0 => Sys2Proof.Machine.execSleepEnter a0 s
  | .sleepWake a0 => Sys2Proof.Machine.execSleepWake a0 s
  | .wakeProbe a0 => Sys2Proof.Machine.execWakeProbe a0 s
  | .wakeProbeEnd a0 a1 => Sys2Proof.Machine.execWakeProbeEnd a0 a1 s
  | .rxFrameStart a0 => Sys2Proof.Machine.execRxFrameStart a0 s
  | .rxAddressComplete a0 a1 => Sys2Proof.Machine.execRxAddressComplete a0 a1 s
  | .rxGatherBlock a0 a1 => Sys2Proof.Machine.execRxGatherBlock a0 a1 s
  | .rxFrameEnd a0 a1 a2 a3 => Sys2Proof.Machine.execRxFrameEnd a0 a1 a2 a3 s
  | .maxLenWrite a0 a1 a2 => Sys2Proof.Machine.execMaxLenWrite a0 a1 a2 s
  | .rxPauseFrame a0 => Sys2Proof.Machine.execRxPauseFrame a0 s
  | .rxPfcFrame a0 => Sys2Proof.Machine.execRxPfcFrame a0 s
  | .pauseTimerExpire a0 a1 => Sys2Proof.Machine.execPauseTimerExpire a0 a1 s
  | .xoffAssert a0 => Sys2Proof.Machine.execXoffAssert a0 s
  | .xoffRefresh a0 => Sys2Proof.Machine.execXoffRefresh a0 s
  | .xoffRelease a0 => Sys2Proof.Machine.execXoffRelease a0 s
  | .fcModeWrite a0 a1 a2 => Sys2Proof.Machine.execFcModeWrite a0 a1 a2 s
  | .pfcMapWrite a0 a1 a2 a3 => Sys2Proof.Machine.execPfcMapWrite a0 a1 a2 a3 s
  | .pauseWdTrip a0 a1 => Sys2Proof.Machine.execPauseWdTrip a0 a1 s
  | .pauseWdBreakEnd a0 a1 => Sys2Proof.Machine.execPauseWdBreakEnd a0 a1 s
  | .pipelineTake a0 => Sys2Proof.Machine.execPipelineTake a0 s
  | .frameParse a0 => Sys2Proof.Machine.execFrameParse a0 s
  | .frameLookup a0 a1 => Sys2Proof.Machine.execFrameLookup a0 a1 s
  | .meterUpdate a0 a1 => Sys2Proof.Machine.execMeterUpdate a0 a1 s
  | .frameEdit a0 => Sys2Proof.Machine.execFrameEdit a0 s
  | .headerCapture a0 => Sys2Proof.Machine.execHeaderCapture a0 s
  | .admission a0 => Sys2Proof.Machine.execAdmission a0 s
  | .yokeCell a0 => Sys2Proof.Machine.execYokeCell a0 s
  | .stitchArrive a0 a1 a2 a3 a4 => Sys2Proof.Machine.execStitchArrive a0 a1 a2 a3 a4 s
  | .mcCopyExpand a0 => Sys2Proof.Machine.execMcCopyExpand a0 s
  | .oldVersionDrained a0 => Sys2Proof.Machine.execOldVersionDrained a0 s
  | .shaperTick => Sys2Proof.Machine.execShaperTick s
  | .select a0 => Sys2Proof.Machine.execSelect a0 s
  | .txFrameStart a0 => Sys2Proof.Machine.execTxFrameStart a0 s
  | .txFrameEnd a0 => Sys2Proof.Machine.execTxFrameEnd a0 s
  | .ruleWordWrite a0 a1 a2 a3 a4 => Sys2Proof.Machine.execRuleWordWrite a0 a1 a2 a3 a4 s
  | .ruleCommit a0 a1 a2 => Sys2Proof.Machine.execRuleCommit a0 a1 a2 s
  | .ruleInvalidate a0 a1 a2 => Sys2Proof.Machine.execRuleInvalidate a0 a1 a2 s
  | .ruleScrub a0 a1 a2 => Sys2Proof.Machine.execRuleScrub a0 a1 a2 s
  | .insert a0 a1 => Sys2Proof.Machine.execInsert a0 a1 s
  | .delete a0 a1 => Sys2Proof.Machine.execDelete a0 a1 s
  | .search a0 a1 a2 => Sys2Proof.Machine.execSearch a0 a1 a2 s
  | .next a0 a1 a2 => Sys2Proof.Machine.execNext a0 a1 a2 s
  | .flushPort a0 a1 => Sys2Proof.Machine.execFlushPort a0 a1 s
  | .bulk a0 a1 a2 => Sys2Proof.Machine.execBulk a0 a1 a2 s
  | .seedWrite a0 a1 => Sys2Proof.Machine.execSeedWrite a0 a1 s
  | .seedClearDone => Sys2Proof.Machine.execSeedClearDone s
  | .ageTick => Sys2Proof.Machine.execAgeTick s
  | .ageSweepVisit => Sys2Proof.Machine.execAgeSweepVisit s
  | .learnTokenRefill => Sys2Proof.Machine.execLearnTokenRefill s
  | .learnNotifyDeliver => Sys2Proof.Machine.execLearnNotifyDeliver s
  | .scrubPassStart => Sys2Proof.Machine.execScrubPassStart s
  | .scrubRegionDone => Sys2Proof.Machine.execScrubRegionDone s
  | .auditBatchClose => Sys2Proof.Machine.execAuditBatchClose s
  | .meterSweep a0 a1 a2 => Sys2Proof.Machine.execMeterSweep a0 a1 a2 s
  | .meterStageWrite a0 a1 a2 a3 a4 => Sys2Proof.Machine.execMeterStageWrite a0 a1 a2 a3 a4 s
  | .meterCommit a0 a1 a2 a3 => Sys2Proof.Machine.execMeterCommit a0 a1 a2 a3 s
  | .meterFieldLoad a0 a1 a2 a3 a4 a5 => Sys2Proof.Machine.execMeterFieldLoad a0 a1 a2 a3 a4 a5 s
  | .recomputeStart => Sys2Proof.Machine.execRecomputeStart s
  | .recomputeDone => Sys2Proof.Machine.execRecomputeDone s
  | .bufQueueWrite a0 a1 a2 a3 => Sys2Proof.Machine.execBufQueueWrite a0 a1 a2 a3 s
  | .spillWriteDone a0 a1 => Sys2Proof.Machine.execSpillWriteDone a0 a1 s
  | .readbackStart a0 a1 => Sys2Proof.Machine.execReadbackStart a0 a1 s
  | .readbackDone a0 a1 a2 => Sys2Proof.Machine.execReadbackDone a0 a1 a2 s
  | .spillExit a0 => Sys2Proof.Machine.execSpillExit a0 s
  | .dropCaptureRefill => Sys2Proof.Machine.execDropCaptureRefill s
  | .groupVersionWrite a0 a1 a2 a3 => Sys2Proof.Machine.execGroupVersionWrite a0 a1 a2 a3 s
  | .groupCommit a0 a1 a2 => Sys2Proof.Machine.execGroupCommit a0 a1 a2 s
  | .mirrorSessionWrite a0 a1 a2 a3 => Sys2Proof.Machine.execMirrorSessionWrite a0 a1 a2 a3 s
  | .egressCfgWrite a0 a1 a2 a3 => Sys2Proof.Machine.execEgressCfgWrite a0 a1 a2 a3 s
  | .jarlisIdWrite a0 a1 a2 => Sys2Proof.Machine.execJarlisIdWrite a0 a1 a2 s
  | .identSend a0 => Sys2Proof.Machine.execIdentSend a0 s
  | .identReceived a0 a1 a2 => Sys2Proof.Machine.execIdentReceived a0 a1 a2 s
  | .identRetry a0 => Sys2Proof.Machine.execIdentRetry a0 s
  | .orderedSetUnknown a0 => Sys2Proof.Machine.execOrderedSetUnknown a0 s
  | .linkDownOsSend a0 => Sys2Proof.Machine.execLinkDownOsSend a0 s
  | .creditSend a0 a1 => Sys2Proof.Machine.execCreditSend a0 a1 s
  | .creditReceived a0 a1 a2 => Sys2Proof.Machine.execCreditReceived a0 a1 a2 s
  | .reseqRelease a0 => Sys2Proof.Machine.execReseqRelease a0 s
  | .reseqTimeout a0 a1 => Sys2Proof.Machine.execReseqTimeout a0 a1 s
  | .trunkEnable a0 a1 a2 a3 => Sys2Proof.Machine.execTrunkEnable a0 a1 a2 a3 s
  | .trunkDisable a0 a1 => Sys2Proof.Machine.execTrunkDisable a0 a1 s
  | .trunkMembersWrite a0 a1 a2 => Sys2Proof.Machine.execTrunkMembersWrite a0 a1 a2 s
  | .epochChangeStart a0 => Sys2Proof.Machine.execEpochChangeStart a0 s
  | .epochMarkerSend a0 => Sys2Proof.Machine.execEpochMarkerSend a0 s
  | .epochChangeEnd a0 => Sys2Proof.Machine.execEpochChangeEnd a0 s
  | .epochMarkerReceived a0 => Sys2Proof.Machine.execEpochMarkerReceived a0 s
  | .trunkDetachTimeout a0 => Sys2Proof.Machine.execTrunkDetachTimeout a0 s
  | .mgmtFrameDeliver => Sys2Proof.Machine.execMgmtFrameDeliver s
  | .mgmtRequestExecute => Sys2Proof.Machine.execMgmtRequestExecute s
  | .mgmtResponseReceived => Sys2Proof.Machine.execMgmtResponseReceived s
  | .prtBindWrite a0 a1 a2 => Sys2Proof.Machine.execPrtBindWrite a0 a1 a2 s
  | .prtGrpWrite a0 a1 a2 => Sys2Proof.Machine.execPrtGrpWrite a0 a1 a2 s
  | .holdoffExpire a0 a1 => Sys2Proof.Machine.execHoldoffExpire a0 a1 s
  | .wtrExpire a0 => Sys2Proof.Machine.execWtrExpire a0 s
  | .nopathTimeout a0 => Sys2Proof.Machine.execNopathTimeout a0 s
  | .lockout a0 a1 a2 => Sys2Proof.Machine.execLockout a0 a1 a2 s
  | .force a0 a1 a2 => Sys2Proof.Machine.execForce a0 a1 a2 s
  | .manual a0 a1 a2 => Sys2Proof.Machine.execManual a0 a1 a2 s
  | .clearRequest a0 a1 a2 => Sys2Proof.Machine.execClearRequest a0 a1 a2 s
  | .sfWSet a0 a1 a2 => Sys2Proof.Machine.execSfWSet a0 a1 a2 s
  | .sfWClr a0 a1 a2 => Sys2Proof.Machine.execSfWClr a0 a1 a2 s
  | .sfPSet a0 a1 a2 => Sys2Proof.Machine.execSfPSet a0 a1 a2 s
  | .sfPClr a0 a1 a2 => Sys2Proof.Machine.execSfPClr a0 a1 a2 s
  | .roleWaitTimeout => Sys2Proof.Machine.execRoleWaitTimeout s
  | .peerActFall a0 => Sys2Proof.Machine.execPeerActFall a0 s
  | .peerRelqLow => Sys2Proof.Machine.execPeerRelqLow s
  | .muteGuardEnd => Sys2Proof.Machine.execMuteGuardEnd s
  | .failedReactivate => Sys2Proof.Machine.execFailedReactivate s
  | .criticalFault a0 a1 => Sys2Proof.Machine.execCriticalFault a0 a1 s
  | .sliceWatchdog a0 => Sys2Proof.Machine.execSliceWatchdog a0 s
  | .heartbeatSend => Sys2Proof.Machine.execHeartbeatSend s
  | .heartbeatReceived a0 a1 => Sys2Proof.Machine.execHeartbeatReceived a0 a1 s
  | .heartbeatSlotEnd a0 a1 => Sys2Proof.Machine.execHeartbeatSlotEnd a0 a1 s
  | .puntyLinkUp => Sys2Proof.Machine.execPuntyLinkUp s
  | .puntyLinkDown => Sys2Proof.Machine.execPuntyLinkDown s
  | .puntyCfgWrite a0 a1 => Sys2Proof.Machine.execPuntyCfgWrite a0 a1 s
  | .replicateReceived a0 a1 => Sys2Proof.Machine.execReplicateReceived a0 a1 s
  | .nakReceived a0 => Sys2Proof.Machine.execNakReceived a0 s
  | .syncReceived a0 a1 a2 => Sys2Proof.Machine.execSyncReceived a0 a1 a2 s
  | .resyncDone => Sys2Proof.Machine.execResyncDone s
  | .takeoverReceived => Sys2Proof.Machine.execTakeoverReceived s
  | .resync a0 a1 => Sys2Proof.Machine.execResync a0 a1 s
  | .relinquish a0 a1 => Sys2Proof.Machine.execRelinquish a0 a1 s
  | .bindOff a0 a1 => Sys2Proof.Machine.execBindOff a0 a1 s
  | .bindReqReceived a0 => Sys2Proof.Machine.execBindReqReceived a0 s
  | .bindReadyReceived => Sys2Proof.Machine.execBindReadyReceived s
  | .bindCut => Sys2Proof.Machine.execBindCut s
  | .bindQueueRelease a0 => Sys2Proof.Machine.execBindQueueRelease a0 s
  | .bindReleaseReceived a0 => Sys2Proof.Machine.execBindReleaseReceived a0 s
  | .bindMaxTimeout => Sys2Proof.Machine.execBindMaxTimeout s
  | .bindDoneReceived => Sys2Proof.Machine.execBindDoneReceived s
  | .bindReadyTimeout => Sys2Proof.Machine.execBindReadyTimeout s
  | .bindAbortReceived => Sys2Proof.Machine.execBindAbortReceived s
  | .tensionIntervalClose a0 => Sys2Proof.Machine.execTensionIntervalClose a0 s
  | .digestReceived a0 => Sys2Proof.Machine.execDigestReceived a0 s
  | .healthSend => Sys2Proof.Machine.execHealthSend s
  | .healthReceived a0 => Sys2Proof.Machine.execHealthReceived a0 s
  | .bistTestDone a0 a1 a2 a3 => Sys2Proof.Machine.execBistTestDone a0 a1 a2 a3 s
  | .todStep a0 a1 a2 a3 => Sys2Proof.Machine.execTodStep a0 a1 a2 a3 s
  | .offsetWrite a0 a1 => Sys2Proof.Machine.execOffsetWrite a0 a1 s
  | .holdoverTimeout => Sys2Proof.Machine.execHoldoverTimeout s
  | .hold a0 => Sys2Proof.Machine.execHold a0 s
  | .acquire a0 => Sys2Proof.Machine.execAcquire a0 s
  | .ppsOutEdge => Sys2Proof.Machine.execPpsOutEdge s
  | .ppsOutFall => Sys2Proof.Machine.execPpsOutFall s
  | .ppsInEdge => Sys2Proof.Machine.execPpsInEdge s
  | .todMessageSend => Sys2Proof.Machine.execTodMessageSend s
  | .todMessageReceived a0 => Sys2Proof.Machine.execTodMessageReceived a0 s
  | .synceSquelch a0 => Sys2Proof.Machine.execSynceSquelch a0 s
  | .synceReturn a0 => Sys2Proof.Machine.execSynceReturn a0 s
  | .hbmCheckDone a0 a1 => Sys2Proof.Machine.execHbmCheckDone a0 a1 s
  | .dramCommandSlot a0 a1 => Sys2Proof.Machine.execDramCommandSlot a0 a1 s
  | .rowIdleClose a0 a1 a2 => Sys2Proof.Machine.execRowIdleClose a0 a1 a2 s
  | .bankRefresh a0 a1 a2 => Sys2Proof.Machine.execBankRefresh a0 a1 a2 s
  | .stackFailure a0 a1 => Sys2Proof.Machine.execStackFailure a0 a1 s
  | .stackPowerDown a0 => Sys2Proof.Machine.execStackPowerDown a0 s
  | .offline a0 a1 => Sys2Proof.Machine.execOffline a0 a1 s
  | .stackTest a0 a1 => Sys2Proof.Machine.execStackTest a0 a1 s
  | .recover a0 a1 => Sys2Proof.Machine.execRecover a0 a1 s
  | .powerOff a0 a1 => Sys2Proof.Machine.execPowerOff a0 a1 s
  | .dstDlyWrite a0 a1 a2 a3 => Sys2Proof.Machine.execDstDlyWrite a0 a1 a2 a3 s
  | .dstTestWrite a0 a1 a2 a3 => Sys2Proof.Machine.execDstTestWrite a0 a1 a2 a3 s
  | .registerWrite a0 a1 a2 a3 a4 => Sys2Proof.Machine.execRegisterWrite a0 a1 a2 a3 a4 s
  | .registerReadError a0 a1 a2 a3 => Sys2Proof.Machine.execRegisterReadError a0 a1 a2 a3 s
  | .indirectRead a0 a1 a2 => Sys2Proof.Machine.execIndirectRead a0 a1 a2 s
  | .cpwFirstHalf a0 a1 a2 => Sys2Proof.Machine.execCpwFirstHalf a0 a1 a2 s
  | .cpwSecondHalf a0 a1 a2 a3 => Sys2Proof.Machine.execCpwSecondHalf a0 a1 a2 a3 s
  | .cpwTimeout a0 => Sys2Proof.Machine.execCpwTimeout a0 s
  | .bitWordWrite a0 a1 a2 a3 => Sys2Proof.Machine.execBitWordWrite a0 a1 a2 a3 s
  | .snapshot a0 a1 => Sys2Proof.Machine.execSnapshot a0 a1 s
  | .snapshotDone => Sys2Proof.Machine.execSnapshotDone s
  | .deviceReset a0 => Sys2Proof.Machine.execDeviceReset a0 s
  | .tileReset a0 a1 => Sys2Proof.Machine.execTileReset a0 a1 s
  | .gafferCoreReset a0 a1 => Sys2Proof.Machine.execGafferCoreReset a0 a1 s
  | .pmcReset a0 => Sys2Proof.Machine.execPmcReset a0 s
  | .blockResetDone => Sys2Proof.Machine.execBlockResetDone s
  | .hqOwnerWrite a0 a1 a2 => Sys2Proof.Machine.execHqOwnerWrite a0 a1 a2 s
  | .cqEnable a0 a1 a2 => Sys2Proof.Machine.execCqEnable a0 a1 a2 s
  | .sqEnable a0 a1 a2 => Sys2Proof.Machine.execSqEnable a0 a1 a2 s
  | .sqDoorbell a0 a1 a2 => Sys2Proof.Machine.execSqDoorbell a0 a1 a2 s
  | .cqDoorbell a0 a1 a2 => Sys2Proof.Machine.execCqDoorbell a0 a1 a2 s
  | .sqFetch a0 => Sys2Proof.Machine.execSqFetch a0 s
  | .completionWrite a0 => Sys2Proof.Machine.execCompletionWrite a0 s
  | .msixSignal a0 a1 => Sys2Proof.Machine.execMsixSignal a0 a1 s
  | .cqTimerExpire a0 a1 => Sys2Proof.Machine.execCqTimerExpire a0 a1 s
  | .injectPipeline a0 => Sys2Proof.Machine.execInjectPipeline a0 s
  | .injectFixed a0 => Sys2Proof.Machine.execInjectFixed a0 s
  | .post a0 => Sys2Proof.Machine.execPost a0 s
  | .puntDeliver a0 => Sys2Proof.Machine.execPuntDeliver a0 s
  | .bufferFlushTimeout a0 => Sys2Proof.Machine.execBufferFlushTimeout a0 s
  | .stampTimeout => Sys2Proof.Machine.execStampTimeout s
  | .flr a0 a1 => Sys2Proof.Machine.execFlr a0 a1 s
  | .busMasterChange a0 a1 a2 => Sys2Proof.Machine.execBusMasterChange a0 a1 a2 s
  | .copy a0 => Sys2Proof.Machine.execCopy a0 s
  | .fill a0 => Sys2Proof.Machine.execFill a0 s
  | .burstStart => Sys2Proof.Machine.execBurstStart s
  | .burstDone a0 a1 => Sys2Proof.Machine.execBurstDone a0 a1 s
  | .requestWithdraw a0 => Sys2Proof.Machine.execRequestWithdraw a0 s
  | .poolAlloc a0 a1 a2 => Sys2Proof.Machine.execPoolAlloc a0 a1 a2 s
  | .poolFree a0 a1 a2 => Sys2Proof.Machine.execPoolFree a0 a1 a2 s
  | .version a0 => Sys2Proof.Machine.execVersion a0 s
  | .ptpClockSet a0 => Sys2Proof.Machine.execPtpClockSet a0 s
  | .ptpPortSet a0 => Sys2Proof.Machine.execPtpPortSet a0 s
  | .ptpStatus a0 => Sys2Proof.Machine.execPtpStatus a0 s
  | .mepCreate a0 a1 => Sys2Proof.Machine.execMepCreate a0 a1 s
  | .mepDelete a0 => Sys2Proof.Machine.execMepDelete a0 s
  | .mepStatus a0 => Sys2Proof.Machine.execMepStatus a0 s
  | .apsLinearSet a0 => Sys2Proof.Machine.execApsLinearSet a0 s
  | .apsRingSet a0 => Sys2Proof.Machine.execApsRingSet a0 s
  | .apsStatus a0 => Sys2Proof.Machine.execApsStatus a0 s
  | .learnStatus a0 => Sys2Proof.Machine.execLearnStatus a0 s
  | .survey a0 => Sys2Proof.Machine.execSurvey a0 s
  | .i2cRead a0 a1 => Sys2Proof.Machine.execI2cRead a0 a1 s
  | .i2cWrite a0 a1 a2 => Sys2Proof.Machine.execI2cWrite a0 a1 a2 s
  | .ledgerRead a0 => Sys2Proof.Machine.execLedgerRead a0 s
  | .flashVerify a0 => Sys2Proof.Machine.execFlashVerify a0 s
  | .flashWrite a0 a1 => Sys2Proof.Machine.execFlashWrite a0 a1 s
  | .flashErase a0 => Sys2Proof.Machine.execFlashErase a0 s
  | .jmgmt a0 a1 => Sys2Proof.Machine.execJmgmt a0 a1 s
  | .jmgmtTimeout => Sys2Proof.Machine.execJmgmtTimeout s
  | .ccmTransmit a0 => Sys2Proof.Machine.execCcmTransmit a0 s
  | .ccmReceive a0 a1 a2 a3 a4 a5 => Sys2Proof.Machine.execCcmReceive a0 a1 a2 a3 a4 a5 s
  | .locCheck a0 => Sys2Proof.Machine.execLocCheck a0 s
  | .serviceFrameSend a0 => Sys2Proof.Machine.execServiceFrameSend a0 s
  | .gafferWatchdog a0 => Sys2Proof.Machine.execGafferWatchdog a0 s
  | .auditStreamWrite a0 a1 => Sys2Proof.Machine.execAuditStreamWrite a0 a1 s
  | .auditRecordStreamed => Sys2Proof.Machine.execAuditRecordStreamed s
  | .summaryClose => Sys2Proof.Machine.execSummaryClose s
  | .checkpoint a0 => Sys2Proof.Machine.execCheckpoint a0 s
  | .checkpointNow a0 => Sys2Proof.Machine.execCheckpointNow a0 s
  | .ledgerErase a0 a1 => Sys2Proof.Machine.execLedgerErase a0 a1 s
  | .ledgerEraseDone => Sys2Proof.Machine.execLedgerEraseDone s
  | .pmcSelWrite a0 a1 a2 => Sys2Proof.Machine.execPmcSelWrite a0 a1 a2 s
  | .telemetrySample a0 => Sys2Proof.Machine.execTelemetrySample a0 s
  | .fuseWriteKeyhash a0 a1 => Sys2Proof.Machine.execFuseWriteKeyhash a0 a1 s
  | .fuseRevokeKey a0 a1 => Sys2Proof.Machine.execFuseRevokeKey a0 a1 s
  | .fuseBurnSvn a0 a1 => Sys2Proof.Machine.execFuseBurnSvn a0 a1 s
  | .fuseProgramDone a0 => Sys2Proof.Machine.execFuseProgramDone a0 s
  | .domainAwake a0 => Sys2Proof.Machine.execDomainAwake a0 s
  | .domainWakeTimeout a0 => Sys2Proof.Machine.execDomainWakeTimeout a0 s
  | .tilePowerDown a0 => Sys2Proof.Machine.execTilePowerDown a0 s
  | .avsTransfer => Sys2Proof.Machine.execAvsTransfer s
  | .avsAck => Sys2Proof.Machine.execAvsAck s
  | .avsWindowNarrow => Sys2Proof.Machine.execAvsWindowNarrow s
  | .avsTimeout => Sys2Proof.Machine.execAvsTimeout s
  | .supplyWindowReturn a0 => Sys2Proof.Machine.execSupplyWindowReturn a0 s
  | .refclkReturn a0 => Sys2Proof.Machine.execRefclkReturn a0 s
  | .powerLoss => Sys2Proof.Machine.execPowerLoss s
  | .avsRetry => Sys2Proof.Machine.execAvsRetry s
  | .checkpointDeltaTimeout => Sys2Proof.Machine.execCheckpointDeltaTimeout s
  | .deferredCheckpoint => Sys2Proof.Machine.execDeferredCheckpoint s
  | .flashWorkDone => Sys2Proof.Machine.execFlashWorkDone s
  | .memorySpaceEnableChange a0 a1 => Sys2Proof.Machine.execMemorySpaceEnableChange a0 a1 s
  | .vfEnable => Sys2Proof.Machine.execVfEnable s

end Sys2Proof.Machine
end

