-- ==== Sys2Proof/Machine/Clock.lean ====
section
/-!
DEFINITION. One core clock in which no command is taken: time goes on (R11, R407), performance counters count clocks (R566 to R568),
and the firmware takes a frame of port 513 (R542).
-/
namespace Sys2Proof.Machine

/-- A plain event that is counted in clocks, in the clock that passes (R567). -/
def Device.clockEvent (d : Device) (event inst : Nat) : Bool :=
  if event = 1 then true
  else if event = 0xF then bit (d.xoffWant (inst / 8)) (inst % 8)
  else if event = 0x14 then (d.physOf (inst / 16)).any fun x => d.paused x (inst / 16) (inst % 16)
  else if event = 0x15 then !(d.egr inst).isEmpty && !(shpPath (inst % 16)).all (d.shpOpen (inst / 16))
  else false

/-- An occupancy (R568). -/
def Device.occupancy (d : Device) (event inst : Nat) : Nat :=
  if event = 0x40 then (d.qc inst).ru + (d.qc inst).su
  else if event = 0x41 then (d.qc inst).dru + (d.qc inst).dsu
  else if event = 0x42 then d.heldStitches
  else if event = 0x43 then d.gatherUsed inst
  else if event = 0x44 then d.depSlots inst fun _ => true
  else if event = 0x45 then d.descUsed inst
  else if event = 0x46 then d.path.wstage
  else if event = 0x47 then d.used
  else if event = 0x48 then d.mrv.fifo.length
  else if event = 0x49 then (lget d.host.due inst).length
  else if event = 0x4A then d.get (Reg.BUF_MC_USED_STITCHES inst)
  else d.get (Reg.EGR_PFC_HELD_HELD (inst / 16) (inst % 16))

/-- Counter `i` counts the clock that passes. -/
def Device.countsClock (d : Device) (i : Nat) : Bool :=
  let v := d.rd (Reg.PMC_SEL i)
  let ev := bits v 29 22
  let inst := bits v 21 8
  bit v 31 && (if bit v 30 then decide (d.rd (Reg.PMC_THR i) < d.occupancy ev inst) else d.clockEvent ev inst)

/-- One more in a performance counter (R566). -/
def Device.pmcCount (d : Device) (i : Nat) : Device :=
  let c := d.get (Reg.PMC_CNT_COUNT i) + 1
  (d.set (Reg.PMC_CNT_COUNT i) c).when (decide (2 ^ 48 ≤ c)) fun d =>
    d.wr (Reg.PMC_OVF (i / 32)) (setBit (d.rd (Reg.PMC_OVF (i / 32))) (i % 32) true)

/-- The performance counters see the clock that passes. -/
def Device.pmcClock (d : Device) : Device := d.each ((List.range 256).filter d.countsClock) Device.pmcCount

/-- The firmware takes the oldest frame of the service receive store while it runs (R542). -/
def Device.serviceTake (d : Device) : Device :=
  if d.flag Reg.SVC_STATUS_READY then { d with svcRx := { d.svcRx with store := d.svcRx.store.drop 1 } } else d

/-- The lanes whose PRBS checker runs (R133). -/
def Device.prbsChecked (d : Device) : List Nat :=
  (d.regs.filter fun e => decide (0x800000 ≤ e.1) && decide (e.1 < 0xC00000) && e.1 / 0x800 % 32 == 2 && e.1 % 0x100 == 0
    && (bits e.2.toNat 5 4 == 1 || bits e.2.toNat 5 4 == 2)).map fun e => 8 * ((e.1 - 0x800000) / 0x10000) + e.1 / 0x100 % 8

/-- Bit errors that a checker finds in a core clock, in which a lane carries at most 133 bits: a free value (R134). -/
def Device.prbsCount (d : Device) (l : Nat) : Device :=
  let f := Reg.LANE_STATUS_PRBS_ERR (tileOf l) (laneIn l)
  let (v, d) := d.draw
  d.set f (min (2 ^ 24 - 1) (d.get f + v % 134))

/-- The stacks whose domain is awake (R577). -/
def Device.stacksAwake (d : Device) : List Nat := (List.range 4).filter fun k => d.pwrOn (84 + k)

/-- The temperature that a stack reports, a free value (R453). -/
def Device.stackTemp (d : Device) (k : Nat) : Device :=
  let (v, d) := d.draw
  d.set (Reg.DST_STACK_TEMP k) (v % 256)

/-- The clock in which a FLUSH_PORT ends (DESIGN CHOICE: it takes one, R197), what waited on a standby goes on, and the SYNC stream of an
active unit sends its next message. -/
def Device.engineClock (d : Device) : Device :=
  ((d.when (d.flag Reg.MRV_STATUS_FLUSH_BUSY) fun d => d.put Reg.MRV_STATUS_FLUSH_BUSY false).standbyTurn).syncSend

/-- A core clock passes. -/
def Device.idle (d : Device) : Device :=
  ((((d.tick.pmcClock.serviceTake).each d.prbsChecked Device.prbsCount).each d.stacksAwake Device.stackTemp).engineClock).settle

end Sys2Proof.Machine
end

