-- ==== Sys2Proof/Safety.lean ====
section
/-!
DEFINITION. What counts as a safe run of the block, and the terms in which the statements say what a command changes and what it leaves.
-/
namespace Sys2Proof.Machine

/-! ### Runs -/

/-- The command goes on to a next state of which `P` holds: no fault and no refusal. -/
def Goes (o : Host.Outcome State Fault Refusal) (P : State → Prop) : Prop := ∃ t, o = .next t ∧ P t

/-- A run of `k` steps goes on to its end. -/
def runs (k : Nat) (s : State) : Prop := ∃ t, Host.Core.run Sys2Proof.core k s = .next t

/-- The register words and the addressed memories (shared SRAM, flash, ledger, pool buffers and the cores' local SRAM: R542, R45, R558,
R520, R577) are in their canonical form: addresses strictly rising, no entry equal to what an unlisted address reads as. -/
abbrev Memory.wf (d : Device) : Prop :=
  mwf regDflt d.regs = true ∧ mwf (fun _ => (0 : Byte)) d.sram = true ∧ mwf (fun _ => (0xFF : Byte)) d.flash.mem = true ∧
    mwf (fun _ => (0 : Byte)) d.ledger.mem = true ∧ mwf (fun _ => (0 : Byte)) d.pool.mem = true ∧
    mwf (fun _ => (0 : Byte)) d.coreSram = true

/-! ### What stays -/

/-- The words of the registers that follow the rest of the state at the end of every command (R209, R267, R391, R572). -/
def shownRegs : List Nat :=
  [Reg.AUD_STATUS, Reg.BUF_PHYS_FREE, Reg.BUF_SHARED_FREE, Reg.BUF_DEEP_FREE, Reg.UNT_HEALTH, Reg.MRV_STATUS, Reg.MRV_STAT 15,
    Reg.MRV_STAT 15 + 4]

/-- A word of the 64-bit register at an offset. -/
def ofReg (r k : Nat) : Prop := k = r ∨ k = r + 4

/-- A word of the performance counters, which count events of every kind (R566). -/
def pmcWord (k : Nat) : Prop := 0x50000 ≤ k ∧ k < 0x60000

/-- A word of the audit ring's and the ledger's registers, which every command that is logged changes (R572, R573). -/
def logWord (k : Nat) : Prop := 0x10000 ≤ k ∧ k < 0x20000 ∨ 0x40000 ≤ k ∧ k < 0x50000

/-- A word of the MAC statistics of port `p` (R155). -/
def macStatWord (p k : Nat) : Prop :=
  0x804800 + 0x10000 * tileOf p + 0x1000 * laneIn p ≤ k ∧ k < 0x804C00 + 0x10000 * tileOf p + 0x1000 * laneIn p

/-- A word of the FEC counters of port `p` (R132). -/
def fecWord (p k : Nat) : Prop :=
  (ofReg (Reg.TILE_FEC_CORR (tileOf p) (laneIn p)) k ∨ ofReg (Reg.TILE_FEC_UNCORR (tileOf p) (laneIn p)) k) ∨
    ∃ n, ofReg (Reg.TILE_FEC_HIST (tileOf p) (laneIn p) n) k

/-- A word of the Cullet counters (R262). -/
def culletWord (k : Nat) : Prop := 0xD82000 ≤ k ∧ k < 0xD83800 ∨ 0xDC0000 ≤ k ∧ k < 0xDF0600

/-- Every register word outside those of `l` is unchanged, but for the ones that follow the state and the performance counters. -/
def keepsRegs (d e : Device) (l : Nat → Prop) : Prop := ∀ k, ¬ l k → k ∉ shownRegs → ¬ pmcWord k → e.rd k = d.rd k

/-- Everything a device holds beside its registers, the log of what it put out and the levels of its two output pins. -/
def Device.hidden (d : Device) : Device :=
  { d with regs := [], out := [], unit := { d.unit with actOut := .z, relqOut := .z } }

/-- Nothing beside registers, outputs and pins is changed. -/
def keepsHidden (d e : Device) : Prop := e.hidden = d.hidden

/-- The words that completions change: the status and the statistics of queues, INFLIGHT (R484, R491, R499). -/
def hqWord (k : Nat) : Prop :=
  k = Reg.HQ_GLB_STATUS ∨ (∃ n, k = Reg.HQ_CQ_STATUS n) ∨ ∃ n i, ofReg (Reg.HQ_STAT n i) k

/-- The words of the accounts of the Skein that a stitch freed or discarded changes, beside BUF_STATUS (R247, R250, R262, R317). -/
def skeinWord (k : Nat) : Prop :=
  k ∈ [Reg.BUF_CTRL_USED, Reg.BUF_STATUS, Reg.BUF_DFREE_CNT, Reg.BUF_DMIR_SKIP] ∨ (∃ n, k = Reg.BUF_MC_USED n) ∨
    ∃ x j, k = Reg.EGR_PFC_HELD x j

/-- The words that any write on the register bus may change beside those of its block: what a bus error and a rejected pair capture, the
counters of the bus, the log, and replication (R375, R462, R464, R468, R478). -/
def busWord (k : Nat) : Prop :=
  k ∈ [Reg.GLB_BUS_ERR_ADDR, Reg.GLB_BUS_ERR_SRC, Reg.GLB_CPW_STATUS, Reg.GLB_CPW_ADDR, Reg.UNT_PSEQ_SENT] ∨
    (∃ i, ofReg (Reg.GLB_STAT i) k) ∨ (∃ i, ofReg (Reg.UNT_STAT i) k) ∨ logWord k

/-- A command goes on, leaves the queue of waiting commands, every register word outside `w` and every part of the device beside those
that `blank` empties. -/
def leaves (c : Instr) (s : State) (w : Nat → Prop) (blank : Device → Device) : Prop :=
  Goes (exec c s) fun t => t.pending = s.pending ∧ keepsRegs s.dev t.dev w ∧ blank t.dev.hidden = blank s.dev.hidden

/-! ### Readings that several statements share -/

/-- The partner pauses target `i` of port `p` (R150). -/
def Device.partnerPauses (d : Device) (p i : Nat) : Bool := bit (d.get (Reg.MAC_FC_STATUS_RX_PAUSED (tileOf p) (laneIn p))) i

/-- A write of the register bus by a requester that the device sees is performed: nothing makes it a bus error or a rejected pair
(R461, R468). -/
abbrev performs (d : Device) (rq : Requester) (off size data : Nat) (hw : Bool := false) : Prop :=
  d.notSeen rq = false ∧ (d.busWriteR rq hw off size true data).1 = .ok

/-- A complement pair made as one 64-bit write is performed. -/
abbrev performsPair (d : Device) (rq : Requester) (off v : Nat) (hw : Bool := false) : Prop :=
  performs d rq off 8 (v + 2 ^ 32 * (2 ^ 32 - 1 - v)) hw

/-- The two writes of a word of an indirect window, ADDR and DATA, are performed (R470). -/
abbrev performsWin (d : Device) (rq : Requester) (w : Win) (a data : Nat) (hw : Bool := false) : Prop :=
  performs d rq w.addr (if w = .dst then 8 else 4) a ∧
  performs (d.busWrite rq w.addr (if w = .dst then 8 else 4) a) rq w.data 4 data hw

/-- Several 32-bit writes in order are performed. -/
def performsSeq (d : Device) (rq : Requester) : List (Nat × Nat) → Prop
  | [] => True
  | (o, v) :: l => performs d rq o 4 v ∧ performsSeq (d.busWrite rq o 4 v) rq l

/-- Every RW bit of the register whose low word lies at `off` holds what was written (R15). -/
abbrev tookWord (e : Device) (off data : Nat) : Prop :=
  ∀ x ∈ regAt off, x.2.2 = false → e.rd off &&& (x.1.rw % 2 ^ 32) = data &&& (x.1.rw % 2 ^ 32)

/-- The table engine serves the command `e` that a Gaffer core brings: it is ready, the unit is no standby, no insert of a notification
waits, no host queue comes before it in the rotation or has an entry to refuse, and no scrub holds its key off (R192, R207, R379). -/
def Device.tableServes (d : Device) (e : List Byte) : Prop :=
  d.engineReady = true ∧ d.role ≠ roleStandby ∧ d.mrv.fwQ = [] ∧ d.tblTurn (.firmware 0) = true ∧
    (d.host.ops.all fun o => !(d.tblHead o && o.tblCommon != 0)) = true ∧ d.tblHeld e = false

/-- The entry that an INSERT makes (R193, R194). -/
def Device.entryOf (d : Device) (e : List Byte) : MrvEntry :=
  { key := cmdKey e, result := cmdResult e, age := d.get Reg.MRV_AGE_NOW_NOW, learned := bit (byteAt e 48) 4,
    static := bit (byteAt e 48) 3 }

/-! ### What the device shows -/

/-- The status registers and pins are what the rest of the state makes them (R209, R267, R369, R391, R572). -/
def shows (d : Device) : Prop :=
  d.flag Reg.MRV_STATUS_AUDIT_STALL = !d.engineMay ∧
  d.get Reg.AUD_STATUS_USED = d.used % 2 ^ 17 ∧
  d.flag Reg.AUD_STATUS_FULL = (d.stream && decide (65280 ≤ d.used)) ∧
  d.flag Reg.AUD_STATUS_HW_LOW = (d.stream && decide (65520 < d.used)) ∧
  d.get Reg.BUF_PHYS_FREE_STITCHES = d.physFree ∧
  d.get Reg.BUF_SHARED_FREE_F0 = d.f0 % 2 ^ 20 ∧
  d.get Reg.BUF_DEEP_FREE_F1 = d.f1 % 2 ^ 29 ∧
  d.flag Reg.UNT_HEALTH_DIVERGED = (d.divergedPorts != 0) ∧
  d.get Reg.UNT_HEALTH_DIVERGED_PORTS = d.divergedPorts % 2 ^ 16 ∧
  d.flag Reg.UNT_HEALTH_FAIL = (d.divergedPorts != 0 || d.flag Reg.UNT_HEALTH_BIST_ERR) ∧
  d.flag Reg.UNT_HEALTH_DRIFT_PERSIST = d.driftPersist ∧
  d.flag Reg.UNT_HEALTH_SYNCED = d.flag Reg.UNT_STATUS_SYNCED ∧
  d.flag Reg.UNT_HEALTH_CRIT = (d.get Reg.UNT_STATUS_CRIT_CAUSE != 0) ∧
  d.unit.actOut = d.actPin ∧ d.unit.relqOut = d.relqPin

end Sys2Proof.Machine
end

