-- ==== Sys2Proof/Certificates/Slice0/Obligations.lean ====
section
/-!
DEFINITION. The statements for the provers: what every command of the block does and what it leaves, what the device shows after every
step, and that the block never stops.
-/
open Sys2Proof Sys2Proof.Machine

/-- R135, R136, R139, R141, completion and frame of RX_FRAME_START, RX_ADDRESS_COMPLETE, RX_GATHER_BLOCK and RX_FRAME_END. A delimiter on an up
port begins a frame under the MAX_LEN of that moment. A group address that the filter refuses marks the frame, and an accepted one of
EtherType 0x8808 turns to the MAC Control path. A block of a frame that is stored comes from the reserve while that lasts. At its end no
frame is in reception any more. The codewords that a block brought are counted, and an uncorrectable one spoils the frame (R110). -/
def Obligations.ReceptionAdvances : Prop :=
  ∀ (s : State) (p : Fin 512) (bs : List Byte) (fcsOk codeErr : Bool) (cw : List (Option (BitVec 4))),
    let counts := fun k => macStatWord p k ∨ culletWord k
    let bad := s.dev.fecBad p cw
    Goes (exec (.rxFrameStart p) s) (fun t =>
      t.dev.rxOf p = (if s.dev.portUp p ∧ s.dev.rxOf p = none then
          some { sfd := (s.dev.ft + s.dev.deskew p + s.dev.stampAdj p false).toNat, maxLen := s.dev.maxLen p } else s.dev.rxOf p)
      ∧ (∀ q, q ≠ p.val → t.dev.rxOf q = s.dev.rxOf q)
      ∧ keepsRegs s.dev t.dev (fun _ => False) ∧ t.dev.hidden = { s.dev.hidden with path := t.dev.path, freeCtr := t.dev.freeCtr }) ∧
    Goes (exec (.rxAddressComplete p bs) s) (fun t =>
      (∀ x, s.dev.rxOf p = some x → s.dev.isJarlis p = false →
        t.dev.rxOf p = some { x with
          bytes := x.bytes ++ bs
          filtered := x.filtered || !s.dev.groupAccepts p (beNat (slice (x.bytes ++ bs) 0 6))
          ctrl := if s.dev.groupAccepts p (beNat (slice (x.bytes ++ bs) 0 6)) then be16 (x.bytes ++ bs) 12 == 0x8808 else x.ctrl })
      ∧ (s.dev.rxOf p = none → t.dev.rxOf p = none)
      ∧ (∀ q, q ≠ p.val → t.dev.rxOf q = s.dev.rxOf q)
      ∧ keepsRegs s.dev t.dev counts ∧ t.dev.hidden = { s.dev.hidden with path := t.dev.path }) ∧
    Goes (exec (.rxGatherBlock p ⟨bs, cw⟩) s) (fun t =>
      (∀ x, s.dev.rxOf p = some x → (x.filtered || x.ctrl || x.overrun || x.tooLong) = false →
        x.bytes.length < x.maxLen → (x.bytes ++ bs).length ≤ x.maxLen → (s.dev.port p).blkR < (s.dev.port p).resv →
        t.dev.rxOf p = some { x with bytes := x.bytes ++ bs, code := x.code || bad, blkR := x.blkR + 1 }
        ∧ (t.dev.port p).blkR = (s.dev.port p).blkR + 1 ∧ (t.dev.port p).blkS = (s.dev.port p).blkS)
      ∧ (∀ x, s.dev.rxOf p = some x → (x.filtered || x.ctrl || x.overrun || x.tooLong) = true →
        t.dev.rxOf p = some { x with bytes := x.bytes ++ bs, code := x.code || bad } ∧ t.dev.ports = s.dev.ports)
      ∧ (∀ q, q ≠ p.val → t.dev.rxOf q = s.dev.rxOf q)
      ∧ keepsRegs s.dev t.dev (fun k => counts k ∨ fecWord p k ∨ k = Reg.MAC_GATHER_STATUS (tileOf p))) ∧
    Goes (exec (.rxFrameEnd p bs fcsOk ⟨codeErr, cw⟩) s) (fun t =>
      t.dev.rxOf p = none
      ∧ (∀ x, s.dev.rxOf p = some x → (x.filtered || x.ctrl || x.overrun || x.tooLong) = false →
        rxClass ((x.bytes ++ bs).length + 4 - s.dev.lenSkip p (x.bytes ++ bs)) x.maxLen fcsOk (codeErr || x.code || bad) = none →
        (x.bytes ++ bs).length + 4 ≤ 256 * (x.blkR + x.blkS) → s.dev.readyRoom (tileOf p) false = true →
        ∃ f, lget t.dev.path.ready (tileOf p) = lget s.dev.path.ready (tileOf p) ++ [f] ∧
          f.bytes = x.bytes ++ bs ∧ f.src = p.val ∧ f.sfd = x.sfd ∧ f.blkR = x.blkR ∧ f.blkS = x.blkS)
      ∧ (∀ q, q ≠ p.val → t.dev.rxOf q = s.dev.rxOf q))

/-- R142, R143, R146, completion of RX_PAUSE_FRAME, RX_PFC_FRAME, PAUSE_TIMER_EXPIRE, PAUSE_WD_TRIP, PAUSE_WD_BREAK_END, XOFF_ASSERT,
XOFF_RELEASE and XOFF_REFRESH. An accepted PAUSE or PFC frame pauses its targets outside a break, and a time of 0 ends the pause; a running
timer that ends unpauses its target; a target that has been paused enters its break under a WD_MS other than 0, and leaves it unpaused.
What is asserted toward the partner grows by what is requested, loses what is no longer requested, and is repeated as it stands. -/
def Obligations.FlowControlActs : Prop :=
  ∀ (s : State) (p : Fin 512) (i : Fin 8),
    Goes (exec (.pauseTimerExpire p i) s) (fun t =>
      t.dev.partnerPauses p i = (s.dev.partnerPauses p i && !((s.dev.port p).pauseQ.any fun e => e.1 == i.val))) ∧
    Goes (exec (.pauseWdTrip p i) s) (fun t =>
      t.dev.inBreak p i =
        (s.dev.inBreak p i || (s.dev.partnerPauses p i && s.dev.get (Reg.MAC_WD_WD_MS (tileOf p) (laneIn p)) != 0))) ∧
    Goes (exec (.pauseWdBreakEnd p i) s) (fun t =>
      t.dev.inBreak p i = false ∧ t.dev.partnerPauses p i = (s.dev.partnerPauses p i && !s.dev.inBreak p i)) ∧
    Goes (exec (.rxPauseFrame p) s) (fun t => ∀ bs rest, (s.dev.port p).ctrl = bs :: rest → be16 bs 14 = 1 →
      (t.dev.port p).ctrl = rest ∧
      t.dev.partnerPauses p 0 =
        (if s.dev.fcMode p = 1 ∧ s.dev.inBreak p 0 = false then be16 bs 16 != 0 else s.dev.partnerPauses p 0)) ∧
    Goes (exec (.rxPfcFrame p) s) (fun t => ∀ bs rest, (s.dev.port p).ctrl = bs :: rest → be16 bs 14 = 0x0101 →
      (t.dev.port p).ctrl = rest ∧
      t.dev.partnerPauses p i =
        (if bit (be16 bs 16) i ∧ s.dev.fcMode p = 2 ∧ s.dev.inBreak p i = false then be16 bs (18 + 2 * i) != 0
          else s.dev.partnerPauses p i)) ∧
    Goes (exec (.xoffAssert p) s) (fun t => t.dev.txXoff p = s.dev.txXoff p ||| (s.dev.xoffLook p).xoffWant p) ∧
    Goes (exec (.xoffRelease p) s) (fun t => t.dev.txXoff p = s.dev.txXoff p &&& (s.dev.xoffLook p).xoffWant p) ∧
    Goes (exec (.xoffRefresh p) s) (fun t => t.dev.txXoff p = s.dev.txXoff p ∧
      (s.dev.txXoff p = 0 → t.dev.regs = s.dev.settle.regs))

/-- R142, R143, R146, frame of the flow-control commands of a port: they change MAC_FC_STATUS, the port's statistics and what its MAC holds,
and nothing else of the block. -/
def Obligations.FlowControlFrame : Prop :=
  ∀ (s : State) (p : Fin 512) (i : Fin 8) (c : Instr),
    c ∈ [.pauseTimerExpire p i, .pauseWdTrip p i, .pauseWdBreakEnd p i, .rxPauseFrame p, .rxPfcFrame p, .xoffAssert p, .xoffRelease p,
      .xoffRefresh p] →
    Goes (exec c s) fun t =>
      keepsRegs s.dev t.dev (fun k => k = Reg.MAC_FC_STATUS (tileOf p) (laneIn p) ∨ macStatWord p k) ∧
      (∀ q, q ≠ p.val → t.dev.port q = s.dev.port q) ∧
      t.dev.hidden = { s.dev.hidden with ports := t.dev.ports }

/-- R22, R24 to R27, completion of PIPELINE_TAKE, FRAME_PARSE, FRAME_LOOKUP, METER_UPDATE, FRAME_EDIT and HEADER_CAPTURE: the front frame of a stage
passes to the next. A frame offered by one tile alone is taken and gets its stitches; a frame that parses well goes to lookup with its
default class; a trapped frame keeps its destination and takes its epoch; a frame without a meter takes its ingress colour; an edit that
keeps the stitch count passes on the edited bytes; the captured frame carries the header of its decision. -/
def Obligations.PipelineStages : Prop :=
  ∀ (s : State) (n : Fin 16) (f : Frame) (rest : List Frame) (e : Option Bool) (ecc : Option (Bool × Fin 1056768)),
    ((∀ r, r < 5 → (s.dev.offered n r).2 = if r = 0 then [f] else []) → nget s.dev.path.pptr n = 0 →
      mget (fun _ => none) s.dev.path.starved n = none → f.need ≤ s.dev.physFree → s.dev.flight n + f.need ≤ 1024 →
      Goes (exec (.pipelineTake n) s) fun t => ∃ g, (t.dev.pipe n).taken = (s.dev.pipe n).taken ++ [g] ∧
        g.bytes = f.bytes ∧ g.n = f.need ∧ g.charge = .flight n ∧ nget t.dev.path.pptr n = 1) ∧
    ((s.dev.pipe n).taken = f :: rest → f.fixed = false →
      let i : ParseIn := ⟨f.bytes, s.dev.get (Reg.PRS_CFG_TPID_X n), s.dev.get (Reg.PRS_CFG_VXLAN_PORT2 n)⟩
      (i.run f.jh).jarlis = none → (i.run f.jh).outcome = 0 →
      Goes (exec (.frameParse n) s) fun t => (t.dev.pipe n).taken = rest ∧ ∃ g, (t.dev.pipe n).parsed = (s.dev.pipe n).parsed ++ [g] ∧
        g.bytes = f.bytes ∧ g.parse = i.run f.jh ∧ g.dec.tc = s.dev.defaultTc n { f with parse := i.run f.jh }) ∧
    (∀ p, (s.dev.pipe n).parsed = f :: rest → f.fixed = false → f.trapCode ≠ 0 → f.dec.dest = .port p →
      Goes (exec (.frameLookup n ecc) s) fun t => (t.dev.pipe n).parsed = rest ∧
        ∃ g, (t.dev.pipe n).looked = (s.dev.pipe n).looked ++ [g] ∧ g.dec = f.dec ∧ g.hdr.dest = p ∧ g.hdr.epoch = s.dev.epoch p) ∧
    ((s.dev.pipe n).looked = f :: rest → f.fixed = false → f.trapCode < 0xF0 → f.dec.meter = none →
      Goes (exec (.meterUpdate n e) s) fun t => (t.dev.pipe n).looked = rest ∧
        (t.dev.pipe n).metered = (s.dev.pipe n).metered ++ [{ f with dec := { f.dec with colour := s.dev.inColour f } }]) ∧
    ((s.dev.pipe n).metered = f :: rest → f.parse.jarlis = none → (s.dev.editBytes f).1.length + 4 ≤ 16383 →
      stitchCount ((s.dev.editBytes f).1.length + 4) = f.n → f.stitches.length = f.n →
      Goes (exec (.frameEdit n) s) fun t => (t.dev.pipe n).metered = rest ∧ (t.dev.pipe n).edited = (s.dev.pipe n).edited ++
        [{ f with bytes := (s.dev.editBytes f).1, jh := (s.dev.editBytes f).2, hops0 := false }]) ∧
    ((s.dev.pipe n).edited = f :: rest → f.dec.copyHost = none → f.dec.copySvc = none → f.dec.mir = none →
      Goes (exec (.headerCapture n) s) fun t => (t.dev.pipe n).edited = rest ∧
        ∃ g, (t.dev.pipe n).captured = (s.dev.pipe n).captured ++ [g] ∧ g.bytes = f.bytes ∧ g.hdr = s.dev.headerOf f)

/-- R251, R252, R285, R291, completion of ADMISSION, for each kind of frame that a slice has captured. A unicast frame that R252 holds enters the
VOQ of its port and queue, on die or in the deep segment, charged as R252 says; a refused one is counted under its reason. A copy does the
same, and is refused under COPY_ADM. A multicast frame within its account is queued toward every tile of its group that is awake, and is
refused under MC_ADM else. In every case the frame is nowhere in the pipeline any more. -/
def Obligations.AdmissionDecides : Prop :=
  ∀ (s : State) (n : Fin 16) (f : Frame) (rest : List Frame),
    (s.dev.pipe n).captured = f :: rest →
    let q := qIdx f.hdr.dest f.hdr.queue
    let here := s.dev.onPipe n fun p => { p with captured := rest }
    let own := here.flightSub n f.n
    let taken := fun (t : State) => (t.dev.pipe n).captured = rest
    let counted := fun (t : State) (p r : Nat) =>
      t.dev.get (Reg.BUF_CULLET_PORT_COUNT p r) = (s.dev.get (Reg.BUF_CULLET_PORT_COUNT p r) + 1) % 2 ^ 48
    let onDie := fun (t : State) (g : Frame) => ∃ o,
      (t.dev.voq (voqKey n q)).on = (s.dev.voq (voqKey n q)).on ++ [{ g with ord := o }]
    let deep := fun (t : State) (g : Frame) => t.dev.path.wstage = s.dev.path.wstage + f.n ∧ ∃ o,
      (t.dev.voq (voqKey n q)).deep = (s.dev.voq (voqKey n q)).deep ++ [{ frame := { g with ord := o }, slots := [], state := 0 }]
    (f.isCopy = false → f.ctx = none → f.inj = none → f.ckind ≠ 4 → f.src < 516 →
      (f.hdr.dtype ≠ 1 → f.hdr.dest < 516 → s.dev.flag (Reg.MIR_PORT_EGR_EN f.hdr.dest) = false →
        (∀ c sp, own.admitTest q f.n f.hdr.colour f.control = (.onDie c, sp) →
          Goes (exec (.admission n) s) fun t => taken t ∧ onDie t { f with charge := c }) ∧
        (∀ c sp, own.admitTest q f.n f.hdr.colour f.control = (.deep c, sp) →
          Goes (exec (.admission n) s) fun t => taken t ∧ deep t { f with charge := c }) ∧
        (∀ r sp, own.admitTest q f.n f.hdr.colour f.control = (.refused r, sp) →
          Goes (exec (.admission n) s) fun t => taken t ∧ counted t f.hdr.dest r)) ∧
      (f.hdr.dtype = 1 →
        let room := own.get (Reg.BUF_MC_USED_STITCHES n) + f.n ≤ admThreshold (own.get Reg.BUF_MC_CFG_ALPHA) 0 own.f0
        (room → Goes (exec (.admission n) s) fun t => taken t ∧
          ∀ i ∈ (bitsSet 64 (s.dev.groupTiles f.hdr.dest f.hdr.gver)).filter s.dev.pwrOn,
            lget t.dev.path.mcq (1024 * n + 16 * i + f.hdr.queue) =
              lget s.dev.path.mcq (1024 * n + 16 * i + f.hdr.queue) ++ [{ f with charge := .mc n }]) ∧
        (¬ room → Goes (exec (.admission n) s) fun t => taken t ∧ counted t f.src 15))) ∧
    (f.isCopy = true → f.ckind ≠ 4 → f.hdr.dest < 516 →
      (∀ c sp, here.admitTest q f.n f.hdr.colour f.control = (.onDie c, sp) →
        Goes (exec (.admission n) s) fun t => taken t ∧ onDie t { f with charge := c }) ∧
      (∀ c sp, here.admitTest q f.n f.hdr.colour f.control = (.deep c, sp) →
        Goes (exec (.admission n) s) fun t => taken t ∧ deep t { f with charge := c }) ∧
      (∀ r sp, here.admitTest q f.n f.hdr.colour f.control = (.refused r, sp) → f.mirror = none →
        Goes (exec (.admission n) s) fun t => taken t ∧ counted t f.hdr.dest 20))

/-- R278, R279, R281, R284, R286, completion of YOKE_CELL, STITCH_ARRIVE, MC_COPY_EXPAND and OLD_VERSION_DRAINED. A lone request that
finds room is matched and its first stitch leaves; the first stitch of a unicast frame that passes its checks brings the frame into its
egress queue, before the later frames of its ingress port (R37); a record of a tile copy that admission holds on die becomes an entry of
its port's queue; the older version of a group that no frame in flight names is busy no longer. -/
def Obligations.YokeMoves : Prop :=
  ∀ (s : State) (plane : Fin 4) (tile : Fin 64) (err : BitVec 128) (g : Fin 65536),
    (∀ (r : Req) (st : Start), s.dev.requests = [r] → r.cont = false → r.start = some st → r.u < 64 → r.o < 64 → st.u = r.u →
      st.o = r.o → r.count ≤ s.dev.depFree r.o →
      Goes (exec (.yokeCell plane) s) fun t =>
        lget t.dev.path.transit (4 * r.o + plane) = lget s.dev.path.transit (4 * r.o + plane) ++ [⟨st.frame, 0, st.mc⟩]) ∧
    (∀ (x : Transit) (rest : List Transit) (f : DepFrame), lget s.dev.path.transit (4 * tile + plane) = x :: rest →
      s.dev.depFrame tile x.frame.id = some f → f.dead = false → f.bad = false → x.idx = 0 → x.mc = false →
      headerOk (leBytes 16 (leNat (x.frame.hdr.stitch x.idx f.total) ^^^ err.toNat)) = true →
      s.dev.stale x.frame.hdr.dest (unicastEntry tile x.frame) = false →
      Goes (exec (.stitchArrive tile plane err true true) s) fun t =>
        lget t.dev.path.transit (4 * tile + plane) = rest ∧
        lget t.dev.path.egr (qIdx x.frame.hdr.dest x.frame.hdr.queue) =
          joinQueue (unicastEntry tile x.frame) (lget s.dev.path.egr (qIdx x.frame.hdr.dest x.frame.hdr.queue))) ∧
    (∀ (x : DepFrame) (c : Charge), s.dev.expandable tile = some x →
      let l := s.dev.groupList tile x.frame.hdr.dest x.frame.hdr.gver
      let r := s.dev.member tile (l.1 + x.recIdx)
      let port := bits r 29 20
      let len := copyLen x.frame.hdr.len (bits r 18 17) x.frame.parse.jarlis.isSome (s.dev.jarlisPort port)
      x.recIdx + 1 < l.2 → bit r 19 = false → x.frame.hops0 = false → len ≤ 16383 →
      s.dev.admitTest (qIdx port x.frame.hdr.queue) (stitchCount len) x.frame.hdr.colour x.frame.control = (.onDie c, false) →
      Goes (exec (.mcCopyExpand tile) s) fun t => ∃ e, lget t.dev.path.egr (qIdx port x.frame.hdr.queue) =
          lget s.dev.path.egr (qIdx port x.frame.hdr.queue) ++ [e] ∧
        e.hdr.dest = port ∧ e.len = len ∧ e.charge = c ∧ e.vidOp = bits r 18 17 ∧ e.vid = bits r 16 5) ∧
    Goes (exec (.oldVersionDrained g) s) fun t =>
      t.dev.oldBusy g = (s.dev.oldBusy g && s.dev.groupInflight g (1 - s.dev.groupCur g) != 0) ∧
      ∀ h, h ≠ g.val → t.dev.oldBusy h = s.dev.oldBusy h

/-- R33, R36, R142, R147, R307, R310, completion of SHAPER_TICK, SELECT, TX_FRAME_START and TX_FRAME_END. A tick adds the rate up to the
burst; a selection with one logical port at the physical port and nothing to discard takes the head of the queue that the procedure of
R307 names; the MAC starts the selected frame when the port is idle, unless the port has been muted since (R36) or its queue paused
(R142), and at its end sends it whole with a right FCS when every stitch has come. -/
def Obligations.EgressSends : Prop :=
  ∀ (s : State) (x : Fin 512) (u : Selected) (rest : List Selected) (f : DepFrame) (w : TxFrame) (e : EgrEntry) (es : List EgrEntry),
    (∀ l n, s.dev.shapers = [(l, n)] → mget (fun _ => false) s.dev.path.shpFill (21 * l + n) = false →
      Goes (exec .shaperTick s) fun t => t.dev.tok l n =
        min (s.dev.tok l n + s.dev.get (Reg.SHP_RATE_RATE l n)) (s.dev.get (Reg.SHP_BURST_BURST l n) * 200000)) ∧
    (∀ (y : Fin 516) (l g i : Nat), y.val = x.val → s.dev.each (x.val :: s.dev.mapped x) (fun d l => d.purge l) = s.dev →
      s.dev.canAccept x = true → s.dev.mapped x = [l] → s.dev.candidate x l = true →
      (s.dev.pickGroup x l (s.dev.topLevel x l)).1 = some g → (s.dev.pickQueue x l g).1 = some i →
      s.dev.egr (qIdx l (4 * g + i)) = e :: es → s.dev.selCheck x l (4 * g + i) e = none →
      s.dev.mutedAt x (qIdx l (4 * g + i)) = false → s.dev.trunkOf l = none → s.dev.tensionOn = false →
      s.dev.isJarlis x = false →
      Goes (exec (.select y) s) fun t => t.dev.egr (qIdx l (4 * g + i)) = es ∧ nget t.dev.path.rr x = l + 1 ∧
        ∃ v, lget t.dev.path.sel x = lget s.dev.path.sel x ++ [v] ∧ v.entry = e ∧ v.q = qIdx l (4 * g + i)) ∧
    (s.dev.txOf x = none → lget s.dev.path.sel x = u :: rest → s.dev.startable u.entry = true →
      (s.dev.unit.muted && s.dev.mutedAt x u.q) = true →
      Goes (exec (.txFrameStart x) s) fun t => lget t.dev.path.sel x = rest ∧ t.dev.txOf x = none) ∧
    (s.dev.txOf x = none → lget s.dev.path.sel x = u :: rest → s.dev.startable u.entry = true →
      (s.dev.unit.muted && s.dev.mutedAt x u.q) = false → s.dev.rxPaused x (u.q % 16) = true →
      Goes (exec (.txFrameStart x) s) fun t => t.dev.txOf x = none ∧
        lget t.dev.path.sel x = (u :: rest).filter fun v => !s.dev.rxPaused x (v.q % 16)) ∧
    (s.dev.txOf x = none → lget s.dev.path.sel x = u :: rest → s.dev.startable u.entry = true →
      (s.dev.unit.muted && s.dev.mutedAt x u.q) = false → s.dev.rxPaused x (u.q % 16) = false →
      s.dev.depFrame u.entry.tile u.entry.id = some f → f.dead = false → f.bad = false → u.entry.hdr.ptp = 0 → u.entry.seq = none →
      Goes (exec (.txFrameStart x) s) fun t => lget t.dev.path.sel x = rest ∧
        t.dev.txOf x = some ⟨u.entry, s.dev.entryBytes u.entry, false⟩) ∧
    (s.dev.txOf x = some w → s.dev.depFrame w.entry.tile w.entry.id = some f → f.dead = false → f.bad = false →
      f.total ≤ f.arrived.length →
      Goes (exec (.txFrameEnd x) s) fun t => t.dev.txOf x = none ∧ .frame x w.bytes true false ∈ t.dev.out)

/-- R15, R463, completion of the commands that write a plain register word: where the bus performs the write, every RW bit of the register
holds what was written. MAX_LEN_WRITE, PFC_MAP_WRITE, MIRROR_SESSION_WRITE, EGRESS_CFG_WRITE, HQ_OWNER_WRITE, CQ_ENABLE, SQ_ENABLE,
AUDIT_STREAM_WRITE, PMC_SEL_WRITE, DST_DLY_WRITE, and REGISTER_WRITE of the registers of the parser, the classifier and the meters. -/
def Obligations.PlainWritesStore : Prop :=
  ∀ (s : State) (rq : Requester) (p : Fin 512) (n : Fin 16) (data : BitVec 32),
    (∀ len : BitVec 14, performs s.dev rq (macReg p) 4 (withBits (s.dev.rd (macReg p)) 13 0 len.toNat) →
      Goes (exec (.maxLenWrite rq p len) s) fun t => t.dev.get (Reg.MAC_CFG_MAX_LEN (tileOf p) (laneIn p)) = len.toNat) ∧
    (∀ prio : Fin 8, performs s.dev rq (Reg.MAC_PFC_MAP (tileOf p) (laneIn p) prio) 4 data.toNat →
      Goes (exec (.pfcMapWrite rq p prio data) s) fun t =>
        tookWord t.dev (Reg.MAC_PFC_MAP (tileOf p) (laneIn p) prio) data.toNat) ∧
    (∀ w : Fin 32, performs s.dev rq (Reg.MIR_SESSION_W0 n + 4 * w) 4 data.toNat →
      Goes (exec (.mirrorSessionWrite rq n w data) s) fun t => tookWord t.dev (Reg.MIR_SESSION_W0 n + 4 * w) data.toNat) ∧
    (∀ (l : Fin 516) (w : Fin 256), performs s.dev rq (Reg.EGR_PORT_CFG l + 4 * w) 4 data.toNat →
      Goes (exec (.egressCfgWrite rq l w data) s) fun t => tookWord t.dev (Reg.EGR_PORT_CFG l + 4 * w) data.toNat) ∧
    (performs s.dev rq (Reg.HQ_OWNER p) 4 data.toNat →
      Goes (exec (.hqOwnerWrite rq p data) s) fun t => tookWord t.dev (Reg.HQ_OWNER p) data.toNat) ∧
    (performs s.dev rq (Reg.HQ_CQ_CFG p) 4 (withBits data.toNat 31 31 1) →
      Goes (exec (.cqEnable rq p data) s) fun t => t.dev.flag (Reg.HQ_CQ_CFG_EN p) = true ∧
        tookWord t.dev (Reg.HQ_CQ_CFG p) (withBits data.toNat 31 31 1)) ∧
    (performs s.dev rq (Reg.HQ_SQ_CFG p) 4 (withBits data.toNat 31 31 1) →
      Goes (exec (.sqEnable rq p data) s) fun t => t.dev.flag (Reg.HQ_SQ_CFG_EN p) = true ∧
        tookWord t.dev (Reg.HQ_SQ_CFG p) (withBits data.toNat 31 31 1)) ∧
    (∀ stream : Bool, performs s.dev rq Reg.AUD_CFG 4 (2 ^ 31 * b2n stream) →
      Goes (exec (.auditStreamWrite rq stream) s) fun t => t.dev.stream = stream) ∧
    (∀ i : Fin 256, performs s.dev rq (Reg.PMC_SEL i) 4 data.toNat →
      Goes (exec (.pmcSelWrite rq i data) s) fun t => tookWord t.dev (Reg.PMC_SEL i) data.toNat) ∧
    (∀ (k : Fin 4) (w : Fin 256), performs s.dev rq (Reg.DST_DLY_CH k 0 + 4 * w) 4 data.toNat →
      Goes (exec (.dstDlyWrite rq k w data) s) fun t => tookWord t.dev (Reg.DST_DLY_CH k 0 + 4 * w) data.toNat) ∧
    (∀ off : BitVec 28, 0xC00000 ≤ off.toNat → off.toNat < 0xD00000 → off.toNat % 0x10000 < 0x5000 → winAt off.toNat = none →
      performs s.dev rq off.toNat 4 data.toNat →
      Goes (exec (.registerWrite rq off 4 true (data.setWidth 64)) s) fun t => tookWord t.dev off.toNat data.toNat)

/-- R15, R102, R108, R133, R145, R328, R337, R355, R362, completion of the register commands with an effect in their block, on the register
itself: TXMAP_WRITE and LANE_CTRL_WRITE where no port is enabled, FC_MODE_WRITE, JARLIS_ID_WRITE, TRUNK_MEMBERS_WRITE of a trunk that is not
enabled, PRT_BIND_WRITE and PRT_GRP_WRITE with nothing selected for transmission, PORT_OPTION_CHANGE, PORT_CHANGE of a port that stays
off, BIT_WORD_WRITE. -/
def Obligations.BlockWritesStore : Prop :=
  ∀ (s : State) (rq : Requester) (tile : Fin 64) (p : Fin 512) (data : BitVec 32),
    (s.dev.portsOfTile tile = [] → performs s.dev rq (Reg.TILE_TXMAP tile) 4 data.toNat →
      Goes (exec (.txmapWrite rq tile data) s) fun t => t.dev.get (Reg.TILE_TXMAP_POS tile) = data.toNat % 2 ^ 24) ∧
    (s.dev.portOfLane p = none → performs s.dev rq (Reg.LANE_CTRL (tileOf p) (laneIn p)) 4 data.toNat →
      Goes (exec (.laneCtrlWrite rq p data) s) fun t =>
        t.dev.get (Reg.LANE_CTRL_TX_INV (tileOf p) (laneIn p)) = bits data.toNat 0 0 ∧
        t.dev.get (Reg.LANE_CTRL_PRBS_CHK (tileOf p) (laneIn p)) = bits data.toNat 5 4 ∧
        t.dev.get (Reg.LANE_STATUS_PRBS_ERR (tileOf p) (laneIn p)) = 0) ∧
    (∀ mode : BitVec 2, performs s.dev rq (macReg p) 4 (withBits (s.dev.rd (macReg p)) 31 30 mode.toNat) →
      Goes (exec (.fcModeWrite rq p mode) s) fun t =>
        t.dev.get (Reg.MAC_CFG_FC_MODE (tileOf p) (laneIn p)) = mode.toNat ∧
        (s.dev.get (Reg.MAC_CFG_FC_MODE (tileOf p) (laneIn p)) ≠ mode.toNat → (t.dev.port p).pauseQ = [] ∧ t.dev.txXoff p = 0)) ∧
    (∀ dom dev : BitVec 12, (∀ q, q < 512 → (s.dev.portEn q && s.dev.isJarlis q) = false) →
      performs s.dev rq Reg.JFL_CFG 4 (withBits (s.dev.rd Reg.JFL_CFG) 23 0 (4096 * dom.toNat + dev.toNat)) →
      Goes (exec (.jarlisIdWrite rq dom dev) s) fun t =>
        t.dev.get Reg.JFL_CFG_DOMAIN = dom.toNat ∧ t.dev.get Reg.JFL_CFG_DEVID = dev.toNat) ∧
    (∀ (k : Fin 256) (m : BitVec 32), s.dev.trunkEn k = false → performs s.dev rq (Reg.JFL_TRUNK_MEMBERS k) 4 m.toNat →
      Goes (exec (.trunkMembersWrite rq k m) s) fun t => t.dev.get (Reg.JFL_TRUNK_MEMBERS_PORTS k) = m.toNat) ∧
    (s.dev.path.sel = [] → performs s.dev rq (Reg.PRT_BIND p) 4 data.toNat →
      Goes (exec (.prtBindWrite rq p data) s) fun t =>
        t.dev.get (Reg.PRT_BIND_KIND p) = bits data.toNat 31 30 ∧ t.dev.get (Reg.PRT_BIND_INDEX p) = bits data.toNat 11 0) ∧
    (∀ g : Fin 4096, s.dev.path.sel = [] → performs s.dev rq (Reg.PRT_GRP_CFG g) 4 data.toNat →
      Goes (exec (.prtGrpWrite rq g data) s) fun t => tookWord t.dev (Reg.PRT_GRP_CFG g) data.toNat) ∧
    (s.dev.portEn p = true → ∀ (policy shed sleep : Bool) (probe : BitVec 8),
      performs s.dev rq (portReg p) 4 (withBits (withBits (s.dev.portCfg p) 12 10 (4 * b2n policy + 2 * b2n shed + b2n sleep)) 7 0
        probe.toNat) → cfgFec (s.dev.portCfg p) ≠ 0xF →
      Goes (exec (.portOptionChange rq p policy shed sleep probe) s) fun t =>
        t.dev.portEn p = true ∧ t.dev.get (Reg.TILE_PORT_CFG_PROBE_S (tileOf p) (laneIn p)) = probe.toNat) ∧
    (s.dev.portEn p = false → bit data.toNat 31 = false → performs s.dev rq (portReg p) 4 data.toNat →
      Goes (exec (.portChange rq p data) s) fun t =>
        t.dev.get (Reg.TILE_PORT_CFG_WIDTH (tileOf p) (laneIn p)) = bits data.toNat 27 24) ∧
    (∀ (w : Fin 8192) (b : Fin 32), performs s.dev rq (0x100000 + 128 * w + 4 * b) 4 data.toNat → 4 * w.val = Reg.GLB_SCRATCH →
      Goes (exec (.bitWordWrite rq w b data) s) fun t =>
        t.dev.rd Reg.GLB_SCRATCH = setBit (s.dev.rd Reg.GLB_SCRATCH) b (bit data.toNat 0))

/-- R68, R73, R74, R187, R366, R474, R565, R574, completion of the complement pairs, where the bus performs them: LOCK_RELEASE, FLASH_WE_WRITE,
SET_PREF, RECAST, ENTER_SELVEDGE, SEED_WRITE, LOCKOUT, FORCE, MANUAL, CLEAR, the four signal-fail commands, DEVICE_RESET, LEDGER_ERASE and the
three fuse commands. -/
def Obligations.PairsAct : Prop :=
  ∀ (s : State) (rq : Requester) (slot : Fin 4) (fuse : Fin 2) (a b clr hw : Bool) (g : Fin 4096) (v : BitVec 32),
    (performsPair s.dev rq Reg.GLB_LOCK_REL 1 → Goes (exec (.lockRelease rq) s) fun t => t.dev.flag Reg.GLB_LOCK_LOCKED = false) ∧
    (performs s.dev rq Reg.GLB_LOCK 4 1 → Goes (exec (.lockSet rq) s) fun t => t.dev.flag Reg.GLB_LOCK_LOCKED = true) ∧
    (performsPair s.dev rq Reg.GLB_FLASH_WE (b2n a + 2 * b2n b) →
      Goes (exec (.flashWeWrite rq a b) s) fun t =>
        t.dev.flag Reg.GLB_FLASH_WE_A_EN = a ∧ t.dev.flag Reg.GLB_FLASH_WE_B_EN = b) ∧
    (performsPair s.dev rq Reg.GLB_BOOT_CTRL (3 + 16 * slot.val + 256 * b2n clr) →
      Goes (exec (.setPref rq slot clr) s) fun t => t.dev.ledger.prefIdx = s.dev.ledger.prefIdx + 1) ∧
    (performsPair s.dev rq Reg.GLB_BOOT_CTRL (1 + 16 * slot.val + 256 * b2n clr) →
      Goes (exec (.recast rq slot clr) s) fun t => t.dev.boot.run = true ∧
        (s.dev.envCause = none → t.dev.get Reg.GLB_BOOT_STATUS_STATE = 1) ∧
        (∀ r x, s.dev.envCause = some (r, x) → t.dev.get Reg.GLB_BOOT_STATUS_STATE = 0xE ∧
          t.dev.get Reg.GLB_BOOT_STATUS_REASON = r) ∧
        t.dev.boot.retry = clr ∧ t.dev.boot.forced = (if slot.val = 0 then none else some (slot.val - 1)) ∧ t.dev.ports = []) ∧
    (performsPair s.dev rq Reg.GLB_BOOT_CTRL (2 + 256 * b2n clr) →
      Goes (exec (.enterSelvedge rq clr) s) fun t => t.dev.inSelvedge = true ∧ t.dev.get Reg.GLB_BOOT_STATUS_REASON = 0xC2 ∧
        t.dev.ports = []) ∧
    (performsPair s.dev rq Reg.MRV_SEED v.toNat →
      Goes (exec (.seedWrite rq v) s) fun t => t.dev.rd Reg.MRV_SEED = v.toNat ∧ t.dev.flag Reg.MRV_STATUS_SEED_BUSY = true ∧
        t.dev.mrv.cache = [] ∧ t.dev.mrv.firstSweep = true) ∧
    (s.dev.path.sel = [] → performsPair s.dev rq Reg.PRT_GRP_CMD (65536 * g.val + 0) hw →
      Goes (exec (.clearRequest rq g hw) s) fun t => t.dev.get (Reg.PRT_GRP_STATE_REQ g) = 0) ∧
    (s.dev.path.sel = [] → performsPair s.dev rq Reg.PRT_GRP_CMD (65536 * g.val + 1) hw →
      Goes (exec (.lockout rq g hw) s) fun t => t.dev.get (Reg.PRT_GRP_STATE_REQ g) = 1) ∧
    (s.dev.path.sel = [] → performsPair s.dev rq Reg.PRT_GRP_CMD (65536 * g.val + 2) hw →
      Goes (exec (.force rq g hw) s) fun t => t.dev.get (Reg.PRT_GRP_STATE_REQ g) = 2) ∧
    (s.dev.path.sel = [] → performsPair s.dev rq Reg.PRT_GRP_CMD (65536 * g.val + 3) hw →
      Goes (exec (.manual rq g hw) s) fun t => t.dev.get (Reg.PRT_GRP_STATE_REQ g) = 3) ∧
    (s.dev.path.sel = [] → performsPair s.dev rq Reg.PRT_GRP_CMD (65536 * g.val + 4) hw →
      Goes (exec (.sfWSet rq g hw) s) fun t => (t.dev.grpFlag g).cmdW = true ∧ t.dev.flag (Reg.PRT_GRP_STATE_SF_W g) = true) ∧
    (s.dev.path.sel = [] → performsPair s.dev rq Reg.PRT_GRP_CMD (65536 * g.val + 5) hw →
      Goes (exec (.sfWClr rq g hw) s) fun t => (t.dev.grpFlag g).cmdW = false) ∧
    (s.dev.path.sel = [] → performsPair s.dev rq Reg.PRT_GRP_CMD (65536 * g.val + 6) hw →
      Goes (exec (.sfPSet rq g hw) s) fun t => (t.dev.grpFlag g).cmdP = true ∧ t.dev.flag (Reg.PRT_GRP_STATE_SF_P g) = true) ∧
    (s.dev.path.sel = [] → performsPair s.dev rq Reg.PRT_GRP_CMD (65536 * g.val + 7) hw →
      Goes (exec (.sfPClr rq g hw) s) fun t => (t.dev.grpFlag g).cmdP = false) ∧
    (performsPair s.dev rq Reg.GLB_RST_CTRL 1 →
      Goes (exec (.deviceReset rq) s) fun t => (∀ k, k ∉ shownRegs → t.dev.rd k = (regDflt k).toNat) ∧ t.dev.path = {} ∧
        t.dev.ports = [] ∧ t.dev.ft = 0 ∧ t.dev.tod = 0) ∧
    (performsPair s.dev rq Reg.LDG_ERASE v.toNat →
      Goes (exec (.ledgerErase rq v) s) fun t => t.dev.ledger.erasing = true ∧ t.dev.ledger.next = 1 ∧ t.dev.ledger.acc = []) ∧
    (performsPair s.dev rq Reg.AUD_FUSE_PROG (1 + 32 * fuse.val) →
      Goes (exec (.fuseWriteKeyhash rq fuse) s) fun t => t.dev.fuses.busy = some (1, fuse.val)) ∧
    (performsPair s.dev rq Reg.AUD_FUSE_PROG (2 + 32 * fuse.val) →
      Goes (exec (.fuseRevokeKey rq fuse) s) fun t => t.dev.fuses.busy = some (2, fuse.val)) ∧
    (performsPair s.dev rq Reg.AUD_FUSE_PROG (3 + 32 * fuse.val) →
      Goes (exec (.fuseBurnSvn rq fuse) s) fun t => t.dev.fuses.busy = some (3, fuse.val))

/-- R166 to R171, R233, R234, R271, R284, R450, R470, completion of the writes through an indirect window, where the bus performs them: each stores
its word where the window's address names it, and leaves every other word of its table. RULE_WORD_WRITE, RULE_COMMIT, RULE_INVALIDATE,
METER_STAGE_WRITE, METER_COMMIT, METER_FIELD_LOAD, BUF_QUEUE_WRITE, GROUP_VERSION_WRITE, GROUP_COMMIT and DST_TEST_WRITE; with RULE_SCRUB and
METER_SWEEP of a clean entry. -/
def Obligations.WindowWritesStore : Prop :=
  ∀ (s : State) (rq : Requester) (sl : Fin 16) (r g : Fin 65536) (m : Fin 16384) (data : BitVec 32),
    (∀ w : Fin 44, performsWin s.dev rq (.cls sl) (64 * r + w) data.toNat →
      Goes (exec (.ruleWordWrite rq sl r w data) s) fun t => t.dev.rules.wd r w = data.toNat ∧ nget t.dev.rules.valid r = 0 ∧
        (∀ r' w', w' < 64 → (r' ≠ r.val ∨ w' ≠ w.val) → t.dev.rules.wd r' w' = s.dev.rules.wd r' w') ∧
        ∀ r', r' ≠ r.val → nget t.dev.rules.valid r' = nget s.dev.rules.valid r') ∧
    (performsWin s.dev rq (.cls sl) (64 * r + 63) 1 →
      Goes (exec (.ruleCommit rq sl r) s) fun t => nget t.dev.rules.valid r = 0xFFFF ∧ t.dev.rules.word = s.dev.rules.word) ∧
    (performsWin s.dev rq (.cls sl) (64 * r + 63) 0 →
      Goes (exec (.ruleInvalidate rq sl r) s) fun t => nget t.dev.rules.valid r = 0 ∧ t.dev.rules.word = s.dev.rules.word) ∧
    Goes (exec (.ruleScrub sl r none) s) (fun t => t.dev.rules = s.dev.rules) ∧
    (∀ w : Fin 3, performsWin s.dev rq (.mtr sl) (32 * m + w) data.toNat →
      Goes (exec (.meterStageWrite rq sl m w data) s) fun t =>
        t.dev.meterStage sl = (s.dev.meterStage sl).set w (if w.val < 2 then data.toNat % 2 ^ 28
          else if bit data.toNat 30 then data.toNat - 2 ^ 30 else data.toNat) ∧ ∀ k, t.dev.meter sl k = s.dev.meter sl k) ∧
    (performsWin s.dev rq (.mtr sl) (32 * m + 3) data.toNat →
      Goes (exec (.meterCommit rq sl m data) s) fun t =>
        (t.dev.meter sl m).cir = (s.dev.meterStage sl).getD 0 0 ∧ (t.dev.meter sl m).eir = (s.dev.meterStage sl).getD 1 0 ∧
        (t.dev.meter sl m).cbs = (s.dev.meterStage sl).getD 2 0 % 2 ^ 24 ∧ (t.dev.meter sl m).ebs = data.toNat % 2 ^ 24 ∧
        (t.dev.meter sl m).fresh = false ∧ ∀ k, k < 16384 → k ≠ m.val → t.dev.meter sl k = s.dev.meter sl k) ∧
    (∀ w : Fin 32, performsWin s.dev rq (.mtr sl) (32 * m + w) data.toNat →
      Goes (exec (.meterFieldLoad rq sl m w data false) s) fun t =>
        (w.val = 8 → (t.dev.meter sl m).last = data.toNat) ∧
        (w.val = 5 → (t.dev.meter sl m).c = nget s.dev.meters.even (32 * sl + 4) + 2 ^ 32 * (data.toNat % 2 ^ 16)) ∧
        (w.val = 7 → (t.dev.meter sl m).e = nget s.dev.meters.even (32 * sl + 6) + 2 ^ 32 * (data.toNat % 2 ^ 16)) ∧
        (w.val = 4 → nget t.dev.meters.even (32 * sl + 4) = data.toNat)) ∧
    ((s.dev.meter sl m).bad = false →
      Goes (exec (.meterSweep sl m none) s) fun t => t.dev.meter sl m = s.dev.meterFill sl (s.dev.meter sl m)) ∧
    (∀ (q : Fin 8256) (w : Fin 16), performsWin s.dev rq .buf (16 * q + w) data.toNat → w.val < 5 →
      Goes (exec (.bufQueueWrite rq q w data) s) fun t =>
        t.dev.qword q w = data.toNat &&& [0xFFFF8000, 0xFFFFF, 0xFFFFF, 0x1FFFF, 0xFFFFF].getD w 0) ∧
    (∀ a : BitVec 20, performsWin s.dev rq (.rep sl) a.toNat data.toNat →
      Goes (exec (.groupVersionWrite rq sl a data) s) fun t =>
        (a.toNat < 0x40000 → mget (fun _ => 0) t.dev.path.grp a.toNat = data) ∧
        (0x40000 ≤ a.toNat → a.toNat < 0xC0000 → mget (fun _ => 0) t.dev.path.lists
          (131072 * (4 * sl + (a.toNat - 0x40000) / 0x20000) + a.toNat % 0x20000) = BitVec.ofNat 32 (data.toNat % 2 ^ 19)) ∧
        (0xC0000 ≤ a.toNat → a.toNat < 0xD0000 → mget (fun _ => 0) t.dev.path.members
          (16384 * (4 * sl + (a.toNat - 0xC0000) / 0x4000) + a.toNat % 0x4000) = BitVec.ofNat 32 (data.toNat &&& 0x3FFFFFE0))) ∧
    (performs s.dev rq (Reg.REP_GRP_CMD sl) 4 (2 ^ 31 + g) →
      Goes (exec (.groupCommit rq sl g) s) fun t => t.dev.groupCur g = 1 - s.dev.groupCur g ∧
        t.dev.oldBusy g = (s.dev.groupInflight g (s.dev.groupCur g) != 0) ∧ ∀ h, h ≠ g.val → t.dev.groupCur h = s.dev.groupCur h) ∧
    (∀ (slot : BitVec 28) (w : Fin 64), s.dev.stackState (slotStack slot.toNat) = 4 →
      performsWin s.dev rq .dst (64 * slot.toNat + w) data.toNat →
      Goes (exec (.dstTestWrite rq slot w data) s) fun t => mget (fun _ => 0) t.dev.deep.staged w = data ∧
        (w.val = 63 → ∀ i, i < 64 → leNat (slice (lget t.dev.deep.mem slot.toNat) (4 * i) 4) =
          (mget (fun _ => 0) t.dev.deep.staged i).toNat) ∧
        ∀ k, k ≠ slot.toNat → lget t.dev.deep.mem k = lget s.dev.deep.mem k)

/-- R102, R104, R337, R355, R409, R417, R418, R452, R472, R475, R521, R522, completion of the register commands that start or
stop something: PORT_ENABLE, PORT_DELETE, TRUNK_ENABLE, TRUNK_DISABLE, TOD_STEP, OFFSET_WRITE, HOLD, ACQUIRE, OFFLINE, TEST, RECOVER, POWER_OFF,
SNAPSHOT, SNAPSHOT_DONE, TILE_RESET, GAFFER_CORE_RESET, PMC_RESET, BLOCK_RESET_DONE, SURVEY_LANES, SURVEY_MODULES, POOL_ALLOC, POOL_FREE,
RECOMPUTE_START and RECOMPUTE_DONE. -/
def Obligations.RegisterCommandsAct : Prop :=
  ∀ (s : State) (rq : Requester) (p q : Fin 512) (k : Fin 4) (o : Fin 80) (data : BitVec 32),
    (performs s.dev rq (portReg p) 4 (withBits data.toNat 31 31 1) →
      Goes (exec (.portEnable rq p data) s) fun t => t.dev.portEn p = true ∧
        t.dev.get (Reg.TILE_PORT_CFG_RATE (tileOf p) (laneIn p)) = bits data.toNat 23 20) ∧
    (performs s.dev rq (portReg p) 4 (withBits data.toNat 31 31 0) →
      Goes (exec (.portDelete rq p data) s) fun t => t.dev.portEn p = false ∧ (s.dev.portEn p = true →
        t.dev.epoch p = (s.dev.epoch p + 1) % 256 ∧ t.dev.portState p = 0 ∧ t.dev.portUp p = false)) ∧
    (∀ (n : Fin 256) (sl : Fin 16) (w : BitVec 11), performs s.dev rq (Reg.JFL_TRUNK_CFG n) 4 (2 ^ 31 + 2 ^ 27 * sl.val + w.toNat) →
      Goes (exec (.trunkEnable rq n sl w) s) fun t => t.dev.trunkEn n = true ∧ t.dev.trunkBase n = 32 * sl.val ∧
        t.dev.get (Reg.JFL_TRUNK_CFG_WINDOW_US n) = w.toNat) ∧
    (∀ n : Fin 256, performs s.dev rq (Reg.JFL_TRUNK_CFG n) 4 (s.dev.rd (Reg.JFL_TRUNK_CFG n) % 2 ^ 31) →
      Goes (exec (.trunkDisable rq n) s) fun t => t.dev.trunkEn n = false ∧
        (s.dev.trunkEn n = true → t.dev.flag (Reg.JFL_TRUNK_STATUS_CHANGING n) = false)) ∧
    (∀ (sec : BitVec 64) (ns : BitVec 30) (frac : BitVec 16),
      performsSeq s.dev rq [(Reg.TIM_SET_W0, frac.toNat), (Reg.TIM_SET_W1, ns.toNat), (Reg.TIM_SET_W2, sec.toNat % 2 ^ 32),
        (Reg.TIM_SET_W3, sec.toNat / 2 ^ 32)] →
      Goes (exec (.todStep rq sec ns frac) s) fun t =>
        t.dev.tod = sec.toNat * secUnits + min ns.toNat 999999999 * 65536 + frac.toNat ∧ t.dev.ft = s.dev.ft) ∧
    (∀ off : BitVec 48, performs s.dev rq Reg.TIM_OFFSET 8 off.toNat →
      let x := signed 48 off.toNat
      let step := s.dev.get Reg.TIM_LOCK_STEP_US ≠ 0 ∧ s.dev.get Reg.TIM_LOCK_STEP_US * 1000 * 65536 ≤ x.natAbs
      Goes (exec (.offsetWrite rq off) s) fun t => t.dev.ft = s.dev.ft ∧
        (step → t.dev.tod = (((s.dev.tod : Int) - x) % tmMod).toNat ∧ t.dev.servoState = 1) ∧
        (¬ step → t.dev.tod = s.dev.tod)) ∧
    (performs s.dev rq Reg.TIM_CTRL 4 (2 ^ 31) → (s.dev.servoState = 1 ∨ s.dev.servoState = 2) →
      Goes (exec (.hold rq) s) fun t => t.dev.servoState = 3 ∧ t.dev.time.f = s.dev.time.avg ∧ t.dev.time.before = s.dev.servoState) ∧
    (performs s.dev rq Reg.TIM_CTRL 4 (2 ^ 30) → (s.dev.servoState = 2 ∨ s.dev.servoState = 3) →
      Goes (exec (.acquire rq) s) fun t => t.dev.servoState = 1 ∧ t.dev.time.i = s.dev.time.i) ∧
    (s.dev.stackState k = 2 → performs s.dev rq Reg.DST_STACK_CMD 4 (16 * k + 1) →
      Goes (exec (.offline rq k) s) fun t => t.dev.stackState k = 3 ∧ t.dev.get (Reg.DST_STACK_CAUSE k) = 5) ∧
    ((s.dev.stackState k = 0 ∨ s.dev.stackState k = 3) → performs s.dev rq Reg.DST_STACK_CMD 4 (16 * k + 2) →
      Goes (exec (.stackTest rq k) s) fun t => t.dev.stackState k = 4) ∧
    ((s.dev.stackState k = 0 ∨ s.dev.stackState k = 3 ∨ s.dev.stackState k = 4) →
      performs s.dev rq Reg.DST_STACK_CMD 4 (16 * k + 3) → Goes (exec (.recover rq k) s) fun t => t.dev.stackState k = 1) ∧
    ((s.dev.stackState k = 3 ∨ s.dev.stackState k = 4) → performs s.dev rq Reg.DST_STACK_CMD 4 (16 * k + 4) →
      Goes (exec (.powerOff rq k) s) fun t => t.dev.stackState k = 0) ∧
    (∀ sets : BitVec 8, performs s.dev rq Reg.GLB_SNAP_CMD 4 sets.toNat → sets.toNat % 64 ≠ 0 →
      s.dev.flag Reg.GLB_SNAP_EPOCH_BUSY = false →
      Goes (exec (.snapshot rq sets) s) fun t => t.dev.flag Reg.GLB_SNAP_EPOCH_BUSY = true ∧
        t.dev.get Reg.GLB_SNAP_EPOCH_SETS = sets.toNat) ∧
    Goes (exec .snapshotDone s) (fun t => t.dev.flag Reg.GLB_SNAP_EPOCH_BUSY = false) ∧
    (∀ n : Fin 64, performsPair s.dev rq Reg.GLB_BLK_RST (2 ^ 31 + n) →
      Goes (exec (.tileReset rq n) s) fun t => t.dev.flag Reg.GLB_BLK_RST_STATUS_BUSY = true ∧
        ∀ a, 0x800000 + 0x10000 * n.val ≤ a → a < 0x810000 + 0x10000 * n.val → t.dev.rd a = (regDflt a).toNat) ∧
    (∀ n : Fin 16, performsPair s.dev rq Reg.GLB_BLK_RST (2 ^ 31 + 0x40 + n) → s.dev.get (Reg.SVC_CORE_STATE n) ≠ 0 →
      Goes (exec (.gafferCoreReset rq n) s) fun t => t.dev.flag Reg.GLB_BLK_RST_STATUS_BUSY = true ∧
        t.dev.get (Reg.SVC_CORE_STATE n) = 1) ∧
    (performsPair s.dev rq Reg.GLB_BLK_RST (2 ^ 31 + 0x50) →
      Goes (exec (.pmcReset rq) s) fun t => t.dev.flag Reg.GLB_BLK_RST_STATUS_BUSY = true ∧
        ∀ a, pmcWord a → t.dev.rd a = (regDflt a).toNat) ∧
    Goes (exec .blockResetDone s) (fun t => t.dev.flag Reg.GLB_BLK_RST_STATUS_BUSY = false) ∧
    (∀ (auto res : Bool), performs s.dev rq Reg.SRV_CTRL 4
        (2 ^ 31 + 2 ^ 30 * b2n auto + 2 ^ 29 * b2n res + 2 ^ 9 * q.val + p.val) →
      p.val ≤ q.val → s.dev.flag Reg.SRV_STATUS_BUSY = false → s.dev.inSelvedge = false →
      Goes (exec (.surveyLanes rq p q res auto) s) fun t => t.dev.flag Reg.SRV_STATUS_BUSY = true) ∧
    (performs s.dev rq Reg.SRV_CTRL 4 (withBits (withBits (s.dev.rd Reg.SRV_CTRL) 25 24 1) 31 31 1) →
      s.dev.flag Reg.SRV_STATUS_BUSY = false → s.dev.inSelvedge = false →
      Goes (exec (.surveyModules rq) s) fun t => t.dev.flag Reg.SRV_STATUS_BUSY = true) ∧
    (∀ size : BitVec 15, performs s.dev rq (Reg.POOL_ALLOC o) 4 size.toNat → size.toNat = 0 →
      Goes (exec (.poolAlloc rq o size) s) fun t => t.dev.get (Reg.POOL_RESULT_HANDLE o) = 0xFFFFFFFF ∧
        t.dev.get (Reg.POOL_OSTAT_LAST o) = 2) ∧
    (∀ (size : BitVec 15) (i : Nat), performs s.dev rq (Reg.POOL_ALLOC o) 4 size.toNat → 1 ≤ size.toNat → size.toNat ≤ 256 →
      s.dev.poolHeld o 0 < s.dev.poolResv o 0 → s.dev.poolLowest 0 = some i →
      Goes (exec (.poolAlloc rq o size) s) fun t =>
        t.dev.get (Reg.POOL_RESULT_HANDLE o) = poolHandle (((s.dev.pbuf 0 i).gen + 1) % 256) 0 i ∧
        (t.dev.pbuf 0 i).owner = some o.val ∧ t.dev.get (Reg.POOL_OSTAT_LAST o) = 0) ∧
    (performs s.dev rq (Reg.POOL_FREE o) 4 data.toNat → handleOk data.toNat = true →
      (s.dev.pbuf (handleClass data.toNat) (handleIndex data.toNat)).owner = some o.val →
      (s.dev.pbuf (handleClass data.toNat) (handleIndex data.toNat)).gen = handleGen data.toNat →
      Goes (exec (.poolFree rq o data) s) fun t =>
        (t.dev.pbuf (handleClass data.toNat) (handleIndex data.toNat)).owner = none ∧ t.dev.get (Reg.POOL_OSTAT_LAST o) = 0) ∧
    Goes (exec .recomputeStart s) (fun t => t.dev.flag Reg.BUF_STATUS_RECALC = true) ∧
    Goes (exec .recomputeDone s) (fun t =>
      t.dev.flag Reg.BUF_STATUS_RECALC = (s.dev.flag Reg.BUF_STATUS_RECALC && s.dev.path.recalcAgain))

/-- R183, R192, R194, completion of INSERT, DELETE, SEARCH, NEXT, FLUSH_PORT and BULK, for a command that a Gaffer core brings to a ready
engine in its turn. An insert of a new key puts the entry at its place in the home bucket and a delete removes it, each with the next
TSEQ; a search writes the entry at ADDR in shared SRAM, a walk the first entry from its cursor; a flush removes the entries of its port
with one TSEQ each beside its own and holds the engine until the next clock; a bulk makes the sub-entries that shared SRAM holds; slots
that the reads find with a correctable error change none of this. A command whose reads find an uncorrectable slot shows it in MRV_STATUS
(R206). -/
def Obligations.TableCommands : Prop :=
  ∀ (s : State) (c : Fin 16) (entry : List Byte) (i : Nat) (x : MrvEntry) (ecc : List (Bool × Fin 1056768)), ecc.all (!·.1) = true →
    let e := slice entry 0 64
    let next := fun n => (s.dev.rd Reg.MRV_TSEQ + n) % 2 ^ 32
    let fits := fun n => cmdAddr e ≠ 0 ∧ cmdAddr e + n ≤ 16777216 ∧
      ∀ j, j < n → ¬(s.dev.gaffer.code.1 ≤ cmdAddr e + j ∧ cmdAddr e + j < s.dev.gaffer.code.2)
    s.dev.tableServes e → cmdCheck e = 0 →
    (byteAt e 0 = 1 → s.dev.findKey (cmdKey e) = none →
      (s.dev.mrv.placeBucket (s.dev.home (cmdKey e)) (s.dev.entryOf e).wide).1 = some i →
      Goes (exec (.insert (.firmware c) ⟨entry, ecc⟩) s) fun t =>
        t.dev.mrv.at i = some (s.dev.entryOf e) ∧ t.dev.rd Reg.MRV_TSEQ = next 1) ∧
    (byteAt e 0 = 2 → s.dev.findKey (cmdKey e) = some i → s.dev.mrv.at i = some x → cmdFlag e 1 = false → s.dev.mrv.ovf = [] →
      Goes (exec (.delete (.firmware c) ⟨entry, ecc⟩) s) fun t => t.dev.mrv.at i = none ∧ t.dev.rd Reg.MRV_TSEQ = next 1) ∧
    (byteAt e 0 = 3 → s.dev.findKey (cmdKey e) = some i → s.dev.mrv.at i = some x → fits (max 32 x.bytes.length) →
      Goes (exec (.search (.firmware c) ⟨entry, ecc⟩ true) s) fun t =>
        (∀ j, j < x.bytes.length → mget (fun _ => 0) t.dev.sram (cmdAddr e + j) = x.bytes.getD j 0) ∧
        t.dev.mrv = { s.dev.mrv with rr := 513 }) ∧
    (byteAt e 0 = 4 → s.dev.mrv.at i = some x → cmdAux e ≤ walkPos i → walkPos i < cmdAux e + 65536 →
      (∀ y ∈ s.dev.mrv.tab, y.2 ≠ none → y.1 ≠ i → walkPos y.1 < cmdAux e ∨ walkPos i < walkPos y.1) →
      fits (max 32 x.bytes.length) →
      Goes (exec (.next (.firmware c) ⟨entry, ecc⟩ true) s) fun t =>
        (∀ j, j < x.bytes.length → mget (fun _ => 0) t.dev.sram (cmdAddr e + j) = x.bytes.getD j 0) ∧
        t.dev.mrv = { s.dev.mrv with rr := 513 }) ∧
    (byteAt e 0 = 5 → s.dev.mrv.tab = [(i, some x)] → s.dev.findKey x.key = some i → keyType x.key = 1 → x.static = false →
      x.result = cmdResult e → cmdFlag e 3 = false →
      Goes (exec (.flushPort (.firmware c) ⟨entry, ecc⟩) s) fun t => t.dev.mrv.tab = [] ∧ t.dev.rd Reg.MRV_TSEQ = next 2 ∧
        t.dev.engineReady = false) ∧
    (let sub := s.dev.sramRead (cmdAddr e) 64
     byteAt e 0 = 6 → cmdAddr e ≠ 0 → cmdAddr e + 64 ≤ 16777216 → cmdAux e % 65536 = 0 →
      byteAt sub 0 = 1 → cmdCheck sub = 0 → s.dev.tblHeld sub = false → s.dev.findKey (cmdKey sub) = none →
      (s.dev.mrv.placeBucket (s.dev.home (cmdKey sub)) (s.dev.entryOf sub).wide).1 = some i →
      Goes (exec (.bulk (.firmware c) ⟨entry, ecc⟩ none) s) fun t =>
        t.dev.mrv.at i = some (s.dev.entryOf sub) ∧ t.dev.rd Reg.MRV_TSEQ = next 1) ∧
    (∀ j : Fin 1056768, byteAt e 0 = 3 →
      Goes (exec (.search (.firmware c) ⟨entry, [(true, j)]⟩ true) s) fun t =>
        t.dev.flag Reg.MRV_STATUS_ECC_ERR = true ∧ t.dev.get Reg.MRV_STATUS_ECC_ENTRY = j.val ∧
        t.dev.mrv.at (s.dev.mrv.entryIdx j) = none)

/-- R187, R192, R201 to R204, R207 to R209, completion of SEED_CLEAR_DONE, AGE_TICK, AGE_SWEEP_VISIT, LEARN_TOKEN_REFILL, LEARN_NOTIFY_DELIVER,
SCRUB_PASS_START, SCRUB_REGION_DONE and AUDIT_BATCH_CLOSE. A sweep takes LIMIT, and whether it is the first, at its tick; a removal waits
for the scrub of its region and for a FLUSH_PORT or BULK; an entry of which the visit reads an uncorrectable slot goes without a TSEQ, and a
region in which the scrub reads one publishes the digest of what is left (R206; which slots are in error is a free value, log 69). While no record can be written, while a FLUSH_PORT or a BULK runs and while
another queue's turn comes first, an INSERT leaves the table, its TSEQ and the queue of the firmware as they were. -/
def Obligations.TableUpkeep : Prop :=
  ∀ (s : State) (i k : Nat) (x : MrvEntry) (rest : Map (Option MrvEntry)) (n : LearnNote) (notes : List LearnNote),
    (s.dev.flag Reg.MRV_STATUS_SEED_BUSY = true →
      Goes (exec .seedClearDone s) fun t => t.dev.mrv.tab = [] ∧ t.dev.flag Reg.MRV_STATUS_SEED_BUSY = false) ∧
    Goes (exec .ageTick s) (fun t =>
      t.dev.get Reg.MRV_AGE_NOW_NOW = (s.dev.get Reg.MRV_AGE_NOW_NOW + 1) % 65536 ∧ t.dev.mrv.sweep = some 0 ∧
      t.dev.mrv.sweepFirst = s.dev.mrv.firstSweep ∧ t.dev.mrv.firstSweep = false ∧
      t.dev.mrv.sweepLim = s.dev.get Reg.MRV_AGE_CFG_LIMIT) ∧
    (s.dev.mrv.sweep = some k → s.dev.mrv.behind = [] → s.dev.mrv.tab = (i, some x) :: rest → k ≤ i → keyType x.key = 1 →
      x.static = false → (x.wide = true → s.dev.mrv.at (i + 1) = none) →
      let bad := s.dev.readsBad (onSlots i x)
      Goes (exec .ageSweepVisit s) fun t =>
        (s.dev.mrv.sweepFirst = true → t.dev.mrv.sweep = some (i + 1) ∧
          t.dev.mrv.at i = if bad then none else some { x with age := s.dev.get Reg.MRV_AGE_NOW_NOW }) ∧
        (s.dev.mrv.sweepFirst = false → s.dev.mrv.sweepLim ≠ 0 →
          s.dev.mrv.sweepLim ≤ (s.dev.get Reg.MRV_AGE_NOW_NOW + 65536 - x.age) % 65536 → s.dev.role ≠ roleStandby →
          s.dev.mrv.sweepDef = false → s.dev.canDefer = true → s.dev.replRoom = true → s.dev.mrvHeld x.key = false →
          s.dev.flag Reg.MRV_STATUS_SEED_BUSY = false → s.dev.flag Reg.MRV_STATUS_FLUSH_BUSY = false → s.dev.mrv.bulk = none →
          s.dev.mrv.ovf = [] →
          t.dev.mrv.at i = none ∧ t.dev.rd Reg.MRV_TSEQ = (s.dev.rd Reg.MRV_TSEQ + if bad then 0 else 1) % 2 ^ 32)) ∧
    Goes (exec .learnTokenRefill s) (fun t =>
      t.dev.mrv.tokens = min s.dev.learnDepth (s.dev.mrv.tokens + s.dev.get Reg.MRV_LEARN_CFG_RATE)) ∧
    (s.dev.mrv.fifo = n :: notes → s.dev.learnDest = 2 → n.kind ≤ 2 → ∀ core, s.dev.serviceCore 3 = some core →
      Goes (exec .learnNotifyDeliver s) fun t => t.dev.mrv.fifo = notes ∧ t.dev.mrv.fwQ = s.dev.mrv.fwQ ++ [(core, n.insert)] ∧
        t.dev.mrv.nseqFw = (s.dev.mrv.nseqFw + 1) % 2 ^ 32) ∧
    (s.dev.flag Reg.MRV_SCRUB_EN = true → s.dev.mrv.scrub = none →
      Goes (exec .scrubPassStart s) fun t => t.dev.mrv.scrub = some (0, s.dev.regionDigest 0, s.dev.rd Reg.MRV_TSEQ)) ∧
    (∀ r dig ts, s.dev.mrv.scrub = some (r, dig, ts) → r < 64 → dig < 2 ^ 32 → ts < 2 ^ 32 →
      let read := s.dev.readSlots (s.dev.inRegion r)
      Goes (exec .scrubRegionDone s) fun t =>
        t.dev.rd64 (Reg.MRV_DIGEST r) = (if s.dev.readsBad (s.dev.inRegion r) then read.regionDigest r else dig) + 2 ^ 32 * ts ∧
        t.dev.mrv.scrub.map (·.1) = if r < 63 then some (r + 1) else none) ∧
    Goes (exec .auditBatchClose s) (fun t => t.dev.mrv.batch = none ∧ t.dev.mrv.tab = s.dev.mrv.tab) ∧
    (∀ (c : Fin 16) (entry : List Byte) (ecc : List (Bool × Fin 1056768)), s.dev.mrv.bulk = none → s.dev.engineReady = false ∨ s.dev.role = roleStandby ∨
        (s.dev.tblTurn (.firmware c) = false ∧ (s.dev.host.ops.all fun o => !(s.dev.tblHead o && o.tblCommon != 0)) = true) →
      Goes (exec (.insert (.firmware c) ⟨entry, ecc⟩) s) fun t =>
        t.dev.mrv = s.dev.mrv ∧ t.dev.rd Reg.MRV_TSEQ = s.dev.rd Reg.MRV_TSEQ)

/-- R31, R99 to R102, R111, R113, R114, R129, completion of the link commands of a port: STALE_DRAIN_DONE, PLL_LOCK, PLL_LOSS,
AN_PAGE_EXCHANGE_DONE, PARALLEL_DETECT, TRAINING_COMPLETE, JARLIS_PAGES_RECEIVED, NOT_JARLIS_RETRY, IDENT_RETRY, LINK_DOWN, LINK_REACQUIRED and
REACQUIRE_TIMEOUT: the STATE that each leaves, and the link. -/
def Obligations.LinksComeAndGo : Prop :=
  ∀ (s : State) (p : Fin 512),
    let an := cfgAn (s.dev.portCfg p)
    let start := if an = 0 then 3 else 2
    (s.dev.staleCount p = 0 →
      Goes (exec (.staleDrainDone p) s) fun t => t.dev.flag (Reg.TILE_PORT_STATUS_STALE_WAIT (tileOf p) (laneIn p)) = false) ∧
    (∀ (t : Fin 64) (j : Fin 2), s.dev.pllOn t j = true → s.dev.pllMay t = true → s.dev.pllLocked t j = false →
      Goes (exec (.pllLock t j) s) fun u => u.dev.pllLocked t j = s.dev.retuneTurn t j ∧ u.dev.pllFam t j = s.dev.pllFam t j) ∧
    (∀ n : Fin 144, (n.val < 16 → Goes (exec (.pllLoss n) s) fun t => bit (t.dev.get Reg.PWR_CLK_STATUS_LOCK) n = false) ∧
      (16 ≤ n.val → s.dev.pllOn ((n - 16) / 2) (n % 2) = true →
        Goes (exec (.pllLoss n) s) fun t => t.dev.pllLocked ((n - 16) / 2) (n % 2) = false)) ∧
    (∀ techs : List Tech, s.dev.portEn p = true → s.dev.portState p = 2 → an = 1 →
      Goes (exec (.anPageExchangeDone p techs) s) fun t => t.dev.portState p =
        if (rowTech (cfgWidth (s.dev.portCfg p)) (cfgRate (s.dev.portCfg p))).any techs.contains then 3 else 8) ∧
    (s.dev.portEn p = true → s.dev.portState p = 2 → an = 1 → cfgRate (s.dev.portCfg p) ≤ 1 → s.dev.prbsOn p = false →
      Goes (exec (.parallelDetect p) s) fun t => t.dev.portUp p = true ∧ t.dev.portState p = 4) ∧
    (s.dev.portState p = 3 → s.dev.isJarlis p = false → s.dev.prbsOn p = false →
      Goes (exec (.trainingComplete p) s) fun t => t.dev.portUp p = true ∧ t.dev.portState p = 4) ∧
    (∀ (dev : BitVec 12) (shed : Bool), s.dev.portState p = 2 → an = 2 → dev.toNat ≠ s.dev.get Reg.JFL_CFG_DEVID →
      Goes (exec (.jarlisPagesReceived p 1 (BitVec.ofNat 12 (s.dev.get Reg.JFL_CFG_DOMAIN)) dev shed) s) fun t =>
        t.dev.portState p = 3 ∧ t.dev.flag (Reg.TILE_PORT_STATUS_JARLIS_OK (tileOf p) (laneIn p)) = true ∧
        (t.dev.port p).peerShed = shed) ∧
    (s.dev.portState p = 9 → Goes (exec (.notJarlisRetry p) s) fun t => t.dev.portState p = start) ∧
    (s.dev.portState p = 9 → Goes (exec (.identRetry p) s) fun t => t.dev.portState p = start) ∧
    (∀ (cause : LinkCause) (k : Fin 8), s.dev.portUp p = true → s.dev.faultOn p k cause = true →
      Goes (exec (.linkDown ⟨p, cause, k⟩) s) fun t => t.dev.portUp p = false ∧ t.dev.portState p = 5 ∧
        t.dev.get (Reg.TILE_PORT_STATUS_LINK_LOSS (tileOf p) (laneIn p)) =
          (s.dev.get (Reg.TILE_PORT_STATUS_LINK_LOSS (tileOf p) (laneIn p)) + 1) % 65536) ∧
    (s.dev.portState p = 5 → s.dev.prbsOn p = false →
      Goes (exec (.linkReacquired p) s) fun t => t.dev.portUp p = true ∧ t.dev.portState p = 4) ∧
    (s.dev.portState p = 5 → Goes (exec (.reacquireTimeout p) s) fun t => t.dev.portState p = start)

/-- R116 to R124, R131, completion of the commands of lane shedding and sleep: SHED_WINDOW_END, OCCUPANCY_RESTORE, SHED_DONE, LANE_WIDTH_RECEIVED,
SHED_LANES_LOCKED, LANE_READY_RECEIVED, RESTORE_TIMEOUT, SLEEP_ENTER, SLEEP_WAKE, WAKE_PROBE and WAKE_PROBE_END, at a port that is in no trunk. -/
def Obligations.LanesShedAndSleep : Prop :=
  ∀ (s : State) (p : Fin 512), s.dev.trunkOfMember p = none →
    let n := s.dev.txLanes p
    let w := s.dev.width p
    let cap := fun k => k * rateGb (cfgRate (s.dev.portCfg p)) * s.dev.shedWindow p * 1000000
    let asleep := fun (d : Device) => d.flag (Reg.TILE_PORT_STATUS_ASLEEP (tileOf p) (laneIn p))
    Goes (exec (.shedWindowEnd p) s) (fun t => (t.dev.port p).windowBits = 0 ∧ (t.dev.port p).firstWindow = false ∧
      (s.dev.shedAllowed p = true → (s.dev.port p).firstWindow = false → (s.dev.port p).pending = none →
        (s.dev.port p).restoring = false → n ≤ w → 2 ≤ n → s.dev.shedMin p ≤ n / 2 →
        (n < w → (s.dev.port p).windowBits * 100 ≤ s.dev.shedHi p * cap n) →
        (s.dev.port p).windowBits * 100 ≤ s.dev.shedLo p * cap (n / 2) → (t.dev.port p).pending = some (n / 2)) ∧
      (s.dev.portUp p = true → (s.dev.port p).firstWindow = false → (s.dev.port p).pending = none →
        (s.dev.port p).restoring = false → n < w → s.dev.shedHi p * cap n < (s.dev.port p).windowBits * 100 →
        (t.dev.port p).restoring = true ∧ (t.dev.port p).pending = none)) ∧
    (s.dev.get (Reg.TILE_SHED_CFG_WAKE_KST (tileOf p) (laneIn p)) ≠ 0 → n < w →
      s.dev.get (Reg.TILE_SHED_CFG_WAKE_KST (tileOf p) (laneIn p)) * 1024 < s.dev.portOccupancy p →
      s.dev.portUp p = true → (s.dev.port p).pending = none →
      Goes (exec (.occupancyRestore p) s) fun t => (t.dev.port p).restoring = true) ∧
    (∀ k, (s.dev.port p).pending = some k → k < 16 → (s.dev.port p).restoreQueued = false →
      Goes (exec (.shedDone p) s) fun t => (t.dev.port p).pending = none ∧ t.dev.txLanes p = k) ∧
    (∀ (k : BitVec 4) (dark : BitVec 8), s.dev.portUp p = true → s.dev.isJarlis p = true → k.toNat ∈ [1, 2, 4, 8] → k.toNat ≤ w →
      Goes (exec (.laneWidthReceived p ⟨k, dark⟩) s) fun t =>
        t.dev.get (Reg.TILE_SHED_STATUS_RX_LANES (tileOf p) (laneIn p)) = k.toNat ∧
        (t.dev.port p).dark = if k.toNat = w then 0 else dark.toNat) ∧
    (s.dev.portUp p = true → s.dev.isJarlis p = true →
      s.dev.get (Reg.TILE_SHED_STATUS_RX_LANES (tileOf p) (laneIn p)) < w →
      Goes (exec (.shedLanesLocked p) s) fun t =>
        if s.dev.txOf p = none then osOut p 3 (w * 2 ^ 14) ∈ t.dev.out else (3, w * 2 ^ 14) ∈ (t.dev.port p).osDue) ∧
    (∀ k : BitVec 4, (s.dev.port p).restoring = true → k.toNat = w →
      Goes (exec (.laneReadyReceived p k) s) fun t => (t.dev.port p).restoring = false ∧ t.dev.txLanes p = w ∧
        (t.dev.port p).firstWindow = true) ∧
    ((s.dev.port p).restoring = true → asleep s.dev = false →
      Goes (exec (.restoreTimeout p) s) fun t => (t.dev.port p).restoring = false ∧
        t.dev.get (Reg.TILE_SHED_STATUS_WAKE_FAIL (tileOf p) (laneIn p)) =
          min 15 (s.dev.get (Reg.TILE_SHED_STATUS_WAKE_FAIL (tileOf p) (laneIn p)) + 1) ∧
        ((s.dev.port p).wakeFails = 2 → t.dev.flag (Reg.TILE_SHED_STATUS_SHED_OFF (tileOf p) (laneIn p)) = true ∧
          t.dev.portUp p = false)) ∧
    (s.dev.portEn p = true → s.dev.isJarlis p = false → bit (s.dev.portCfg p) 10 = true → s.dev.portUp p = false →
      asleep s.dev = false →
      Goes (exec (.sleepEnter p) s) fun t => asleep t.dev = true ∧ t.dev.portState p = 6 ∧ t.dev.portCfg p = s.dev.portCfg p) ∧
    (asleep s.dev = true → Goes (exec (.sleepWake p) s) fun t => asleep t.dev = false) ∧
    (asleep s.dev = true → bits (s.dev.portCfg p) 7 0 ≠ 0 →
      Goes (exec (.wakeProbe p) s) fun t => (t.dev.port p).probing = true) ∧
    (∀ energy : Bool, (s.dev.port p).probing = true →
      Goes (exec (.wakeProbeEnd p energy) s) fun t => (t.dev.port p).probing = false ∧ (energy = true → asleep t.dev = false))

/-- R113, R327, R328, R333, R335, R342 to R346, R350 to R352, completion of the commands of the Jarlis fabric: IDENT_SEND, IDENT_RECEIVED,
ORDERED_SET_UNKNOWN, LINK_DOWN_OS_SEND, CREDIT_SEND, CREDIT_RECEIVED, RESEQ_RELEASE, RESEQ_TIMEOUT, EPOCH_CHANGE_START, EPOCH_MARKER_SEND,
EPOCH_CHANGE_END, EPOCH_MARKER_RECEIVED, TRUNK_DETACH_TIMEOUT and MGMT_FRAME_DELIVER. -/
def Obligations.JarlisFabric : Prop :=
  ∀ (s : State) (p : Fin 512) (k : Fin 16) (sl : Fin 16) (n : Fin 256) (v : BitVec 20) (freed : BitVec 16),
    (s.dev.isJarlis p = true → s.dev.portUp p = true → s.dev.txOf p = none →
      Goes (exec (.identSend p) s) fun t => osOut p 5 (s.dev.identA p) ∈ t.dev.out ∧
        osOut p 6 (s.dev.get Reg.JFL_CFG_DOMAIN) ∈ t.dev.out) ∧
    (s.dev.portEn p = true → s.dev.isJarlis p = true → s.dev.portUp p = false → (s.dev.port p).trained = false →
      Goes (exec (.identReceived p true v) s) (fun t => (t.dev.port p).identB = some (v.toNat % 4096)) ∧
      Goes (exec (.identReceived p false v) s) fun t => (t.dev.port p).identA = some (bits v.toNat 19 16, v.toNat % 4096) ∧
        t.dev.peerTrunked p = bit v.toNat 13) ∧
    (∀ jver dom dev, s.dev.portEn p = true → s.dev.isJarlis p = true → s.dev.portUp p = true →
      (s.dev.port p).came = some (jver, dom, dev) → v.toNat % 4096 ≠ dom →
      Goes (exec (.identReceived p true v) s) fun t => t.dev.portUp p = false) ∧
    (s.dev.portEn p = true → s.dev.isJarlis p = true →
      Goes (exec (.orderedSetUnknown p) s) fun t => t.dev.flag Reg.JFL_STATUS_OS_UNKNOWN = true ∧
        t.dev.get Reg.JFL_STATUS_PORT = p.val) ∧
    (s.dev.portEn p = true → s.dev.isJarlis p = true → s.dev.portUp p = false → s.dev.txOf p = none →
      Goes (exec (.linkDownOsSend p) s) fun t => osOut p 4 0 ∈ t.dev.out) ∧
    (s.dev.isJarlis p = true → s.dev.portUp p = true →
      Goes (exec (.creditSend p k) s) (fun t =>
        let v := k * 65536 + nget s.dev.jarlis.freed (16 * p + k)
        if s.dev.txOf p = none then osOut p 1 v ∈ t.dev.out else (1, v) ∈ (t.dev.port p).osDue) ∧
      Goes (exec (.creditReceived p k freed) s) fun t =>
        t.dev.get (Reg.JFL_CRED_AVAIL p k) = (s.dev.get (Reg.JFL_CRED_AVAIL p k)
          + (freed.toNat + 65536 - nget s.dev.jarlis.lastf (16 * p + k) % 65536) % 65536) % 65536 ∧
        nget t.dev.jarlis.lastf (16 * p + k) = freed.toNat) ∧
    (∀ c x, s.dev.contextsOf sl = [c] → (s.dev.ctx c).slots = [((s.dev.ctx c).next, some x)] → x.state = 3 →
      (s.dev.ctx c).skip = [] → (s.dev.ctx c).ending = false →
      Goes (exec (.reseqRelease sl) s) fun t => (t.dev.ctx c).next = ((s.dev.ctx c).next + 1) % 2 ^ 24 ∧ (t.dev.ctx c).slots = []) ∧
    (let c := s.dev.ctx (16 * n + k)
     ∀ m, c.lowest = some m → 0 < m → c.skipped c.next = false →
      Goes (exec (.reseqTimeout n k) s) fun t => t.dev.ctx (16 * n + k) = { c with skip := c.skip ++ [(c.next, m)] } ∧
        (t.dev.ctx (16 * n + k)).skipped c.next = true) ∧
    ((s.dev.trunk n).phase = 1 → Goes (exec (.epochChangeStart n) s) fun t => (t.dev.trunk n).phase = 2) ∧
    ((s.dev.trunk n).phase = 2 → s.dev.trunkSending n = false →
      Goes (exec (.epochMarkerSend n) s) fun t => (t.dev.trunk n).phase = 3 ∧
        t.dev.get (Reg.JFL_TRUNK_STATUS_TX_EPOCH n) = (if (s.dev.trunk n).fromEmpty then
          s.dev.get (Reg.JFL_TRUNK_STATUS_TX_EPOCH n) else (s.dev.get (Reg.JFL_TRUNK_STATUS_TX_EPOCH n) + 1) % 4)) ∧
    ((s.dev.trunk n).phase = 3 → (s.dev.trunk n).again = false →
      Goes (exec (.epochChangeEnd n) s) fun t => (t.dev.trunk n).phase = 0 ∧
        t.dev.flag (Reg.JFL_TRUNK_STATUS_CHANGING n) = false) ∧
    (∀ f rest, s.dev.jarlis.awaiting = f :: rest → f.src = p.val → (readJHdr f.bytes).type = 2 →
      mget (fun _ => (0, false)) s.dev.jarlis.attach p = (n.val + 1, false) →
      Goes (exec (.epochMarkerReceived p) s) fun t => t.dev.jarlis.awaiting = rest ∧
        t.dev.get (Reg.JFL_TRUNK_STATUS_RX_EPOCH n) = (readJHdr f.bytes).epoch % 4) ∧
    (mget (fun _ => (0, false)) s.dev.jarlis.attach p = (n.val + 1, true) →
      Goes (exec (.trunkDetachTimeout p) s) fun t => t.dev.attached p = none) ∧
    (∀ f, s.dev.mgmtWaiting false = some f → byteAt f.pdu 0 = 1 → pduOk f.pdu = true →
      s.dev.flag Reg.JFL_MGMT_CFG_EN = true → s.dev.flag Reg.JFL_MGMT_CFG_ANY_SRC = true → s.dev.jarlis.mgmt.length < 16 →
      Goes (exec .mgmtFrameDeliver s) fun t => t.dev.jarlis.mgmt = s.dev.jarlis.mgmt ++ [((readJHdr f.bytes).srcDev, f.pdu)])


/-- R254, R258 to R260, R263, R435, R437 to R442, R446 to R448, completion of the commands of the deep store: SPILL_WRITE_DONE, READBACK_START,
READBACK_DONE, SPILL_EXIT, DROP_CAPTURE_REFILL, HBM_CHECK_DONE, DRAM_COMMAND_SLOT, ROW_IDLE_CLOSE, BANK_REFRESH, STACK_FAILURE and
STACK_POWER_DOWN. -/
def Obligations.DeepStoreMoves : Prop :=
  ∀ (s : State) (sl : Fin 16) (q : Fin 8256) (k : Fin 4) (pc : Fin 32) (b : Fin 64) (cause : Fin 7) (f : DeepFrame) (rest : List DeepFrame),
    let key := voqKey sl.val q.val
    let pair := 32 * k.val + pc.val
    (s.dev.inService ≠ [] → (s.dev.voq key).deep = f :: rest → f.state = 0 → f.slots ≠ [] →
      Goes (exec (.spillWriteDone sl q) s) fun t =>
        (t.dev.voq key).deep = { f with frame := { f.frame with stitches := [] }, state := 1 } :: rest ∧
        t.dev.path.wstage = s.dev.path.wstage - f.frame.n ∧ (t.dev.voq key).on = (s.dev.voq key).on) ∧
    ((s.dev.voq key).deep = f :: rest → f.state = 1 → ((s.dev.voq key).on.map fun x => x.n).sum < s.dev.get Reg.BUF_SPILL_CFG_RB_LO →
      s.dev.path.rstage + f.frame.n ≤ 16384 → f.frame.n ≤ s.dev.physFree →
      Goes (exec (.readbackStart sl q) s) fun t => t.dev.path.rstage = s.dev.path.rstage + f.frame.n ∧
        ∃ g, (t.dev.voq key).deep = g :: rest ∧ g.state = 2 ∧ g.slots = f.slots ∧ g.frame.bytes = f.frame.bytes ∧
          g.drop = if s.dev.aged q f.frame.hdr f.frame.arrival then some 23 else f.drop) ∧
    ((s.dev.voq key).deep = f :: rest → f.state = 2 → f.drop = none →
      Goes (exec (.readbackDone sl q none) s) fun t => (t.dev.voq key).deep = rest ∧
        (t.dev.voq key).on = (s.dev.voq key).on ++ [f.frame] ∧ t.dev.path.rstage = s.dev.path.rstage - f.frame.n) ∧
    (∀ r, (s.dev.voq key).deep = f :: rest → f.state = 2 → f.drop = some r →
      Goes (exec (.readbackDone sl q none) s) fun t => (t.dev.voq key).deep = rest ∧
        t.dev.path.rstage = s.dev.path.rstage - f.frame.n ∧ (r = 24 ∨ r = 23 → q.val ≠ qIdx 515 0 →
          (t.dev.voq key).on = (s.dev.voq key).on)) ∧
    (s.dev.deepWaiting q = false → (∀ l : Fin 16, (s.dev.voq (voqKey l.val q.val)).deep = []) →
      Goes (exec (.spillExit q) s) fun t => (t.dev.qc q).spill = false) ∧
    Goes (exec .dropCaptureRefill s) (fun t => t.dev.path.dmirTok = s.dev.get Reg.BUF_DMIR_CFG_RATE) ∧
    (∀ pass : Bool, s.dev.stackState k = 1 → s.dev.pwrOn (84 + k) = true →
      Goes (exec (.hbmCheckDone k pass) s) fun t => t.dev.stackState k = (if pass then 2 else 3) ∧
        (pass = false → t.dev.get (Reg.DST_STACK_CAUSE k) = 6)) ∧
    (∀ r : DramReq, s.dev.stackState k = 2 → lget s.dev.spillFeed.deep.req pair = [r] →
      Goes (exec (.dramCommandSlot k pc) s) fun t => lget t.dev.deep.req pair = [] ∧
        t.dev.openRow pair (slotBank r.slot) = if s.dev.get Reg.DST_CFG_IDLE_NS = 0 then none else some (slotRow r.slot)) ∧
    Goes (exec (.rowIdleClose k pc b) s) (fun t => t.dev.openRow pair b = none ∧
      ∀ j, j ≠ 64 * pair + b.val → mget (fun _ => none) t.dev.deep.openRow j = mget (fun _ => none) s.dev.deep.openRow j) ∧
    Goes (exec (.bankRefresh k pc b) s) (fun t => t.dev.openRow pair b = none ∧
      ∀ j, j ≠ 64 * pair + b.val → mget (fun _ => none) t.dev.deep.openRow j = mget (fun _ => none) s.dev.deep.openRow j) ∧
    (s.dev.stackState k = 2 → cause.val ≠ 0 →
      Goes (exec (.stackFailure k cause) s) fun t => t.dev.stackState k = 3 ∧ t.dev.get (Reg.DST_STACK_CAUSE k) = cause.val ∧
        bit (t.dev.get Reg.DST_STATUS_STACK_FAIL) k = true) ∧
    (s.dev.stackState k = 3 → Goes (exec (.stackPowerDown k) s) fun t => t.dev.pwrOn (84 + k) = false ∧
      lget t.dev.deep.req pair = [] ∧ t.dev.openRow pair b = none)

/-- R409, R417, R418, R421 to R423, completion of the commands of the time unit: HOLDOVER_TIMEOUT, PPS_OUT_EDGE, PPS_OUT_FALL, PPS_IN_EDGE,
TOD_MESSAGE_SEND, TOD_MESSAGE_RECEIVED, SYNCE_SQUELCH and SYNCE_RETURN. FT is never stepped. -/
def Obligations.TimeUnitActs : Prop :=
  ∀ (s : State) (k : Fin 2) (bs : List Byte) (sec : Nat),
    (s.dev.get Reg.TIM_CFG_HOLD_MS ≠ 0 → (s.dev.servoState = 1 ∨ s.dev.servoState = 2) →
      Goes (exec .holdoverTimeout s) fun t => t.dev.servoState = 3 ∧ t.dev.time.f = s.dev.time.avg ∧ t.dev.time.before = s.dev.servoState ∧
        t.dev.tod = s.dev.tod ∧ t.dev.ft = s.dev.ft) ∧
    (s.dev.flag Reg.TIM_PPS_OUT_EN = true →
      Goes (exec .ppsOutEdge s) fun t => t.dev.tod = s.dev.tod ∧ ∃ l, t.dev.out = l ++ .pin "PPS_OUT" .high :: s.dev.out) ∧
    Goes (exec .ppsOutFall s) (fun t => ∃ l, t.dev.out = l ++ .pin "PPS_OUT" .low :: s.dev.out) ∧
    (s.dev.flag Reg.TIM_PPS_IN_EN = true →
      Goes (exec .ppsInEdge s) fun t => t.dev.ft = s.dev.ft ∧
        (s.dev.get Reg.TIM_CFG_OFFSET_SRC ≠ 1 → (s.dev.flag Reg.TIM_TOD_CFG_RX_APPLY && s.dev.time.rxWait) = false → t.dev.tod = s.dev.tod ∧
          t.dev.get Reg.TIM_STATUS_PPS_IN_CNT = (s.dev.get Reg.TIM_STATUS_PPS_IN_CNT + 1) % 256)) ∧
    (s.dev.time.edge = some sec → s.dev.flag Reg.TIM_TOD_CFG_TX_EN = true →
      Goes (exec .todMessageSend s) fun t => t.dev.time.edge = none ∧
        ∃ l, t.dev.out = l ++ .tod (s.dev.todMessage sec) :: s.dev.out) ∧
    (s.dev.flag Reg.TIM_TOD_CFG_RX_EN = true →
      Goes (exec (.todMessageReceived bs) s) fun t =>
        (bs.length = 16 → crc16 (bs.take 14) = be16 bs 14 → t.dev.time.rxWait = true ∧
          ∀ w, w < 4 → t.dev.rd (Reg.TIM_TOD_RX w) = leNat (slice bs (4 * w) 4)) ∧
        (¬ (bs.length = 16 ∧ crc16 (bs.take 14) = be16 bs 14) → t.dev.time = s.dev.time ∧
          t.dev.get (Reg.TIM_STAT_COUNT 7) = (s.dev.get (Reg.TIM_STAT_COUNT 7) + 1) % 2 ^ 48)) ∧
    (s.dev.get (Reg.TIM_SYNCE_FREQ k) ≠ 0 → s.dev.get (Reg.TIM_SYNCE_FREQ k) ≠ 3 →
      s.dev.synceLane (s.dev.get (Reg.TIM_SYNCE_PRIMARY k)) = false →
      let ok := s.dev.flag (Reg.TIM_SYNCE_BACKUP_EN k) && s.dev.synceLane (s.dev.get (Reg.TIM_SYNCE_BACKUP k))
      Goes (exec (.synceSquelch k) s) fun t => t.dev.flag (Reg.TIM_SYNCE_SQUELCH k) = !ok ∧ t.dev.flag (Reg.TIM_SYNCE_ON_BACKUP k) = ok) ∧
    (s.dev.get (Reg.TIM_SYNCE_FREQ k) ≠ 0 → s.dev.get (Reg.TIM_SYNCE_FREQ k) ≠ 3 →
      s.dev.synceLane (s.dev.get (Reg.TIM_SYNCE_PRIMARY k)) = true →
      Goes (exec (.synceReturn k) s) fun t => t.dev.flag (Reg.TIM_SYNCE_SQUELCH k) = false ∧ t.dev.flag (Reg.TIM_SYNCE_ON_BACKUP k) = false)

/-- R363 to R365, R370, R371, R380 to R382, R394, completion of the commands that move a member or a role: HOLDOFF_EXPIRE, WTR_EXPIRE,
NOPATH_TIMEOUT, ROLE_WAIT_TIMEOUT, PEER_ACT_FALL, PEER_RELQ_LOW, MUTE_GUARD_END, FAILED_REACTIVATE, CRITICAL_FAULT, SLICE_WATCHDOG and
HEARTBEAT_SLOT_END. The role at FAILED_REACTIVATE is the model's reading (DEDUCED) as to LAST_CHANGE, of which nothing is said. -/
def Obligations.MembersAndRolesMove : Prop :=
  ∀ (s : State) (g : Fin 4096) (p : Fin 512) (sl : Fin 16) (cause : BitVec 4) (detail : BitVec 12) (prot together low : Bool),
    (s.dev.flag (Reg.PRT_GRP_CFG_EN g) = true → s.dev.portUp (s.dev.grpMember g prot) = false →
      Goes (exec (.holdoffExpire g prot) s) fun t =>
        t.dev.flag (if prot then Reg.PRT_GRP_STATE_SF_P g else Reg.PRT_GRP_STATE_SF_W g) = true ∧
        t.dev.flag (if prot then Reg.PRT_GRP_STATE_P_OK g else Reg.PRT_GRP_STATE_W_OK g) = false) ∧
    (s.dev.flag (Reg.PRT_GRP_CFG_EN g) = true → s.dev.portEn (s.dev.grpMember g false) = true → (s.dev.grpFlag g).linkW = false →
      (s.dev.grpFlag g).cmdW = false → s.dev.flag (Reg.PRT_GRP_STATE_W_OK g) = true → s.dev.flag (Reg.PRT_GRP_STATE_WTR_RUN g) = true →
      s.dev.get (Reg.PRT_GRP_STATE_REQ g) = 0 → s.dev.flag (Reg.PRT_GRP_CFG_REVERT g) = true →
      Goes (exec (.wtrExpire g) s) fun t => t.dev.flag (Reg.PRT_GRP_STATE_ACT g) = false ∧
        t.dev.flag (Reg.PRT_GRP_STATE_WTR_RUN g) = false) ∧
    (s.dev.physOf p = [] → Goes (exec (.nopathTimeout p) s) fun t => t.dev.nopathDiscards p = true) ∧
    (s.dev.unit.roleWait = true → s.dev.role = roleStandby →
      Goes (exec .roleWaitTimeout s) fun t => t.dev.role = roleActive ∧ t.dev.unit.muted = false ∧ t.dev.unit.roleWait = false) ∧
    (s.dev.role = roleActive → s.dev.paired = true → ¬ (s.dev.unit.bind.side = 1 ∧ s.dev.unit.bind.donePending = true) →
      (together = true → s.dev.flag Reg.UNT_STATUS_SLOT = true) →
      Goes (exec (.peerActFall together) s) fun t => t.dev.role = roleStandby ∧ t.dev.unit.muted = true ∧
        t.dev.flag Reg.UNT_STATUS_SYNCED = false ∧ t.dev.unit.actOut ≠ .low ∧
        t.dev.get Reg.UNT_STATUS_LAST_CHANGE = if s.dev.unit.relinquishing then 6 else 4) ∧
    (s.dev.role = roleStandby → s.dev.paired = true →
      Goes (exec .peerRelqLow s) fun t =>
        (s.dev.fit = true → t.dev.role = roleActive ∧ t.dev.get Reg.UNT_STATUS_LAST_CHANGE = 1 ∧ t.dev.unit.guard = true ∧
          t.dev.unit.muted = s.dev.unit.muted) ∧
        (s.dev.fit = false → t.dev.role = roleStandby) ∧
        t.dev.get (Reg.UNT_STAT_COUNT 0) = (s.dev.get (Reg.UNT_STAT_COUNT 0) + 1) % 2 ^ 48) ∧
    (s.dev.unit.guard = true → s.dev.role = roleActive →
      Goes (exec .muteGuardEnd s) fun t => t.dev.unit.muted = false ∧ t.dev.rd Reg.UNT_PSEQ_SENT = s.dev.rd Reg.UNT_PSEQ_APPLIED ∧
        t.dev.flag Reg.UNT_STATUS_PEER_LOST = false) ∧
    (s.dev.role = roleFailed → s.dev.unit.wasActive = true →
      Goes (exec .failedReactivate s) fun t => t.dev.role = roleActive ∧ t.dev.unit.relq = true ∧
        t.dev.get Reg.UNT_STATUS_CRIT_CAUSE = s.dev.get Reg.UNT_STATUS_CRIT_CAUSE) ∧
    (∀ c, (c = Instr.criticalFault cause detail ∧ 1 ≤ cause.toNat ∧ cause.toNat ≤ 5 ∨ c = .sliceWatchdog sl) →
      let old := s.dev.get Reg.UNT_STATUS_CRIT_CAUSE
      let yields := s.dev.paired = true ∧ s.dev.unit.peerRole = some roleStandby ∧ s.dev.flag Reg.UNT_STATUS_PEER_RELQ = false
      Goes (exec c s) fun t =>
        t.dev.get Reg.UNT_STATUS_CRIT_CAUSE = (if old ≠ 0 then old else if c = .sliceWatchdog sl then 4 else cause.toNat) ∧
        (old = 0 → t.dev.get Reg.UNT_STATUS_CRIT_DETAIL = if c = .sliceWatchdog sl then sl.val else detail.toNat) ∧
        (s.dev.role = roleActive → yields → t.dev.role = roleFailed ∧ t.dev.unit.muted = true) ∧
        (s.dev.role = roleActive → ¬ yields → t.dev.role = roleActive ∧ t.dev.unit.relq = true ∧ t.dev.unit.muted = s.dev.unit.muted) ∧
        (s.dev.role = roleStandby → t.dev.role = roleFailed)) ∧
    (s.dev.paired = true → s.dev.unit.released = true → s.dev.unit.roleWait = false →
      Goes (exec (.heartbeatSlotEnd low false) s) fun t =>
        (s.dev.unit.hbSeen = true → t.dev.unit.missed = 0 ∧ t.dev.role = s.dev.role) ∧
        (s.dev.unit.hbSeen = false →
          t.dev.get (Reg.UNT_STAT_COUNT 3) = (s.dev.get (Reg.UNT_STAT_COUNT 3) + 1) % 2 ^ 48 ∧
          (s.dev.unit.missed = 19 → s.dev.role = roleActive → t.dev.flag Reg.UNT_STATUS_PEER_LOST = true ∧ t.dev.unit.repl = false ∧
            t.dev.role = roleActive) ∧
          (s.dev.unit.missed = 19 → s.dev.role = roleStandby → s.dev.fit = true → t.dev.role = roleActive ∧
            t.dev.get Reg.UNT_STATUS_LAST_CHANGE = 2 ∧ t.dev.unit.guard = true) ∧
          (s.dev.unit.missed < 19 → t.dev.unit.missed = s.dev.unit.missed + 1 ∧ t.dev.role = s.dev.role)))

/-- R350, R352, R372, R373, R375 to R378, R395, R397, completion of the commands of the Punty link, of replication and of the management agent:
HEARTBEAT_SEND, HEARTBEAT_RECEIVED, PUNTY_LINK_UP, PUNTY_LINK_DOWN, PUNTY_CFG_WRITE, NAK_RECEIVED, TAKEOVER_RECEIVED, RESYNC, RESYNC_DONE,
REPLICATE_RECEIVED, SYNC_RECEIVED, RELINQUISH, MGMT_REQUEST_EXECUTE and MGMT_RESPONSE_RECEIVED. -/
def Obligations.PuntyAndReplication : Prop :=
  ∀ (s : State) (rq : Requester) (n : BitVec 32) (body : List Byte) (data : BitVec 32),
    (s.dev.flag Reg.UNT_STATUS_PUNTY_UP = true →
      Goes (exec .heartbeatSend s) fun t => t.dev.unit.hbSeq = (s.dev.unit.hbSeq + 1) % 65536 ∧
        ∃ bs, .punty 1 bs ∈ t.dev.out ∧ bs.length = 32 ∧ byteAt bs 16 / 16 = s.dev.role % 16 ∧ be16 bs 18 = s.dev.unit.hbSeq % 65536) ∧
    (s.dev.role = roleActive → s.dev.puntyRoom 16 = true →
      Goes (exec (.heartbeatReceived n body) s) fun t => t.dev.unit.hbSeen = true ∧ t.dev.unit.missed = 0 ∧
        t.dev.unit.peerRole = some (byteAt body 0 / 16) ∧
        (s.dev.unit.stale = true → byteAt body 0 / 16 = roleStandby → bit (byteAt body 0) 3 = true → t.dev.unit.peerSynced = false) ∧
        (s.dev.unit.stale = false → byteAt body 0 / 16 = roleStandby → bit (byteAt body 0) 3 = true →
          t.dev.unit.peerSynced = true ∧ ∀ r, r ∈ t.dev.unit.store ↔ r ∈ s.dev.unit.store ∧ pseqLe r.1 (be32 body 4) = false)) ∧
    (s.dev.paired = true →
      Goes (exec .puntyLinkUp s) fun t => t.dev.flag Reg.UNT_STATUS_PUNTY_UP = true ∧ t.dev.get Reg.UNT_PUNTY_STATUS_LOCK = 15 ∧
        (s.dev.role = roleStandby → t.dev.flag Reg.UNT_STATUS_SYNCED = false ∧ t.dev.unit.resync = true)) ∧
    (s.dev.flag Reg.UNT_STATUS_PUNTY_UP = true →
      Goes (exec .puntyLinkDown s) fun t => t.dev.flag Reg.UNT_STATUS_PUNTY_UP = false ∧ t.dev.unit.store = [] ∧ t.dev.role = s.dev.role ∧
        (s.dev.unit.bind.side ≠ 0 → t.dev.get Reg.UNT_BIND_RESULT = 4 ∧ t.dev.unit.bind = {}) ∧
        t.dev.get Reg.UNT_PUNTY_STATUS_LINK_LOSS = (s.dev.get Reg.UNT_PUNTY_STATUS_LINK_LOSS + 1) % 65536) ∧
    (performs s.dev rq Reg.UNT_PUNTY_CFG 4 data.toNat →
      Goes (exec (.puntyCfgWrite rq data) s) fun t => t.dev.flag Reg.UNT_STATUS_PUNTY_UP = false ∧
        t.dev.get Reg.UNT_PUNTY_CFG_RX_INV = bits data.toNat 7 4 ∧ t.dev.get Reg.UNT_PUNTY_CFG_TX_INV = bits data.toNat 3 0) ∧
    (s.dev.role = roleActive → s.dev.unit.resync = true → s.dev.puntyRoom 0 = true →
      Goes (exec (.nakReceived n) s) fun t => t.dev.unit.syncPos = n.toNat) ∧
    (s.dev.role = roleActive → s.dev.unit.repl = true → s.dev.unit.resync = false → s.dev.flag Reg.UNT_STATUS_PUNTY_UP = true →
      s.dev.puntyRoom 0 = true →
      Goes (exec (.nakReceived n) s) fun t => (∀ r ∈ s.dev.unit.store, pseqLe n.toNat r.1 = true →
          ∃ h, .punty 2 (h ++ r.2) ∈ t.dev.out ∧ h.length = 16 ∧ be32 h 4 = r.1 % 2 ^ 32) ∧
        t.dev.get (Reg.UNT_STAT_COUNT 6) =
          (s.dev.get (Reg.UNT_STAT_COUNT 6) + (s.dev.unit.store.filter fun r => pseqLe n.toNat r.1).length) % 2 ^ 48) ∧
    (s.dev.puntyRoom 0 = true →
      Goes (exec .takeoverReceived s) (fun t => t.dev.unit.peerRole = some roleActive ∧ t.dev.role = s.dev.role)) ∧
    (∀ c n', (c, n') ∈ [(Instr.heartbeatReceived n body, 16), (.nakReceived n, 0), (.takeoverReceived, 0), (.bindReqReceived n, 8),
        (.bindReadyReceived, 4), (.bindReleaseReceived body, body.length + 4), (.bindDoneReceived, 4), (.bindAbortReceived, 4),
        (.digestReceived body, body.length), (.healthReceived body, 32), (.replicateReceived n (.records body), body.length),
        (.syncReceived n body none, body.length)] → s.dev.puntyRoom n' = false →
      Goes (exec c s) fun t => t.dev.get (Reg.UNT_STAT_COUNT 9) = (s.dev.get (Reg.UNT_STAT_COUNT 9) + 1) % 2 ^ 48 ∧
        t.dev.role = s.dev.role ∧ t.dev.unit.hbSeen = s.dev.unit.hbSeen ∧ t.dev.unit.bind = s.dev.unit.bind ∧
        t.dev.unit.peerRole = s.dev.unit.peerRole) ∧
    (performsPair s.dev rq Reg.UNT_ROLE_CMD 3 → s.dev.role = roleStandby →
      Goes (exec (.resync rq false) s) fun t => t.dev.flag Reg.UNT_STATUS_SYNCED = false ∧ t.dev.unit.resync = true ∧
        t.dev.unit.live = []) ∧
    (s.dev.role = roleStandby → s.dev.unit.resync = true → s.dev.unit.syncEnded = true → s.dev.unit.live = [] →
      s.dev.flag Reg.UNT_STATUS_PUNTY_UP = true →
      Goes (exec .resyncDone s) fun t => t.dev.flag Reg.UNT_STATUS_SYNCED = true ∧ t.dev.unit.resync = false) ∧
    (s.dev.role = roleStandby → s.dev.flag Reg.UNT_STATUS_PUNTY_UP = true → s.dev.unit.live = [] → s.dev.unit.resync = false →
      s.dev.puntyRoom body.length = true →
      let w := (s.dev.rd Reg.UNT_PSEQ_APPLIED + 1) % 2 ^ 32;
      (n.toNat ≠ w → pseqLe w n.toNat = true → replRecords body = [] →
        Goes (exec (.replicateReceived n (.records body)) s) fun t =>
          (∃ h, .punty 3 h ∈ t.dev.out ∧ be32 h 4 = w) ∧ t.dev.rd Reg.UNT_PSEQ_APPLIED = s.dev.rd Reg.UNT_PSEQ_APPLIED) ∧
      (∀ r, n.toNat = w → replRecords body = [r] → byteAt r 0 ≠ 4 →
        let x := s.dev.heldTake body.length 1;
        ((x.2.onUnit fun u => { u with heldLive := u.heldLive ++ [x.1], live := [(w, r)] }).replApply r).1 = true →
        Goes (exec (.replicateReceived n (.records body)) s) fun t => t.dev.rd Reg.UNT_PSEQ_APPLIED = w)) ∧
    (s.dev.role = roleStandby → s.dev.flag Reg.UNT_STATUS_PUNTY_UP = true → s.dev.unit.resync = true → s.dev.unit.syncEnded = false →
      s.dev.unit.live = [] → s.dev.unit.syncQ = [] → s.dev.puntyRoom body.length = true → n.toNat = s.dev.unit.syncNext →
      replRecords body = [] →
      Goes (exec (.syncReceived n body (some n)) s) fun t => t.dev.rd Reg.UNT_PSEQ_APPLIED = n.toNat ∧ t.dev.unit.syncEnded = true ∧
        (s.dev.unit.syncStarted = false → t.dev.mrv.tab = [])) ∧
    (performsPair s.dev rq Reg.UNT_ROLE_CMD 2 → s.dev.role = roleActive →
      Goes (exec (.relinquish rq false) s) fun t => t.dev.unit.muted = true ∧ t.dev.unit.relq = true ∧ t.dev.role = roleActive) ∧
    (∀ dev pdu rest o, s.dev.jarlis.mgmt = (dev, pdu) :: rest → pduOps pdu = [o] →
      (s.dev.mgmtOp dev o).2.jarlis.mgmt = s.dev.jarlis.mgmt →
      Goes (exec .mgmtRequestExecute s) fun t => t.dev.jarlis.mgmt = rest ∧
        ∃ f ∈ lget t.dev.path.intReady 513, ∃ h pad, f.bytes = h ++ mgmtPdu 2 (be32 pdu 4) [(s.dev.mgmtOp dev o).1] ++ pad) ∧
    (∀ f, s.dev.mgmtWaiting true = some f → (∀ x ∈ s.dev.gaffer.jm, x.2 ≠ be32 f.pdu 4) →
      Goes (exec .mgmtResponseReceived s) fun t => t.dev.jarlis.awaiting = s.dev.jarlis.awaiting.erase f) ∧
    (∀ type : BitVec 8, type = 0 ∨ 8 < type → Goes (exec (.replicateReceived n (.reserved type)) s) fun t =>
      t.dev.unit = { s.dev.unit with actOut := t.dev.unit.actOut, relqOut := t.dev.unit.relqOut } ∧
      t.dev.get (Reg.UNT_STAT_COUNT 9) = (s.dev.get (Reg.UNT_STAT_COUNT 9) + 1) % 2 ^ 48)

/-- R383 to R385, completion of the commands of Bind-Off: BIND_OFF, BIND_REQ_RECEIVED, BIND_READY_RECEIVED, BIND_CUT, BIND_QUEUE_RELEASE,
BIND_RELEASE_RECEIVED, BIND_MAX_TIMEOUT, BIND_DONE_RECEIVED, BIND_READY_TIMEOUT and BIND_ABORT_RECEIVED, and the end of the hand-over on the
former active at PEER_ACT_FALL. -/
def Obligations.BindOffHandsOver : Prop :=
  ∀ (s : State) (rq : Requester) (q : Fin 8192) (cut : BitVec 32) (body : List Byte),
    (performsPair s.dev rq Reg.UNT_ROLE_CMD 1 →
      Goes (exec (.bindOff rq false) s) fun t => t.dev.get Reg.UNT_BIND_RESULT = s.dev.bindResult ∧
        (s.dev.bindResult = 0 → t.dev.get Reg.UNT_BIND_STATE = 1 ∧ t.dev.unit.bind.side = 1 ∧
          t.dev.get Reg.UNT_BIND_QUEUES_LEFT = 8192 ∧ t.dev.unit.bind.cut = (s.dev.nowNs + 100000) % 4000000000) ∧
        (s.dev.bindResult ≠ 0 → t.dev.unit.bind = s.dev.unit.bind ∧ t.dev.role = s.dev.role)) ∧
    (s.dev.role = roleStandby → s.dev.flag Reg.UNT_STATUS_PUNTY_UP = true → s.dev.puntyRoom 8 = true →
      Goes (exec (.bindReqReceived cut) s) fun t => t.dev.unit.bind.side = 2 ∧ t.dev.unit.bind.cut = wordStamp cut.toNat ∧
        ∃ bs, .punty 7 bs ∈ t.dev.out ∧ byteAt bs 16 = 2) ∧
    (s.dev.unit.bind.side = 1 → s.dev.unit.bind.ready = false →
      (s.dev.puntyRoom 4 = true →
        Goes (exec .bindReadyReceived s) fun t => t.dev.get Reg.UNT_BIND_STATE = 2 ∧ t.dev.unit.bind.ready = true) ∧
      Goes (exec .bindReadyTimeout s) fun t => t.dev.get Reg.UNT_BIND_RESULT = 4 ∧ t.dev.unit.bind = {} ∧ t.dev.role = s.dev.role) ∧
    (s.dev.unit.bind.side = 1 → s.dev.unit.bind.ready = true → Goes (exec .bindCut s) fun t => t.dev.get Reg.UNT_BIND_STATE = 3) ∧
    (s.dev.unit.bind.side = 1 → s.dev.get Reg.UNT_BIND_STATE = 3 → s.dev.queueReleased q = false →
      Goes (exec (.bindQueueRelease q) s) fun t =>
        (s.dev.queueHead q = none → t.dev.queueReleased q = true ∧
          t.dev.get Reg.UNT_BIND_QUEUES_LEFT = (s.dev.get Reg.UNT_BIND_QUEUES_LEFT - 1) % 2 ^ 14 ∧
          (s.dev.get Reg.UNT_BIND_QUEUES_LEFT = 1 → t.dev.unit.rejectRepl = true)) ∧
        (∀ h, s.dev.queueHead q = some h → t.dev.queueReleased q = tsGe (s.dev.ingressNs h) s.dev.unit.bind.cut)) ∧
    (s.dev.unit.bind.side = 2 → 16 * be16 body 0 + byteAt body 2 = q.val → s.dev.bindRel q = none → s.dev.puntyRoom (body.length + 4) = true →
      Goes (exec (.bindReleaseReceived body) s) fun t =>
        t.dev.bindRel q = some ⟨wordStamp (be32 body 4), (List.range (byteAt body 3)).map fun i => be32 body (8 + 4 * i)⟩ ∧
        t.dev.get Reg.UNT_BIND_STATE = 3) ∧
    (s.dev.unit.bind.side = 1 → s.dev.get Reg.UNT_BIND_STATE = 3 →
      Goes (exec .bindMaxTimeout s) fun t => t.dev.queueReleased q = true ∧ t.dev.unit.rejectRepl = true ∧
        (s.dev.unit.store = [] → s.dev.unit.bind.donePending = false → t.dev.unit.bind.donePending = true)) ∧
    (s.dev.unit.bind.side = 2 → s.dev.puntyRoom 4 = true →
      Goes (exec .bindDoneReceived s) fun t => t.dev.role = roleActive ∧ t.dev.unit.muted = false ∧ t.dev.get Reg.UNT_BIND_STATE = 4 ∧
        t.dev.get Reg.UNT_BIND_RESULT = 0 ∧ t.dev.flag Reg.UNT_STATUS_SYNCED = s.dev.flag Reg.UNT_STATUS_SYNCED) ∧
    (s.dev.unit.bind.side ≠ 0 → s.dev.puntyRoom 4 = true →
      Goes (exec .bindAbortReceived s) fun t => t.dev.get Reg.UNT_BIND_RESULT = 4 ∧ t.dev.get Reg.UNT_BIND_STATE = 0 ∧
        t.dev.unit.bind = {} ∧ t.dev.role = s.dev.role) ∧
    (s.dev.role = roleActive → s.dev.paired = true → s.dev.unit.bind.side = 1 → s.dev.unit.bind.donePending = true →
      Goes (exec (.peerActFall false) s) fun t => t.dev.role = roleStandby ∧ t.dev.flag Reg.UNT_STATUS_SYNCED = true ∧
        t.dev.get Reg.UNT_STATUS_LAST_CHANGE = 3 ∧ t.dev.unit.muted = true ∧ t.dev.get Reg.UNT_BIND_STATE = 4)

/-- R386 to R391, R396, completion of the commands of the Tension test, of health and of the background test: TENSION_INTERVAL_CLOSE,
DIGEST_RECEIVED, HEALTH_SEND, HEALTH_RECEIVED and BIST_TEST_DONE. -/
def Obligations.TensionAndHealth : Prop :=
  ∀ (s : State) (n : Fin 4000) (p : Fin 512) (kind : Fin 3) (i : Fin 268435456) (body : List Byte) (lastOfPass : Bool),
    (s.dev.role = roleActive → s.dev.tensionOn = true → s.dev.portEn p = true →
      Goes (exec (.tensionIntervalClose n) s) fun t => t.dev.tensRec p n = {} ∧
        ∃ bs j, .punty 5 bs ∈ t.dev.out ∧
          slice bs (16 + 24 * j) 24 = digestBytes p n { s.dev.tensRec p n with repl := s.dev.replFlag n }) ∧
    (let o := s.dev.tensRec p n
      let bad := Reg.UNT_STAT_COUNT 12
      s.dev.role = roleStandby → s.dev.tensionOn = true → body.length = 24 → s.dev.puntyRoom 24 = true → be16 body 0 = p.val → be16 body 2 = n.val →
      Goes (exec (.digestReceived body) s) fun t =>
        (o.count = be32 body 4 → o.bytes % 2 ^ 32 = be32 body 8 → o.sum = be32 body 12 →
          t.dev.get (Reg.UNT_STAT_COUNT 10) = (s.dev.get (Reg.UNT_STAT_COUNT 10) + 1) % 2 ^ 48 ∧ t.dev.get bad = s.dev.get bad) ∧
        (o.count ≠ be32 body 4 → (o.drift = true ∨ bit (byteAt body 20) 7 = true ∨ bit (byteAt body 20) 6 = true ∨
            s.dev.replFlag n = true ∨ o.guard ≠ be16 body 16 ∨ o.late ≠ be16 body 18) →
          t.dev.get (Reg.UNT_STAT_COUNT 11) = (s.dev.get (Reg.UNT_STAT_COUNT 11) + 1) % 2 ^ 48 ∧ t.dev.get bad = s.dev.get bad) ∧
        (o.count ≠ be32 body 4 → o.drift = false → bit (byteAt body 20) 7 = false → bit (byteAt body 20) 6 = false →
            s.dev.replFlag n = false → o.guard = be16 body 16 → o.late = be16 body 18 →
          t.dev.get bad = (s.dev.get bad + 1) % 2 ^ 48 ∧ (s.dev.flagN n = 1 →
            bit (t.dev.rd (Reg.UNT_DIVERGED (p / 32))) (p % 32) = true ∧ t.dev.flag Reg.UNT_HEALTH_FAIL = true))) ∧
    (s.dev.flag Reg.UNT_STATUS_PUNTY_UP = true →
      Goes (exec .healthSend s) fun t => ∃ bs, .punty 6 bs ∈ t.dev.out ∧ bs.length = 48 ∧
        byteAt bs 16 = s.dev.role * 16 + bits (s.dev.rd Reg.UNT_HEALTH) 31 28 ∧ be32 bs 40 = s.dev.rd Reg.UNT_PAIR_OFFSET % 2 ^ 32) ∧
    (s.dev.puntyRoom 32 = true → Goes (exec (.healthReceived body) s) fun t => t.dev.unit.peerFail = bit (byteAt body 0) 3 ∧
      t.dev.flag Reg.UNT_PEER_HEALTH_FAIL = bit (byteAt body 0) 3 ∧ t.dev.get Reg.UNT_PEER_HEALTH_DIVERGED_PORTS = be16 body 2) ∧
    (s.dev.role = roleStandby → s.dev.flag Reg.UNT_CFG_BIST_EN = true → s.dev.bistIdle kind i = true →
      Goes (exec (.bistTestDone kind i true lastOfPass) s) (fun t =>
        t.dev.unit.bistPasses = if lastOfPass then (s.dev.unit.bistPasses + 1) % 2 ^ 32 else s.dev.unit.bistPasses) ∧
      Goes (exec (.bistTestDone kind i false lastOfPass) s) fun t => t.dev.flag Reg.UNT_HEALTH_BIST_ERR = true ∧
        t.dev.flag Reg.UNT_HEALTH_FAIL = true ∧
        t.dev.get (Reg.UNT_STAT_COUNT 13) = (s.dev.get (Reg.UNT_STAT_COUNT 13) + 1) % 2 ^ 48 ∧
        (kind.val = 0 → (t.dev.stitch i).retired = true))

/-- R462: what a bus error leaves in GLB_BUS_ERR_ADDR and GLB_BUS_ERR_SRC, for every requester, access and reason, and what a write of 1 to
VALID does. The errors of one clock reach the register bus one after the other: the first is captured. -/
def Obligations.BusErrorCapture : Prop :=
  (∀ (d : Device) (rq : Requester) (off : BitVec 28) (size : Nat) (write : Bool) (r : BusReason),
    let e := d.busError rq off.toNat size write r
    (d.flag Reg.GLB_BUS_ERR_SRC_VALID = false →
      e.flag Reg.GLB_BUS_ERR_SRC_VALID = true ∧ e.get Reg.GLB_BUS_ERR_ADDR_OFFSET = off.toNat ∧ e.flag Reg.GLB_BUS_ERR_SRC_WRITE = write ∧
      e.get Reg.GLB_BUS_ERR_SRC_SIZE = (if size = 4 then 1 else if size = 8 then 2 else 0) ∧
      e.get Reg.GLB_BUS_ERR_SRC_REASON = r.code ∧ e.get Reg.GLB_BUS_ERR_SRC_ORIGIN = originOf rq ∧
      e.get Reg.GLB_BUS_ERR_SRC_ID = requesterId rq) ∧
    (d.flag Reg.GLB_BUS_ERR_SRC_VALID = true →
      e.rd Reg.GLB_BUS_ERR_ADDR = d.rd Reg.GLB_BUS_ERR_ADDR ∧ e.flag Reg.GLB_BUS_ERR_SRC_OVERFLOW = true ∧
      ∀ f, f ∈ [Reg.GLB_BUS_ERR_SRC_VALID, Reg.GLB_BUS_ERR_SRC_WRITE, Reg.GLB_BUS_ERR_SRC_SIZE, Reg.GLB_BUS_ERR_SRC_REASON,
        Reg.GLB_BUS_ERR_SRC_ORIGIN, Reg.GLB_BUS_ERR_SRC_ID] → e.get f = d.get f) ∧
    e.get (Reg.GLB_STAT_COUNT (b2n write)) = (d.get (Reg.GLB_STAT_COUNT (b2n write)) + 1) % 2 ^ 48) ∧
  (∀ (s : State) (rq : Requester), performs s.dev rq Reg.GLB_BUS_ERR_SRC 4 (2 ^ 31) →
    Goes (exec (.registerWrite rq (BitVec.ofNat 28 Reg.GLB_BUS_ERR_SRC) 4 true (BitVec.ofNat 64 (2 ^ 31))) s) fun t =>
      t.dev.flag Reg.GLB_BUS_ERR_SRC_VALID = false)

/-- R73: the release pair clears LOCKED, as one 64-bit write and as two 32-bit writes, and GLB_LOCK_REL reads 0. -/
def Obligations.LockReleasePair : Prop :=
  ∀ (s : State) (rq : Requester),
    (performsPair s.dev rq Reg.GLB_LOCK_REL 1 → Goes (exec (.lockRelease rq) s) fun t => t.dev.flag Reg.GLB_LOCK_LOCKED = false) ∧
    (s.dev.pend 0 = some ⟨Reg.GLB_LOCK_REL, 1, rq⟩ → performs s.dev rq (Reg.GLB_LOCK_REL + 4) 4 0xFFFFFFFE →
      Goes (exec (.cpwSecondHalf rq (BitVec.ofNat 28 (Reg.GLB_LOCK_REL + 4)) 0xFFFFFFFE false) s) fun t =>
        t.dev.flag Reg.GLB_LOCK_LOCKED = false) ∧
    s.dev.view Reg.GLB_LOCK_REL = 0 ∧ s.dev.view (Reg.GLB_LOCK_REL + 4) = 0

/-- R212: the seed register: 0 at reset, changed by a completed pair, and its reads return the seed. -/
def Obligations.SeedRegister : Prop :=
  State.reset.dev.view Reg.MRV_SEED = 0 ∧
  ∀ (s : State) (rq : Requester) (v : BitVec 32),
    performsPair s.dev rq Reg.MRV_SEED v.toNat → Goes (exec (.seedWrite rq v) s) fun t => t.dev.view Reg.MRV_SEED = v.toNat

/-- R460 to R462, R467, R468, R470, R485 to R487, R560, completion of the remaining accesses: REGISTER_READ_ERROR, INDIRECT_READ,
CPW_FIRST_HALF, CPW_SECOND_HALF, CPW_TIMEOUT, SQ_DOORBELL, CQ_DOORBELL and CHECKPOINT_NOW. -/
def Obligations.AccessesAct : Prop :=
  ∀ (s : State) (rq : Requester) (off : BitVec 28) (v : BitVec 32) (n : Fin 512) (no : Fin 21),
    (∀ (size : BitVec 4) (full : Bool) (o : Nat) (r : BusReason), s.dev.notSeen rq = false →
      s.dev.readError rq off.toNat size.toNat full = some (o, r) → s.dev.flag Reg.GLB_BUS_ERR_SRC_VALID = false →
      Goes (exec (.registerReadError rq off size full) s) fun t => t.dev.flag Reg.GLB_BUS_ERR_SRC_VALID = true ∧
        t.dev.get Reg.GLB_BUS_ERR_ADDR_OFFSET = o % 2 ^ 28 ∧ t.dev.get Reg.GLB_BUS_ERR_SRC_REASON = r.code ∧
        t.dev.flag Reg.GLB_BUS_ERR_SRC_WRITE = false) ∧
    (∀ (w : Win) (ecc : Option Bool), winAt off.toNat = some w → s.dev.notSeen rq = false → s.dev.readError rq off.toNat 4 true = none →
      Goes (exec (.indirectRead rq off ecc) s) fun t => .readData (s.dev.winRead w ecc).1 ∈ t.dev.out ∧
        t.dev.winAddr w = (s.dev.winAddr w + s.dev.rd w.ctrl % 8) % 2 ^ w.width) ∧
    (performs s.dev rq off.toNat 4 v.toNat → off.toNat % 8 = 0 → (∃ r is up, regAt off.toNat = some (r, is, up) ∧ r.cpw ≠ 0) →
      Goes (exec (.cpwFirstHalf rq off v) s) fun t => t.dev.pend (blockNo off.toNat) = some ⟨off.toNat, v.toNat, rq⟩) ∧
    (performs s.dev rq (Reg.MRV_SEED + 4) 4 (2 ^ 32 - 1 - v.toNat) → s.dev.pend 20 = some ⟨Reg.MRV_SEED, v.toNat, rq⟩ →
      Goes (exec (.cpwSecondHalf rq (BitVec.ofNat 28 (Reg.MRV_SEED + 4)) (BitVec.ofNat 32 (2 ^ 32 - 1 - v.toNat)) false) s) fun t =>
        t.dev.pend 20 = none ∧ t.dev.rd Reg.MRV_SEED = v.toNat) ∧
    (∀ p, s.dev.pend no = some p →
      Goes (exec (.cpwTimeout no) s) fun t => t.dev.pend no = none ∧ t.dev.flag Reg.GLB_CPW_STATUS_REJ = true ∧
        t.dev.get Reg.GLB_CPW_STATUS_REASON = 1 ∧ t.dev.get Reg.GLB_CPW_ADDR_OFFSET = p.addr % 2 ^ 28) ∧
    (performs s.dev rq (Reg.HQ_SQ_TAIL n) 4 v.toNat → s.dev.sqEn n = true → v.toNat % 65536 < 2 ^ s.dev.get (Reg.HQ_SQ_CFG_LOG2_N n) →
      Goes (exec (.sqDoorbell rq n v) s) fun t => t.dev.get (Reg.HQ_SQ_TAIL_TAIL n) = v.toNat % 65536) ∧
    (performs s.dev rq (Reg.HQ_CQ_DB n) 4 v.toNat → s.dev.cqEn n = true → v.toNat % 65536 < s.dev.cqSize n →
      s.dev.cqOverclaims n v.toNat = false →
      Goes (exec (.cqDoorbell rq n v) s) fun t => t.dev.get (Reg.HQ_CQ_DB_HEAD n) = v.toNat % 65536) ∧
    (performs s.dev rq Reg.LDG_CTRL 4 (2 ^ 31) → s.dev.ledger.isOpen = true → s.dev.ledger.erasing = false →
      Goes (exec (.checkpointNow rq) s) fun t => t.dev.ledger.ckptRun = true ∨ t.dev.ledger.deferred = true)

/-- R483, R486 to R501, completion of the commands of the host queues: SQ_FETCH, COMPLETION_WRITE, MSIX_SIGNAL, CQ_TIMER_EXPIRE,
INJECT_PIPELINE, INJECT_FIXED, POST, PUNT_DELIVER, BUFFER_FLUSH_TIMEOUT, STAMP_TIMEOUT, FLR, BUS_MASTER_CHANGE, MEMORY_SPACE_ENABLE_CHANGE
and VF_ENABLE. -/
def Obligations.HostQueuesServe : Prop :=
  ∀ (s : State) (q n : Fin 512) (func : Fin 64) (es : List (Option (List Byte))) (bs : List Byte) (masked b1 b2 : Bool),
    (let d := s.dev.each (List.range 512) fun d i => d.holdCheck i;
      d.fetchPick = some q.val → d.get (Reg.HQ_SQ_CFG_LOG2_N q) ≤ 16 →
      Goes (exec (.sqFetch es) s) fun t => t.dev.host.nextOp = s.dev.host.nextOp + d.fetchCount q ∧
        t.dev.get (Reg.HQ_SQ_HEAD_HEAD q) = (s.dev.get (Reg.HQ_SQ_HEAD_HEAD q) + d.fetchCount q) % 2 ^ d.get (Reg.HQ_SQ_CFG_LOG2_N q)) ∧
    (∀ c rest, s.dev.due n = c :: rest → s.dev.cqFree n ≠ 0 → s.dev.dmaOk (s.dev.owner n) = true → s.dev.cqEn n = true →
      s.dev.get (Reg.HQ_CQ_CFG_LOG2_N n) ≤ 16 →
      Goes (exec (.completionWrite n) s) fun t => t.dev.due n = rest ∧
        t.dev.get (Reg.HQ_CQ_STATUS_WIDX n) = (s.dev.get (Reg.HQ_CQ_STATUS_WIDX n) + 1) % s.dev.cqSize n ∧
        .hostWrite (s.dev.owner n) (s.dev.rd64 (Reg.HQ_CQ_BASE n) + 16 * s.dev.get (Reg.HQ_CQ_STATUS_WIDX n))
          (c.bytes (s.dev.get (Reg.HQ_CQ_STATUS_PHASE n))) ∈ t.dev.out) ∧
    (s.dev.cqEn n = true → s.dev.flag (Reg.HQ_CQ_CFG_INT_EN n) = true →
      let v := s.dev.get (Reg.HQ_CQ_CFG_VECTOR n)
      let done := fun (t : State) => nget t.dev.host.unsig n = 0 ∧
        mget (fun _ => false) t.dev.host.msixPend (2048 * s.dev.owner n + v) = masked ∧
        (masked = false → .msix (s.dev.owner n) v ∈ t.dev.out);
      (max 1 (s.dev.get (Reg.HQ_CQ_MOD_COUNT n)) ≤ nget s.dev.host.unsig n → Goes (exec (.msixSignal n masked) s) done) ∧
      (s.dev.get (Reg.HQ_CQ_MOD_TIMER_US n) ≠ 0 → mget (fun _ => false) s.dev.host.timer n = true →
        Goes (exec (.cqTimerExpire n masked) s) done)) ∧
    (∀ (c : Instr) (op : Nat) (o : HostOp), (c = .injectPipeline (some bs) ∧ op = 1 ∨ c = .injectFixed (some bs) ∧ op = 2) →
      s.dev.injNext = some o → o.byte 0 = op → s.dev.inSelvedge = false →
      Goes (exec c s) fun t =>
        (s.dev.injBad o = 0 → ∃ f ∈ lget t.dev.path.intReady 512, f.bytes = slice bs 0 (o.field 16 2) ∧ f.src = 512 ∧
          f.fixed = (op == 2) ∧ f.inj = some o.id) ∧
        (s.dev.injBad o ≠ 0 → t.dev.findOp o.id = none ∧
          t.dev.get (Reg.HQ_STAT_COUNT o.sq 1) = (s.dev.get (Reg.HQ_STAT_COUNT o.sq 1) + 1) % 2 ^ 48)) ∧
    (∀ o, s.dev.inFlightSq q = false → (s.dev.host.ops.find? fun x => x.sq == q.val) = some o →
      postBad (s.dev.get (Reg.HQ_SQ_CFG_TYPE q)) o = 0 →
      Goes (exec (.post q) s) fun t => t.dev.findOp o.id = none ∧
        t.dev.bufsOf q = s.dev.bufsOf q ++ [{ op := o, addr := o.field 8 8, len := o.field 16 4 }]) ∧
    (∀ o, s.dev.inFlightSq q = false → (s.dev.host.ops.find? fun x => x.sq == q.val) = some o →
      postBad (s.dev.get (Reg.HQ_SQ_CFG_TYPE q)) o ≠ 0 → s.dev.bufsOf q = [] →
      Goes (exec (.post q) s) fun t => t.dev.findOp o.id = none ∧ t.dev.bufsOf q = [] ∧
        t.dev.get (Reg.HQ_STAT_COUNT q 1) = (s.dev.get (Reg.HQ_STAT_COUNT q 1) + 1) % 2 ^ 48) ∧
    (∀ x b, (s.dev.host.stamps.find? fun y =>
        ((s.dev.freeBuf y.pq).any fun b => s.dev.bufTurn y.pq b.op.id) && s.dev.dmaOk (s.dev.owner y.pq) && s.dev.lineOpen 32) = some x →
      s.dev.freeBuf x.pq = some b →
      Goes (exec (.puntDeliver true) s) fun t => t.dev.host.stamps = s.dev.host.stamps.erase x ∧
        .hostWrite (s.dev.owner x.pq) b.addr (stampRecord x) ∈ t.dev.out) ∧
    (∀ r b, (s.dev.host.punt.find? fun y => s.dev.bufTurn y.pq y.buf && s.dev.dmaOk (s.dev.owner y.pq) && s.dev.lineOpen y.line) = some r →
      ((s.dev.bufsOf r.pq).find? fun y => y.op.id == r.buf) = some b →
      let full := s.dev.entryBytes r.sel.entry
      let k := min full.length (b.len - 32)
      let f := s.dev.entryFrame r.sel.entry;
      Goes (exec (.puntDeliver false) s) fun t => t.dev.host.punt = s.dev.host.punt.erase r ∧
        .hostWrite (s.dev.owner r.pq) b.addr
          (s.dev.puntHeader f (if f.ckind = 4 then f.clen else full.length) k ++ full.take k) ∈ t.dev.out) ∧
    (∀ b rest, s.dev.bufsOf q = b :: rest → b.recs ≠ 0 → s.dev.get (Reg.HQ_SQ_CFG_TYPE q) ≠ 1 → s.dev.dmaOk (s.dev.owner q) = true →
      Goes (exec (.bufferFlushTimeout q) s) fun t => b ∉ t.dev.bufsOf q ∧ .hostWrite (s.dev.owner q) b.addr b.data ∈ t.dev.out) ∧
    (∀ x, (s.dev.host.stamps.find? fun y => (s.dev.freeBuf y.pq).isNone) = some x →
      Goes (exec .stampTimeout s) fun t => t.dev.host.stamps = s.dev.host.stamps.erase x ∧
        t.dev.get Reg.HQ_GLB_STAT_STAMP_LOST = (s.dev.get Reg.HQ_GLB_STAT_STAMP_LOST + 1) % 2 ^ 48) ∧
    (s.dev.pcieUp = true →
      Goes (exec (.flr 0 false) s) (fun t => t.dev.dma = {} ∧ t.dev.sqEn n = false ∧ t.dev.cqEn n = false ∧ t.dev.owner n = 0 ∧
        ∀ o ∈ t.dev.host.ops, 512 ≤ o.sq) ∧
      (func.val ≠ 0 → s.dev.host.vfEn = true → s.dev.owner n = func.val →
        Goes (exec (.flr func false) s) fun t => t.dev.sqEn n = false ∧ t.dev.cqEn n = false ∧ t.dev.bufsOf n = [] ∧
          ∀ o ∈ t.dev.host.ops, o.sq ≠ n.val) ∧
      Goes (exec (.flr func true) s) (fun t => t.dev.host.vfEn = false) ∧
      (s.dev.inSelvedge = false → Goes (exec .vfEnable s) fun t => t.dev.host.vfEn = true)) ∧
    Goes (exec (.busMasterChange func b1 b2) s) (fun t => t.dev.dmaOk func = (s.dev.pcieUp && b1 && !b2)) ∧
    Goes (exec (.memorySpaceEnableChange func b1) s) (fun t => mget (fun _ => false) t.dev.host.mse func = b1)

/-- R510 to R519, completion of the commands of the DMA engine: COPY, FILL, BURST_START, BURST_DONE and REQUEST_WITHDRAW. -/
def Obligations.DmaMoves : Prop :=
  ∀ (s : State) (c : Fin 32) (l : Fin 64) (host : List Byte) (o : HostOp),
    (∀ i op, (i = Instr.copy c ∧ op = 1 ∨ i = .fill c ∧ op = 2) →
      let d := descHeads c s.dev.host.ops.length s.dev;
      d.descHead c = some o → o.byte 0 = op → d.dmaOk (d.owner o.sq) = true →
      Goes (exec i s) fun t =>
        (d.descBad o = 0 → t.dev.descOf c = some { op := o }) ∧
        (d.descBad o ≠ 0 → t.dev.findOp o.id = none ∧
          t.dev.get (Reg.DMA_STAT_COUNT 3) = (d.get (Reg.DMA_STAT_COUNT 3) + 1) % 2 ^ 48)) ∧
    (∀ line n, (∀ x, x < 32 → s.dev.chanPending x = (x == c.val)) → s.dev.chanNext c = some (line, n) →
      Goes (exec .burstStart s) fun t => t.dev.burstOf c = some { line := line, bytes := n } ∧
        t.dev.flag (Reg.DMA_CHAN_STATUS_BUSY c) = true ∧ t.dev.get (Reg.DMA_CHAN_STATUS_BURST_LEFT c) = n % 2 ^ 13) ∧
    (∀ b k, s.dev.burstOf c = some b → b.line = some k →
      Goes (exec (.burstDone c host) s) fun t => t.dev.burstOf c = none ∧ t.dev.flag (Reg.DMA_CHAN_STATUS_BUSY c) = false ∧
        t.dev.get (Reg.DMA_STAT_COUNT 1) = (s.dev.get (Reg.DMA_STAT_COUNT 1) + b.bytes) % 2 ^ 48) ∧
    (∀ b x w a, s.dev.burstOf c = some b → b.line = none → s.dev.descOf c = some x → x.op.byte 0 = 1 → x.op.src.1 = 0 →
      x.op.dst = (0, false, w, a) → host.length = b.bytes → b.bytes ≠ 0 →
      Goes (exec (.burstDone c host) s) fun t => .hostWrite (s.dev.owner x.op.sq) (a + x.done) host ∈ t.dev.out ∧
        (x.done + b.bytes = x.op.dmaLen ∨ x.gone = true → t.dev.descOf c = none) ∧
        (x.done + b.bytes ≠ x.op.dmaLen → x.gone = false → t.dev.descOf c = some { x with done := x.done + b.bytes })) ∧
    ((((s.dev.lineData l).any fun x => s.dev.dmaOk x.1) && s.dev.lineOpen l) = false →
      Goes (exec (.requestWithdraw l) s) fun t => nget t.dev.dma.moved l = 0 ∧
        t.dev.get (Reg.DMA_STAT_COUNT 5) = (s.dev.get (Reg.DMA_STAT_COUNT 5) + 1) % 2 ^ 48)

/-- R535 to R541, completion of the commands of the mailbox, for the head `o` of queue `q` whose turn it is, with the command's OPCODE,
where what it needs is free and none of the common checks is against it: VERSION, PTP_CLOCK_SET, PTP_PORT_SET, PTP_STATUS, MEP_CREATE,
MEP_DELETE, MEP_STATUS, APS_LINEAR_SET, APS_RING_SET, APS_STATUS, LEARN_STATUS, SURVEY, I2C_READ, I2C_WRITE, LEDGER_READ, FLASH_VERIFY,
FLASH_WRITE, FLASH_ERASE and JMGMT. What PTP_STATUS and APS_STATUS give are free values. Where R537 lays down no layout of the arguments,
the layout is the model's choice. -/
def Obligations.MailboxServes : Prop :=
  ∀ (s : State) (q : Fin 512) (o : HostOp) (bs : List Byte) (ack : Bool),
    let d0 := mboxHeads q s.dev.host.ops.length s.dev
    let d := d0.onGaf fun g => { g with rr := (q + 1) % 512 };
    s.dev.flag Reg.SVC_STATUS_READY = true → s.dev.dmaOk (s.dev.owner q) = true → s.dev.mboxRunning < 64 → s.dev.mboxTurn q = true →
    d0.mboxHead q = some o → d0.mboxBlocked o = false → d.mboxBad o = none →
    let done := fun (t : State) (st r0 r1 : Nat) => t.dev.findOp o.id = none ∧
      t.dev.get (Reg.SVC_STAT_COUNT 0) = (d.get (Reg.SVC_STAT_COUNT 0) + 1) % 2 ^ 48 ∧
      (o.byte 3 = 0 → ({ tag := o.tag, res := leBytes 4 r0 ++ leBytes 4 r1, status := st, detail := 0, sq := o.sq } : Cqe) ∈
        t.dev.due (d.cqOf o.sq));
    (o.byte 0 = 0x01 → Goes (exec (.version q) s) fun t => done t 0 d.gaffer.fwVer d.coresRunning) ∧
    (o.byte 0 = 0x10 → o.byte 20 ≤ 2 →
      Goes (exec (.ptpClockSet q) s) fun t => done t 0 0 0 ∧ t.dev.gaffer.ptpClock = slice o.bytes 20 5) ∧
    (o.byte 0 = 0x11 → o.field 20 2 < 512 →
      Goes (exec (.ptpPortSet q) s) fun t => done t 0 0 0 ∧ lget t.dev.gaffer.ptpPort (o.field 20 2) = slice o.bytes 22 7) ∧
    (o.byte 0 = 0x12 → Goes (exec (.ptpStatus q) s) fun t => done t 0 0 0) ∧
    (o.byte 0 = 0x20 → o.field 16 4 = 48 → o.field 20 2 < 16384 → o.field 22 2 < 512 → o.field 24 2 < 4096 →
      1 ≤ bits (o.byte 26) 3 0 → bits (o.byte 26) 3 0 ≤ 7 → o.byte 27 ≤ 7 → 1 ≤ o.field 28 2 → o.field 28 2 ≤ 8191 →
      o.field 30 2 ≤ 8191 → bits (o.field 32 2) 13 12 = 0 →
      Goes (exec (.mepCreate q (some bs)) s) fun t =>
        (d.mep (o.field 20 2) = none → done t 0 0 0 ∧ ∃ m, t.dev.mep (o.field 20 2) = some m ∧ m.port = o.field 22 2 ∧
          m.period = bits (o.byte 26) 3 0 ∧ m.rmepid = o.field 30 2 ∧ m.meg = slice bs 0 48 ∧ m.bind = bit (o.field 32 2) 15 ∧
          m.group = bits (o.field 32 2) 11 0 ∧ m.loc = false) ∧
        (d.mep (o.field 20 2) ≠ none → done t 4 0 0 ∧ t.dev.gaffer.mep = d.gaffer.mep)) ∧
    (o.byte 0 = 0x21 → o.field 20 2 < 16384 →
      Goes (exec (.mepDelete q) s) fun t => t.dev.mep (o.field 20 2) = none ∧
        done t (if d.mep (o.field 20 2) = none then 3 else 0) 0 0) ∧
    (o.byte 0 = 0x22 → o.field 20 2 < 16384 → ∀ m, d.mep (o.field 20 2) = some m →
      Goes (exec (.mepStatus q) s) fun t => done t 0 (b2n m.loc + 2 * b2n m.rdi + 4 * b2n m.mismatch) m.rx) ∧
    (o.byte 0 = 0x30 → o.field 20 2 < 4096 → o.byte 22 ≤ 1 → o.field 24 2 < 16384 → d.mep (o.field 24 2) ≠ none →
      Goes (exec (.apsLinearSet q) s) fun t => done t 0 0 0 ∧ lget t.dev.gaffer.linear (o.field 20 2) = slice o.bytes 20 6) ∧
    (o.byte 0 = 0x31 →
      Goes (exec (.apsRingSet q) s) fun t => done t 0 0 0 ∧ lget t.dev.gaffer.ring (o.field 20 2) = slice o.bytes 20 44) ∧
    (o.byte 0 = 0x32 → lget d.gaffer.linear (o.field 20 2) ≠ [] →
      Goes (exec (.apsStatus q) s) fun t => ∃ r0, done t 0 r0 0) ∧
    (o.byte 0 = 0x40 → Goes (exec (.learnStatus q) s) fun t => done t 0 d.mrv.fwInserts d.mrv.fwFull) ∧
    (o.byte 0 = 0x50 → o.byte 20 ≤ 1 → o.byte 21 = 0 → o.field 22 2 ≤ o.field 24 2 → o.field 24 2 < 512 → o.byte 26 ≤ 1 →
      (d.inSelvedge = true → Goes (exec (.survey q) s) fun t => done t 0 0 0) ∧
      let v := 2 ^ 31 + 2 ^ 30 * b2n (d.flag Reg.SRV_CTRL_AUTO_RESURVEY) + 2 ^ 29 * o.byte 26 + 2 ^ 24 * o.byte 20 + 2 ^ 9 * o.field 24 2
        + o.field 22 2;
      let r := d.busWriteR (d.coreBy 4) false Reg.SRV_CTRL 4 true v;
      (d.inSelvedge = false → (o.byte 26 = 0 ∨ d.role ≠ roleStandby) → r.1 = .ok → o.byte 20 = 0 → r.2.flag Reg.SRV_STATUS_BUSY = true →
        Goes (exec (.survey q) s) fun t => t.dev.gaffer.surveyOps = r.2.gaffer.surveyOps ++ [o.id])) ∧
    (o.byte 0 = 0x51 → i2cOk o = true → o.byte 25 ≤ o.field 16 4 → 1 ≤ o.byte 25 →
      Goes (exec (.i2cRead q (some bs)) s) (fun t => done t 0 0 0 ∧
        .hostWrite (d.owner o.sq) (o.field 8 8) (slice bs 0 (o.byte 25)) ∈ t.dev.out) ∧
      Goes (exec (.i2cRead q none) s) fun t => done t 9 0 0) ∧
    (o.byte 0 = 0x52 → i2cOk o = true → o.byte 25 ≤ o.field 16 4 →
      Goes (exec (.i2cWrite q (some bs) ack) s) fun t => done t (if ack then 0 else 9) 0 0 ∧
        .board "I2C_WRITE" ((slice o.bytes 20 6 ++ slice bs 0 (o.byte 25)).map BitVec.toNat) ∈ t.dev.out) ∧
    (o.byte 0 = 0x60 → o.field 20 4 + o.field 24 4 ≤ 0x400000 → o.field 24 4 ≤ o.field 16 4 → 1 ≤ o.field 24 4 → d.lineOpen 35 = true →
      d.ledger.erasing = false →
      Goes (exec (.ledgerRead q) s) fun t => done t 0 0 0 ∧
        .hostWrite (d.owner o.sq) (o.field 8 8) (d.ledRead (o.field 20 4) (o.field 24 4)) ∈ t.dev.out) ∧
    (o.byte 0 = 0x70 → o.byte 20 ≤ 1 → Goes (exec (.flashVerify q) s) fun t => done t 0 (d.imageCheck (o.byte 20)).1 0) ∧
    (o.byte 0 = 0x71 → d.gaffer.flashOp = none →
      Goes (exec (.flashWrite q (some bs)) s) fun t =>
        (d.flashBad (o.byte 20) (o.field 24 4) (o.field 16 4) = none →
          t.dev.gaffer.flashOp = some ⟨o.id, o.byte 20, o.field 24 4, o.field 16 4, some (slice bs 0 (o.field 16 4))⟩) ∧
        (o.byte 20 = 2 → o.field 24 4 + o.field 16 4 ≤ d.flash.quarter → done t 8 0 0)) ∧
    (o.byte 0 = 0x72 → d.gaffer.flashOp = none → d.flashBad (o.byte 20) (o.field 24 4) (o.field 28 4) = none →
      o.field 24 4 % d.flash.erase = 0 → o.field 28 4 % d.flash.erase = 0 →
      Goes (exec (.flashErase q) s) fun t => t.dev.gaffer.flashOp = some ⟨o.id, o.byte 20, o.field 24 4, o.field 28 4, none⟩) ∧
    (o.byte 0 = 0x80 → o.field 20 2 < 4096 → o.field 20 2 ≠ d.get Reg.JFL_CFG_DEVID → 1 ≤ o.byte 22 → o.byte 22 ≤ 32 →
      o.field 16 4 = 16 * o.byte 22 → d.route (o.field 20 2) ≠ none → d.gaffer.jm.length < 16 →
      Goes (exec (.jmgmt q (some bs)) s) fun t => t.dev.gaffer.jm = d.gaffer.jm ++ [(o.id, (d.gaffer.mtag + 1) % 2 ^ 32)])

/-- R538, R539, R540, R542, R544, completion of the other commands of the Gaffer cores: JMGMT_TIMEOUT, CCM_TRANSMIT, CCM_RECEIVE, LOC_CHECK,
SERVICE_FRAME_SEND, GAFFER_WATCHDOG and FLASH_WORK_DONE. -/
def Obligations.GafferCoresAct : Prop :=
  ∀ (s : State) (n : Fin 16384) (m : Mep) (core : Fin 16) (meg e : List Byte) (lv pd : Fin 8) (mid : Fin 8192) (rdi : Bool),
    (∀ id tag rest o, s.dev.gaffer.jm = (id, tag) :: rest → s.dev.findOp id = some o →
      Goes (exec .jmgmtTimeout s) fun t => t.dev.gaffer.jm = rest ∧ t.dev.findOp id = none) ∧
    (s.dev.mep n = some m → s.dev.unit.muted = false →
      Goes (exec (.ccmTransmit n) s) fun t => ∃ f ∈ lget t.dev.path.intReady 513, f.src = 513 ∧ f.fixed = !m.up ∧
        ∃ sa, f.bytes = ccmBytes m sa) ∧
    (s.dev.mep n = some m →
      Goes (exec (.ccmReceive n meg lv mid pd rdi) s) fun t =>
        (slice meg 0 48 = m.meg → lv.val = m.level → mid.val = m.rmepid → pd.val = m.period →
          t.dev.mep n = some { m with rx := m.rx + 1, lastRx := s.dev.ft, rdi := rdi, mismatch := false, loc := false }) ∧
        (mid.val ≠ m.rmepid → t.dev.mep n = some { m with rx := m.rx + 1, mismatch := true })) ∧
    (s.dev.mep n = some m → m.loc = false →
      Goes (exec (.locCheck n) s) fun t =>
        (7 * ccmTriple m.period * 65536 ≤ 6 * (s.dev.ft - m.lastRx) → t.dev.mep n = some { m with loc := true }) ∧
        (6 * (s.dev.ft - m.lastRx) < 7 * ccmTriple m.period * 65536 → t.dev.mep n = some m)) ∧
    (let o : HostOp := { id := 0, sq := 0, idx := 0, bno := 0, bytes := slice e 0 64 };
      o.byte 0 = 1 → 60 ≤ o.field 16 2 → o.field 16 2 ≤ 16379 → o.field 8 8 + o.field 16 2 ≤ 16777216 → s.dev.inSelvedge = false →
      s.dev.coresRunning ≠ 0 →
      Goes (exec (.serviceFrameSend e) s) fun t => ∃ f ∈ lget t.dev.path.intReady 513, f.src = 513 ∧ f.fixed = false ∧
        f.bytes = slice (s.dev.sramRead (o.field 8 8) (o.field 16 2)) 0 (o.field 16 2)) ∧
    (s.dev.get (Reg.SVC_CORE_STATE core) = 1 →
      Goes (exec (.gafferWatchdog core) s) fun t =>
        t.dev.get (Reg.SVC_CORE_RESTARTS core) = (s.dev.get (Reg.SVC_CORE_RESTARTS core) + 1) % 65536 ∧
        t.dev.get (Reg.SVC_CORE_STATE core) =
          (if 2 ≤ ((lget s.dev.gaffer.expiries core).filter fun x => decide (s.dev.ft < x + 60 * secUnits)).length then 3 else 1) ∧
        t.dev.get (Reg.SVC_STAT_COUNT 2) = (s.dev.get (Reg.SVC_STAT_COUNT 2) + 1) % 2 ^ 48) ∧
    (∀ w, s.dev.gaffer.flashOp = some w →
      Goes (exec .flashWorkDone s) fun t => t.dev.gaffer.flashOp = none ∧ t.dev.findOp w.op = none)

/-- The records the device keeps: the oldest audit record that waits for the AUDIT queue goes into its buffer, and its slot is free (R554);
an open summary closes once 1 s has passed since the previous one (R557); a checkpoint that waits for the firmware's deltas is written
into the slot that its sequence fixes and the sequence goes on, with them, or 1 s later without them; one that came sooner than
10 s after the previous one starts at the 10 s mark (R560). BUSY shows an erase until it is over (R565). -/
def Obligations.RecordsKept : Prop :=
  ∀ (s : State),
    (let q := s.dev.get Reg.HQ_GLB_CFG_AUDIT_Q
      let rp := s.dev.rd Reg.AUD_RP
      let bs := slice (mget (fun _ => []) s.dev.audit.ring (rp % 65536)) 0 32
      s.dev.stream = true → s.dev.used ≠ 0 → s.dev.flag Reg.HQ_GLB_CFG_AUDIT_QV = true → s.dev.sqEn q = true →
      s.dev.dmaOk (s.dev.owner q) = true → s.dev.lineOpen 34 = true → (s.dev.bufAppend q bs).1 = true → s.dev.audit.unlogged = 0 →
      Goes (exec .auditRecordStreamed s) fun t => t.dev.rd Reg.AUD_RP = (rp + 1) % 2 ^ 32 ∧
        t.dev.used = s.dev.used - 1 ∧ t.dev.host.bufs = (s.dev.bufAppend q bs).2.host.bufs) ∧
    (s.dev.audit.sumOpen = true → s.dev.sumMayClose = true →
      Goes (exec .summaryClose s) fun t => t.dev.audit.sumOpen = false ∧ t.dev.audit.sumClosed = s.dev.ft ∧
        t.dev.ledger.sumIdx = s.dev.ledger.sumIdx + 1 ∧
        t.dev.ledRead (0x20000 + 32 * (s.dev.ledger.sumIdx % 4096)) 32 = s.dev.audit.sumBytes) ∧
    (∀ ds, s.dev.ledger.waitDelta = true →
      Goes (exec (.checkpoint (some ds)) s) fun t =>
        t.dev.ledger.next = s.dev.ledger.next + 1 ∧ t.dev.ledger.waitDelta = false ∧ t.dev.ledger.lastCkpt = s.dev.ft ∧
        t.dev.get Reg.LDG_STATUS_LAST_SLOT = s.dev.ledger.next % 8 ∧ t.dev.ledger.acc = (s.dev.ckptDeltas ds).ledger.acc ∧
        t.dev.flag Reg.LDG_CTRL_CHECKPOINT_NOW = false) ∧
    (s.dev.ledger.waitDelta = true →
      Goes (exec .checkpointDeltaTimeout s) fun t =>
        t.dev.ledger.next = s.dev.ledger.next + 1 ∧ t.dev.ledger.acc = s.dev.ledger.acc ∧
        t.dev.get Reg.LDG_STATUS_LAST_SLOT = s.dev.ledger.next % 8) ∧
    (s.dev.ledger.isOpen = true → s.dev.ledger.deferred = true → s.dev.ledger.erasing = false → s.dev.ledger.waitDelta = false →
      Goes (exec .deferredCheckpoint s) fun t => t.dev.ledger.deferred = false ∧ t.dev.ledger.waitDelta = true ∧
        t.dev.flag Reg.LDG_STATUS_BUSY = true) ∧
    (s.dev.ledger.erasing = true → s.dev.ledger.ckptRun = false → s.dev.ledger.evWait = [] →
      Goes (exec .ledgerEraseDone s) fun t => t.dev.ledger.erasing = false ∧ t.dev.flag Reg.LDG_STATUS_BUSY = false ∧
        t.dev.ledger.mem = s.dev.ledger.mem)

/-- Telemetry and fuses. A sample of an enabled set waits for its request line with the counters it names, unless the ring is full, and
then it is counted in SKIPPED (R570). Programming of the fuses ends with BUSY clear; where every bit verified, the key slot, the
revocation or the SVN holds what was programmed, and the values in force stay (R574). -/
def Obligations.TelemetryAndFuses : Prop :=
  ∀ (s : State) (k : Fin 4),
    (s.dev.flag (Reg.PMC_TEL_CFG_EN k) = true →
      let held := (s.dev.get (Reg.PMC_TEL_WIDX_WIDX k) + 65536 - s.dev.get (Reg.PMC_TEL_RIDX_RIDX k)) % 65536
        + (lget s.dev.tel.wait k).length;
      Goes (exec (.telemetrySample k) s) fun t =>
        (held < 2 ^ s.dev.get (Reg.PMC_TEL_CFG_LOG2_N k) →
          lget t.dev.tel.wait k = lget s.dev.tel.wait k ++ [(s.dev.rd64 (Reg.PMC_TEL_BASE k), s.dev.telRecord k)] ∧
          t.dev.get (Reg.PMC_TEL_SKIPPED_COUNT k) = s.dev.get (Reg.PMC_TEL_SKIPPED_COUNT k)) ∧
        (2 ^ s.dev.get (Reg.PMC_TEL_CFG_LOG2_N k) ≤ held →
          t.dev.get (Reg.PMC_TEL_SKIPPED_COUNT k) = (s.dev.get (Reg.PMC_TEL_SKIPPED_COUNT k) + 1) % 2 ^ 32 ∧
          t.dev.tel = s.dev.tel)) ∧
    (∀ cmd slot, s.dev.fuses.busy = some (cmd, slot) →
      Goes (exec (.fuseProgramDone false) s) fun t =>
        t.dev.fuses.busy = none ∧ t.dev.flag Reg.AUD_FUSE_STATUS_BUSY = false ∧ t.dev.flag Reg.AUD_FUSE_STATUS_ERR = false ∧
        t.dev.fuses.now = s.dev.fuses.now ∧
        (cmd = 1 → slot = 0 → t.dev.fuses.otp.key0 = slice s.dev.fuses.stage 0 48 ∧ t.dev.fuses.otp.key1 = s.dev.fuses.otp.key1) ∧
        (cmd = 2 → t.dev.fuses.otp.revoke = setBit s.dev.fuses.otp.revoke slot true) ∧
        (cmd = 3 → t.dev.fuses.otp.svn = min 64 (s.dev.fuses.otp.svn + 1)))

/-- Frames of commands that change register words only, that only send, or that change one part of the device and no register: SLEEP_ENTER,
PAUSE_WD_TRIP, ORDERED_SET_UNKNOWN, BIND_CUT, SYNCE_SQUELCH, SYNCE_RETURN, BLOCK_RESET_DONE, PPS_OUT_FALL, MODULE_PRESENCE_POLL,
AN_PAGE_EXCHANGE_DONE, XOFF_REFRESH, OLD_VERSION_DRAINED, SPILL_EXIT, DROP_CAPTURE_REFILL, SERVICE_FRAME_SEND, LEARN_TOKEN_REFILL,
SCRUB_PASS_START, ROW_IDLE_CLOSE, BANK_REFRESH, BUS_MASTER_CHANGE, MEMORY_SPACE_ENABLE_CHANGE, VF_ENABLE, IDENT_SEND, LINK_DOWN_OS_SEND,
CREDIT_SEND, NOPATH_TIMEOUT, OCCUPANCY_RESTORE, EPOCH_CHANGE_START, TRUNK_DETACH_TIMEOUT, RX_FRAME_START, CCM_TRANSMIT, MSIX_SIGNAL,
CQ_TIMER_EXPIRE, AVS_RETRY, HEARTBEAT_SEND, TENSION_INTERVAL_CLOSE, HEALTH_SEND, PPS_OUT_EDGE, TOD_MESSAGE_SEND, WAKE_PROBE. Each goes
on, and leaves the waiting commands, every part of the device but those named and every register word but those named; the words that
follow the rest of the state and the performance counters apart (R267, R391, R566, R572). -/
def Obligations.FramesOfSmallCommands : Prop :=
  ∀ (s : State),
    (∀ p, leaves (.sleepEnter p) s (fun k => (∃ a b, k = Reg.LANE_STATUS a b) ∨ (∃ a b, k = Reg.TILE_PORT_STATUS a b)) id) ∧
    (∀ p target, leaves (.pauseWdTrip p target) s (fun k => (∃ a b, k = Reg.MAC_FC_STATUS a b) ∨
      (∃ a b c, ofReg (Reg.MAC_STAT a b c) k)) id) ∧
    (∀ p, leaves (.orderedSetUnknown p) s (fun k => k = Reg.JFL_STATUS) id) ∧
    (leaves .bindCut s (fun k => k = Reg.UNT_BIND) id) ∧
    (∀ kk, leaves (.synceSquelch kk) s (fun k => (∃ a, k = Reg.TIM_SYNCE a)) id) ∧
    (∀ kk, leaves (.synceReturn kk) s (fun k => (∃ a, k = Reg.TIM_SYNCE a)) id) ∧
    (leaves .blockResetDone s (fun k => k = Reg.GLB_BLK_RST_STATUS) id) ∧
    (leaves .ppsOutFall s (fun _ => False) id) ∧
    (∀ channel read, leaves (.modulePresencePoll channel read) s (fun k => k = Reg.SRV_STATUS ∨
      (∃ a, ofReg (Reg.SRV_MODULE a) k)) id) ∧
    (∀ p techs, leaves (.anPageExchangeDone p techs) s (fun k => (∃ a b, k = Reg.TILE_PORT_STATUS a b)) id) ∧
    (∀ p, leaves (.xoffRefresh p) s (fun k => (∃ a b c, ofReg (Reg.MAC_STAT a b c) k)) id) ∧
    (∀ g, leaves (.oldVersionDrained g) s (fun _ => False) (fun d => { d with path := {} })) ∧
    (∀ q, leaves (.spillExit q) s (fun _ => False) (fun d => { d with path := {} })) ∧
    (leaves .dropCaptureRefill s (fun _ => False) (fun d => { d with path := {} })) ∧
    (∀ desc, leaves (.serviceFrameSend desc) s (fun _ => False) (fun d => { d with path := {} })) ∧
    (leaves .learnTokenRefill s (fun _ => False) (fun d => { d with mrv := {} })) ∧
    (leaves .scrubPassStart s (fun _ => False) (fun d => { d with mrv := {} })) ∧
    (∀ kk pc b, leaves (.rowIdleClose kk pc b) s (fun _ => False) (fun d => { d with deep := {} })) ∧
    (∀ kk pc b, leaves (.bankRefresh kk pc b) s (fun _ => False) (fun d => { d with deep := {} })) ∧
    (∀ func bme d3hot, leaves (.busMasterChange func bme d3hot) s (fun _ => False) (fun d => { d with host := {} })) ∧
    (∀ func en, leaves (.memorySpaceEnableChange func en) s (fun _ => False) (fun d => { d with host := {} })) ∧
    (leaves .vfEnable s (fun _ => False) (fun d => { d with host := {} })) ∧
    (∀ p, leaves (.identSend p) s (fun _ => False) (fun d => { d with ports := [] })) ∧
    (∀ p, leaves (.linkDownOsSend p) s (fun _ => False) (fun d => { d with ports := [] })) ∧
    (∀ p kk, leaves (.creditSend p kk) s (fun _ => False) (fun d => { d with ports := [] })) ∧
    (∀ p, leaves (.nopathTimeout p) s (fun _ => False) (fun d => { d with nopath := [] })) ∧
    (∀ p, leaves (.occupancyRestore p) s (fun _ => False) (fun d => { d with ports := [] })) ∧
    (∀ t, leaves (.epochChangeStart t) s (fun _ => False) (fun d => { d with jarlis := {} })) ∧
    (∀ p, leaves (.trunkDetachTimeout p) s (fun _ => False) (fun d => { d with jarlis := {} })) ∧
    (∀ p, leaves (.rxFrameStart p) s (fun _ => False) (fun d => { d with freeCtr := 0, path := {} })) ∧
    (∀ mep, leaves (.ccmTransmit mep) s (fun _ => False) (fun d => { d with freeCtr := 0, path := {} })) ∧
    (∀ cq masked, leaves (.msixSignal cq masked) s (fun _ => False) (fun d => { d with host := {} })) ∧
    (∀ cq masked, leaves (.cqTimerExpire cq masked) s (fun _ => False) (fun d => { d with host := {} })) ∧
    (leaves .avsRetry s (fun _ => False) (fun d => { d with power := {} })) ∧
    (leaves .heartbeatSend s (fun _ => False) (fun d => { d with unit := {} })) ∧
    (∀ n, leaves (.tensionIntervalClose n) s (fun _ => False) (fun d => { d with unit := {} })) ∧
    (leaves .healthSend s (fun _ => False) (fun d => { d with unit := {} })) ∧
    (leaves .ppsOutEdge s (fun _ => False) (fun d => { d with time := {} })) ∧
    (leaves .todMessageSend s (fun _ => False) (fun d => { d with time := {} })) ∧
    (∀ p, leaves (.wakeProbe p) s (fun _ => False) (fun d => { d with ports := [], power := {} }))

/-- Frames of commands of the Skein, the Yoke, the fabric and the tables: RX_ADDRESS_COMPLETE, HEADER_CAPTURE, YOKE_CELL, SHAPER_TICK,
RECOMPUTE_START, CREDIT_RECEIVED, RESEQ_TIMEOUT, EPOCH_CHANGE_END, EPOCH_MARKER_RECEIVED, SEED_CLEAR_DONE, RESEQ_RELEASE,
EPOCH_MARKER_SEND, SPILL_WRITE_DONE, READBACK_START, DRAM_COMMAND_SLOT, STACK_POWER_DOWN, MC_COPY_EXPAND, MGMT_FRAME_DELIVER. Each goes
on, and leaves the waiting commands, every part of the device but those named and every register word but those named; the words that
follow the rest of the state and the performance counters apart (R267, R391, R566, R572). -/
def Obligations.FramesOfStitchesAndTables : Prop :=
  ∀ (s : State),
    (∀ p bytes, leaves (.rxAddressComplete p bytes) s (fun k => culletWord k ∨ (∃ a b c, ofReg (Reg.MAC_STAT a b c) k))
      (fun d => { d with path := {} })) ∧
    (∀ sl, leaves (.headerCapture sl) s (fun k => (∃ a b, ofReg (Reg.MIR_STAT a b) k)) (fun d => { d with path := {} })) ∧
    (∀ plane, leaves (.yokeCell plane) s (fun k => skeinWord k ∨ (∃ a, ofReg (Reg.XBR_STAT a) k)) (fun d => { d with path := {} })) ∧
    (leaves .shaperTick s (fun k => (∃ a b, k = Reg.SHP_TOK a b)) (fun d => { d with path := {} })) ∧
    (leaves .recomputeStart s (fun k => skeinWord k) (fun d => { d with path := {} })) ∧
    (∀ p kk freed, leaves (.creditReceived p kk freed) s (fun k => (∃ a b, k = Reg.JFL_CRED a b))
      (fun d => { d with jarlis := {} })) ∧
    (∀ t kk, leaves (.reseqTimeout t kk) s (fun k => (∃ a, ofReg (Reg.JFL_STAT a) k)) (fun d => { d with jarlis := {} })) ∧
    (∀ t, leaves (.epochChangeEnd t) s (fun k => (∃ a, k = Reg.JFL_TRUNK_STATUS a)) (fun d => { d with jarlis := {} })) ∧
    (∀ p, leaves (.epochMarkerReceived p) s (fun k => (∃ a, ofReg (Reg.JFL_STAT a) k) ∨ (∃ a, k = Reg.JFL_TRUNK_STATUS a))
      (fun d => { d with jarlis := {} })) ∧
    (leaves .seedClearDone s (fun k => k ∈ [Reg.MRV_OCC, Reg.MRV_OVF_OCC, Reg.MRV_STATUS]) (fun d => { d with mrv := {} })) ∧
    (∀ sl, leaves (.reseqRelease sl) s (fun k => skeinWord k ∨ (∃ a, ofReg (Reg.JFL_STAT a) k) ∨
      (∃ a b, ofReg (Reg.REP_STATS a b) k)) (fun d => { d with jarlis := {}, path := {} })) ∧
    (∀ t, leaves (.epochMarkerSend t) s (fun k => (∃ a, ofReg (Reg.JFL_STAT a) k) ∨ (∃ a, k = Reg.JFL_TRUNK_STATUS a) ∨
      (∃ a b c, ofReg (Reg.MAC_STAT a b c) k)) (fun d => { d with jarlis := {}, ports := [] })) ∧
    (∀ sl q, leaves (.spillWriteDone sl q) s (fun k => skeinWord k ∨ (∃ a, ofReg (Reg.DST_STAT a) k))
      (fun d => { d with deep := {}, path := {} })) ∧
    (∀ sl q, leaves (.readbackStart sl q) s (fun k => skeinWord k) (fun d => { d with deep := {}, path := {} })) ∧
    (∀ kk pc, leaves (.dramCommandSlot kk pc) s (fun _ => False) (fun d => { d with deep := {}, path := {} })) ∧
    (∀ kk, leaves (.stackPowerDown kk) s (fun k => (∃ a, k = Reg.PWR_DOM_STATUS a))
      (fun d => { d with coreSram := [], deep := {}, power := {} })) ∧
    (∀ t, leaves (.mcCopyExpand t) s (fun k => culletWord k ∨ skeinWord k ∨ (∃ a b, ofReg (Reg.REP_STATS a b) k))
      (fun d => { d with path := {}, unit := {} })) ∧
    (leaves .mgmtFrameDeliver s (fun k => culletWord k ∨ skeinWord k ∨ k = Reg.JFL_MGMT_STATUS)
      (fun d => { d with jarlis := {}, path := {}, unit := {} }))

/-- Frames of commands of the Punty link and Bind-Off: MUTE_GUARD_END, PUNTY_LINK_UP, PUNTY_LINK_DOWN, RESYNC_DONE, TAKEOVER_RECEIVED,
BIND_READY_RECEIVED, BIND_RELEASE_RECEIVED, BIND_ABORT_RECEIVED, HEALTH_RECEIVED, HEARTBEAT_RECEIVED, NAK_RECEIVED, BIND_REQ_RECEIVED,
BIND_QUEUE_RELEASE, BIND_MAX_TIMEOUT, BIND_READY_TIMEOUT, DIGEST_RECEIVED. Each goes on, and leaves the waiting commands, every part of
the device but those named and every register word but those named; the words that follow the rest of the state and the performance
counters apart (R267, R391, R566, R572). -/
def Obligations.FramesOfTheUnit : Prop :=
  ∀ (s : State),
    (leaves .muteGuardEnd s (fun k => k ∈ [Reg.UNT_PSEQ_SENT, Reg.UNT_STATUS]) (fun d => { d with unit := {} })) ∧
    (leaves .puntyLinkUp s (fun k => k ∈ [Reg.UNT_PUNTY_STATUS, Reg.UNT_STATUS] ∨ (∃ a, ofReg (Reg.UNT_STAT a) k))
      (fun d => { d with unit := {} })) ∧
    (leaves .puntyLinkDown s (fun k => k ∈ [Reg.UNT_BIND, Reg.UNT_PUNTY_STATUS, Reg.UNT_STATUS]) (fun d => { d with unit := {} })) ∧
    (leaves .resyncDone s (fun k => k = Reg.UNT_STATUS) (fun d => { d with unit := {} })) ∧
    (leaves .takeoverReceived s (fun k => (∃ a, ofReg (Reg.UNT_STAT a) k)) (fun d => { d with unit := {} })) ∧
    (leaves .bindReadyReceived s (fun k => k = Reg.UNT_BIND ∨ (∃ a, ofReg (Reg.UNT_STAT a) k)) (fun d => { d with unit := {} })) ∧
    (∀ body, leaves (.bindReleaseReceived body) s (fun k => k = Reg.UNT_BIND ∨ (∃ a, ofReg (Reg.UNT_STAT a) k))
      (fun d => { d with unit := {} })) ∧
    (leaves .bindAbortReceived s (fun k => k = Reg.UNT_BIND ∨ (∃ a, ofReg (Reg.UNT_STAT a) k)) (fun d => { d with unit := {} })) ∧
    (∀ body, leaves (.healthReceived body) s (fun k => k = Reg.UNT_PEER_HEALTH ∨ (∃ a, ofReg (Reg.UNT_STAT a) k))
      (fun d => { d with unit := {} })) ∧
    (∀ tx body, leaves (.heartbeatReceived tx body) s (fun k => k ∈ [Reg.UNT_BIND, Reg.UNT_PAIR_OFFSET] ∨
      (∃ a, ofReg (Reg.UNT_STAT a) k)) (fun d => { d with unit := {} })) ∧
    (∀ pseq, leaves (.nakReceived pseq) s (fun k => (∃ a, ofReg (Reg.UNT_STAT a) k)) (fun d => { d with unit := {} })) ∧
    (∀ cut, leaves (.bindReqReceived cut) s (fun k => k = Reg.UNT_BIND ∨ (∃ a, ofReg (Reg.UNT_STAT a) k))
      (fun d => { d with unit := {} })) ∧
    (∀ q, leaves (.bindQueueRelease q) s (fun k => k = Reg.UNT_BIND ∨ (∃ a, ofReg (Reg.UNT_STAT a) k))
      (fun d => { d with unit := {} })) ∧
    (leaves .bindMaxTimeout s (fun k => k = Reg.UNT_BIND ∨ (∃ a, ofReg (Reg.UNT_STAT a) k)) (fun d => { d with unit := {} })) ∧
    (leaves .bindReadyTimeout s (fun k => k = Reg.UNT_BIND) (fun d => { d with unit := {} })) ∧
    (∀ body, leaves (.digestReceived body) s (fun k => (∃ a, k = Reg.UNT_DIVERGED a) ∨ (∃ a, k = Reg.UNT_DRIFT a) ∨
      (∃ a, ofReg (Reg.UNT_STAT a) k)) (fun d => { d with ledger := {}, unit := {} }))

/-- Frames of commands of the host queues, DMA and the mailbox: SQ_FETCH, POST, STAMP_TIMEOUT, COMPLETION_WRITE, BUFFER_FLUSH_TIMEOUT,
INJECT_PIPELINE, INJECT_FIXED, BURST_START, REQUEST_WITHDRAW, COPY, FILL, LEARN_NOTIFY_DELIVER, AUDIT_RECORD_STREAMED, PUNT_DELIVER,
FLR, PERST_N_ASSERT, VERSION, PTP_CLOCK_SET, PTP_PORT_SET, MEP_CREATE, MEP_DELETE, MEP_STATUS, APS_LINEAR_SET, APS_RING_SET,
LEARN_STATUS, FLASH_VERIFY, FLASH_WRITE, FLASH_ERASE, JMGMT_TIMEOUT, APS_STATUS, I2C_READ, I2C_WRITE, LEDGER_READ, JMGMT,
MODULE_SURVEY_DONE, PTP_STATUS, FLASH_WORK_DONE, GAFFER_WATCHDOG, MGMT_RESPONSE_RECEIVED. Each goes on, and leaves the waiting commands,
every part of the device but those named and every register word but those named; the words that follow the rest of the state and the
performance counters apart (R267, R391, R566, R572). -/
def Obligations.FramesOfHostAndMailboxCommands : Prop :=
  ∀ (s : State),
    (∀ entries, leaves (.sqFetch entries) s (fun k => culletWord k ∨ hqWord k ∨ (∃ a, k = Reg.HQ_SQ_HEAD a))
      (fun d => { d with host := {} })) ∧
    (∀ sq, leaves (.post sq) s (fun k => hqWord k) (fun d => { d with host := {} })) ∧
    (leaves .stampTimeout s (fun k => ofReg Reg.HQ_GLB_STAT k) (fun d => { d with host := {} })) ∧
    (∀ cq, leaves (.completionWrite cq) s (fun k => hqWord k ∨ (∃ a, k = Reg.HQ_CQ_STATUS a)) (fun d => { d with host := {} })) ∧
    (∀ sq, leaves (.bufferFlushTimeout sq) s (fun k => hqWord k) (fun d => { d with host := {} })) ∧
    (∀ frame, leaves (.injectPipeline frame) s (fun k => culletWord k ∨ hqWord k) (fun d => { d with host := {}, path := {} })) ∧
    (∀ frame, leaves (.injectFixed frame) s (fun k => culletWord k ∨ hqWord k) (fun d => { d with host := {}, path := {} })) ∧
    (leaves .burstStart s (fun k => (∃ a, k = Reg.DMA_CHAN_STATUS a)) (fun d => { d with dma := {} })) ∧
    (∀ line, leaves (.requestWithdraw line) s (fun k => (∃ a, ofReg (Reg.DMA_STAT a) k)) (fun d => { d with dma := {} })) ∧
    (∀ channel, leaves (.copy channel) s (fun k => hqWord k ∨ (∃ a, ofReg (Reg.DMA_STAT a) k) ∨ (∃ a, k = Reg.POOL_CLASS a))
      (fun d => { d with dma := {}, host := {}, pool := {} })) ∧
    (∀ channel, leaves (.fill channel) s (fun k => hqWord k ∨ (∃ a, ofReg (Reg.DMA_STAT a) k) ∨ (∃ a, k = Reg.POOL_CLASS a))
      (fun d => { d with dma := {}, host := {}, pool := {} })) ∧
    (leaves .learnNotifyDeliver s (fun k => hqWord k ∨ (∃ a, ofReg (Reg.MRV_STAT a) k))
      (fun d => { d with dma := {}, host := {}, mrv := {} })) ∧
    (leaves .auditRecordStreamed s (fun k => logWord k ∨ hqWord k)
      (fun d => { d with audit := {}, dma := {}, host := {}, ledger := {} })) ∧
    (∀ stamp, leaves (.puntDeliver stamp) s (fun k => culletWord k ∨ hqWord k ∨ skeinWord k ∨ (∃ a, ofReg (Reg.EGR_STAT a) k))
      (fun d => { d with dma := {}, host := {}, path := {}, unit := {} })) ∧
    (∀ func vfDisable, leaves (.flr func vfDisable) s (fun k => culletWord k ∨ hqWord k ∨ skeinWord k ∨
      (∃ a, k = Reg.POOL_CLASS a) ∨ (∃ a b, k = Reg.POOL_RESV a b) ∨ (0x200000 ≤ k ∧ k < 0x410000))
      (fun d => { d with dma := {}, host := {}, mrv := {}, path := {}, pool := {}, unit := {} })) ∧
    (leaves .perstNAssert s (fun k => culletWord k ∨ hqWord k ∨ skeinWord k ∨ k = Reg.PWR_CLK_STATUS ∨ (∃ a, k = Reg.POOL_CLASS a) ∨
      (∃ a b, k = Reg.POOL_RESV a b) ∨ (0x200000 ≤ k ∧ k < 0x410000) ∨ (∃ r is up, regAt k = some (r, is, up) ∧ r.dom = .pcie))
      (fun d => { d with dma := {}, host := {}, mrv := {}, path := {}, pool := {}, power := {}, unit := {} })) ∧
    (∀ sq, leaves (.version sq) s (fun k => hqWord k ∨ (∃ a, ofReg (Reg.SVC_STAT a) k))
      (fun d => { d with gaffer := {}, host := {} })) ∧
    (∀ sq, leaves (.ptpClockSet sq) s (fun k => hqWord k ∨ (∃ a, ofReg (Reg.SVC_STAT a) k))
      (fun d => { d with gaffer := {}, host := {} })) ∧
    (∀ sq, leaves (.ptpPortSet sq) s (fun k => hqWord k ∨ (∃ a, ofReg (Reg.SVC_STAT a) k))
      (fun d => { d with gaffer := {}, host := {} })) ∧
    (∀ sq meg, leaves (.mepCreate sq meg) s (fun k => hqWord k ∨ (∃ a, ofReg (Reg.SVC_STAT a) k))
      (fun d => { d with gaffer := {}, host := {} })) ∧
    (∀ sq, leaves (.mepDelete sq) s (fun k => hqWord k ∨ (∃ a, ofReg (Reg.SVC_STAT a) k))
      (fun d => { d with gaffer := {}, host := {} })) ∧
    (∀ sq, leaves (.mepStatus sq) s (fun k => hqWord k ∨ (∃ a, ofReg (Reg.SVC_STAT a) k))
      (fun d => { d with gaffer := {}, host := {} })) ∧
    (∀ sq, leaves (.apsLinearSet sq) s (fun k => hqWord k ∨ (∃ a, ofReg (Reg.SVC_STAT a) k))
      (fun d => { d with gaffer := {}, host := {} })) ∧
    (∀ sq, leaves (.apsRingSet sq) s (fun k => hqWord k ∨ (∃ a, ofReg (Reg.SVC_STAT a) k))
      (fun d => { d with gaffer := {}, host := {} })) ∧
    (∀ sq, leaves (.learnStatus sq) s (fun k => hqWord k ∨ (∃ a, ofReg (Reg.SVC_STAT a) k))
      (fun d => { d with gaffer := {}, host := {} })) ∧
    (∀ sq, leaves (.flashVerify sq) s (fun k => hqWord k ∨ (∃ a, ofReg (Reg.SVC_STAT a) k))
      (fun d => { d with gaffer := {}, host := {} })) ∧
    (∀ sq data, leaves (.flashWrite sq data) s (fun k => hqWord k ∨ (∃ a, ofReg (Reg.SVC_STAT a) k))
      (fun d => { d with gaffer := {}, host := {} })) ∧
    (∀ sq, leaves (.flashErase sq) s (fun k => hqWord k ∨ (∃ a, ofReg (Reg.SVC_STAT a) k))
      (fun d => { d with gaffer := {}, host := {} })) ∧
    (leaves .jmgmtTimeout s (fun k => hqWord k ∨ (∃ a, ofReg (Reg.SVC_STAT a) k)) (fun d => { d with gaffer := {}, host := {} })) ∧
    (∀ sq, leaves (.apsStatus sq) s (fun k => hqWord k ∨ (∃ a, ofReg (Reg.SVC_STAT a) k))
      (fun d => { d with freeCtr := 0, gaffer := {}, host := {} })) ∧
    (∀ sq read, leaves (.i2cRead sq read) s (fun k => hqWord k ∨ (∃ a, ofReg (Reg.SVC_STAT a) k))
      (fun d => { d with gaffer := {}, host := {} })) ∧
    (∀ sq data ack, leaves (.i2cWrite sq data ack) s (fun k => hqWord k ∨ (∃ a, ofReg (Reg.SVC_STAT a) k))
      (fun d => { d with gaffer := {}, host := {} })) ∧
    (∀ sq, leaves (.ledgerRead sq) s (fun k => hqWord k ∨ (∃ a, ofReg (Reg.SVC_STAT a) k))
      (fun d => { d with gaffer := {}, host := {} })) ∧
    (∀ sq ops, leaves (.jmgmt sq ops) s (fun k => hqWord k ∨ (∃ a, ofReg (Reg.SVC_STAT a) k))
      (fun d => { d with gaffer := {}, host := {}, path := {} })) ∧
    (∀ master channels, leaves (.moduleSurveyDone master channels) s (fun k => hqWord k ∨ k ∈ [Reg.SRV_CTRL, Reg.SRV_STATUS] ∨
      (∃ a, ofReg (Reg.SRV_MODULE a) k) ∨ (∃ a, ofReg (Reg.SVC_STAT a) k))
      (fun d => { d with gaffer := {}, host := {}, survey := {} })) ∧
    (∀ sq, leaves (.ptpStatus sq) s (fun k => hqWord k ∨ (∃ a, ofReg (Reg.SVC_STAT a) k))
      (fun d => { d with freeCtr := 0, gaffer := {}, host := {} })) ∧
    (leaves .flashWorkDone s (fun k => hqWord k ∨ (∃ a, ofReg (Reg.SVC_STAT a) k))
      (fun d => { d with flash := {}, gaffer := {}, host := {} })) ∧
    (∀ core, leaves (.gafferWatchdog core) s (fun k => logWord k ∨ hqWord k ∨ k = Reg.SVC_STATUS ∨ (∃ a, k = Reg.SVC_CORE a) ∨
      (∃ a, ofReg (Reg.SVC_STAT a) k)) (fun d => { d with audit := {}, gaffer := {}, host := {}, ledger := {} })) ∧
    (leaves .mgmtResponseReceived s (fun k => culletWord k ∨ hqWord k ∨ skeinWord k ∨ (∃ a, ofReg (Reg.SVC_STAT a) k))
      (fun d => { d with gaffer := {}, host := {}, jarlis := {}, path := {}, unit := {} }))

/-- Frames of commands of the MACs, lanes and ports: SHED_DONE, LANE_WIDTH_RECEIVED, RX_PAUSE_FRAME, RX_PFC_FRAME, PAUSE_TIMER_EXPIRE,
PAUSE_WD_BREAK_END, STALE_DRAIN_DONE, NOT_JARLIS_RETRY, REACQUIRE_TIMEOUT, SHED_WINDOW_END, SHED_LANES_LOCKED, LANE_READY_RECEIVED,
XOFF_ASSERT, XOFF_RELEASE, IDENT_RETRY, PLL_LOCK, SLEEP_WAKE, WAKE_PROBE_END, PIPELINE_TAKE, TX_FRAME_END, RX_GATHER_BLOCK,
RX_FRAME_END, JARLIS_PAGES_RECEIVED. Each goes on, and leaves the waiting commands, every part of the device but those named and every
register word but those named; the words that follow the rest of the state and the performance counters apart (R267, R391, R566, R572). -/
def Obligations.FramesOfPortCommands : Prop :=
  ∀ (s : State),
    (∀ p, leaves (.shedDone p) s (fun k => (∃ a b, k = Reg.LANE_STATUS a b) ∨ (∃ a b, k = Reg.TILE_SHED_STATUS a b))
      (fun d => { d with ports := [] })) ∧
    (∀ p w, leaves (.laneWidthReceived p w) s (fun k => (∃ a b, k = Reg.LANE_STATUS a b) ∨ (∃ a b, k = Reg.TILE_SHED_STATUS a b))
      (fun d => { d with ports := [] })) ∧
    (∀ p, leaves (.rxPauseFrame p) s (fun k => (∃ a b, k = Reg.MAC_FC_STATUS a b) ∨ (∃ a b c, ofReg (Reg.MAC_STAT a b c) k))
      (fun d => { d with ports := [] })) ∧
    (∀ p, leaves (.rxPfcFrame p) s (fun k => (∃ a b, k = Reg.MAC_FC_STATUS a b) ∨ (∃ a b c, ofReg (Reg.MAC_STAT a b c) k))
      (fun d => { d with ports := [] })) ∧
    (∀ p target, leaves (.pauseTimerExpire p target) s (fun k => (∃ a b, k = Reg.MAC_FC_STATUS a b))
      (fun d => { d with ports := [] })) ∧
    (∀ p target, leaves (.pauseWdBreakEnd p target) s (fun k => (∃ a b, k = Reg.MAC_FC_STATUS a b))
      (fun d => { d with ports := [] })) ∧
    (∀ p, leaves (.staleDrainDone p) s (fun k => (∃ a b, k = Reg.TILE_PORT_STATUS a b)) (fun d => { d with ports := [] })) ∧
    (∀ p, leaves (.notJarlisRetry p) s (fun k => (∃ a b, k = Reg.TILE_PORT_STATUS a b)) (fun d => { d with ports := [] })) ∧
    (∀ p, leaves (.reacquireTimeout p) s (fun k => (∃ a b, k = Reg.TILE_PORT_STATUS a b)) (fun d => { d with ports := [] })) ∧
    (∀ p, leaves (.shedWindowEnd p) s (fun k => (∃ a b, k = Reg.TILE_SHED_STATUS a b)) (fun d => { d with ports := [] })) ∧
    (∀ p, leaves (.shedLanesLocked p) s (fun k => (∃ a b, k = Reg.LANE_STATUS a b)) (fun d => { d with ports := [] })) ∧
    (∀ p width, leaves (.laneReadyReceived p width) s (fun k => (∃ a b, k = Reg.LANE_STATUS a b) ∨
      (∃ a b, k = Reg.TILE_SHED_STATUS a b)) (fun d => { d with ports := [] })) ∧
    (∀ p, leaves (.xoffAssert p) s (fun k => (∃ a b, k = Reg.MAC_FC_STATUS a b) ∨ (∃ a b c, ofReg (Reg.MAC_STAT a b c) k))
      (fun d => { d with ports := [] })) ∧
    (∀ p, leaves (.xoffRelease p) s (fun k => (∃ a b, k = Reg.MAC_FC_STATUS a b) ∨ (∃ a b c, ofReg (Reg.MAC_STAT a b c) k))
      (fun d => { d with ports := [] })) ∧
    (∀ p, leaves (.identRetry p) s (fun k => (∃ a b, k = Reg.TILE_PORT_STATUS a b)) (fun d => { d with ports := [] })) ∧
    (∀ t j, leaves (.pllLock t j) s (fun k => (∃ a, k = Reg.TILE_PLL_STATUS a) ∨ (∃ a b, k = Reg.TILE_PORT_STATUS a b))
      (fun d => { d with ports := [], power := {} })) ∧
    (∀ p, leaves (.sleepWake p) s (fun k => (∃ a b, k = Reg.LANE_STATUS a b) ∨ (∃ a b, k = Reg.TILE_PORT_STATUS a b))
      (fun d => { d with ports := [], power := {} })) ∧
    (∀ p energy, leaves (.wakeProbeEnd p energy) s (fun k => (∃ a b, k = Reg.LANE_STATUS a b) ∨
      (∃ a b, k = Reg.TILE_PORT_STATUS a b)) (fun d => { d with ports := [], power := {} })) ∧
    (∀ sl, leaves (.pipelineTake sl) s (fun k => skeinWord k ∨ (∃ a, k = Reg.MAC_GATHER_STATUS a))
      (fun d => { d with jarlis := {}, path := {}, ports := [] })) ∧
    (∀ x, leaves (.txFrameEnd x) s (fun k => culletWord k ∨ skeinWord k ∨ (∃ a b c, ofReg (Reg.MAC_STAT a b c) k))
      (fun d => { d with path := {}, ports := [], unit := {} })) ∧
    (∀ p x, leaves (.rxGatherBlock p x) s (fun k => culletWord k ∨ (∃ a, k = Reg.MAC_GATHER_STATUS a) ∨
      (∃ a b c, ofReg (Reg.MAC_STAT a b c) k) ∨ (∃ a b, ofReg (Reg.TILE_FEC_CORR a b) k) ∨
      (∃ a b c, ofReg (Reg.TILE_FEC_HIST a b c) k) ∨ (∃ a b, ofReg (Reg.TILE_FEC_UNCORR a b) k))
      (fun d => { d with jarlis := {}, path := {}, ports := [], unit := {} })) ∧
    (∀ p bytes fcsOk pcs, leaves (.rxFrameEnd p bytes fcsOk pcs) s (fun k => culletWord k ∨ (∃ a, k = Reg.MAC_GATHER_STATUS a) ∨
      (∃ a b c, ofReg (Reg.MAC_STAT a b c) k) ∨ (∃ a b, ofReg (Reg.TILE_FEC_CORR a b) k) ∨
      (∃ a b c, ofReg (Reg.TILE_FEC_HIST a b c) k) ∨ (∃ a b, ofReg (Reg.TILE_FEC_UNCORR a b) k))
      (fun d => { d with jarlis := {}, path := {}, ports := [], unit := {} })) ∧
    (∀ p jver domain devid shed, leaves (.jarlisPagesReceived p jver domain devid shed) s (fun k => logWord k ∨ k = Reg.JFL_STATUS ∨
      (∃ a, k = Reg.SRV_LANE_HI a) ∨ (∃ a b, k = Reg.TILE_PORT_STATUS a b))
      (fun d => { d with audit := {}, ledger := {}, ports := [] }))

/-- Frames of commands of power, clocks, the ledger, time and the register bus: RAIL_SAMPLE, LEDGER_ERASE_DONE, DEFERRED_CHECKPOINT,
PERST_N_RELEASE, DOMAIN_AWAKE, AVS_ACK, AVS_WINDOW_NARROW, REFCLK_RETURN, HOLDOVER_TIMEOUT, TOD_MESSAGE_RECEIVED, SNAPSHOT_DONE,
TELEMETRY_SAMPLE, PCIE_POWER_DOWN, TILE_POWER_DOWN, AVS_TIMEOUT, FIRMWARE_READY, SUMMARY_CLOSE, CHECKPOINT, CHECKPOINT_DELTA_TIMEOUT,
AVS_TRANSFER, FUSE_PROGRAM_DONE, SUPPLY_WINDOW_RETURN, CPW_TIMEOUT, PPS_IN_EDGE, TEMP_SAMPLE, SUPPLY_WINDOW_CROSS, SYS_RST_N_RELEASE.
Each goes on, and leaves the waiting commands, every part of the device but those named and every register word but those named; the
words that follow the rest of the state and the performance counters apart (R267, R391, R566, R572). -/
def Obligations.FramesOfPowerAndRecords : Prop :=
  ∀ (s : State),
    (∀ mvs, leaves (.railSample mvs) s (fun k => (∃ a, k = Reg.SRV_RAIL a)) (fun d => { d with ledger := {} })) ∧
    (leaves .ledgerEraseDone s (fun k => logWord k) (fun d => { d with ledger := {} })) ∧
    (leaves .deferredCheckpoint s (fun k => logWord k) (fun d => { d with ledger := {} })) ∧
    (leaves .perstNRelease s (fun k => k = Reg.PWR_CLK_STATUS) (fun d => { d with power := {} })) ∧
    (∀ n, leaves (.domainAwake n) s (fun k => k = Reg.PWR_CLK_STATUS ∨ (∃ a, k = Reg.PWR_DOM_STATUS a) ∨
      (∃ a, k = Reg.TILE_PLL_STATUS a)) (fun d => { d with power := {} })) ∧
    (leaves .avsAck s (fun k => k = Reg.PWR_AVS) (fun d => { d with power := {} })) ∧
    (leaves .avsWindowNarrow s (fun k => (∃ a, k = Reg.SRV_RAIL_LIM a)) (fun d => { d with power := {} })) ∧
    (∀ i, leaves (.refclkReturn i) s (fun k => k = Reg.PWR_CLK_STATUS) (fun d => { d with power := {} })) ∧
    (leaves .holdoverTimeout s (fun k => k ∈ [Reg.TIM_FREQ, Reg.TIM_HOLD_FREQ, Reg.TIM_STATUS]) (fun d => { d with time := {} })) ∧
    (∀ bytes, leaves (.todMessageReceived bytes) s (fun k => (∃ a, ofReg (Reg.TIM_STAT a) k) ∨ (∃ a, k = Reg.TIM_TOD_RX a))
      (fun d => { d with time := {} })) ∧
    (leaves .snapshotDone s (fun k => k = Reg.GLB_SNAP_EPOCH ∨ (holdingOf k).isSome = true ∨ k ∈ s.dev.bus.snap.map (·.1))
      (fun d => { d with bus := {} })) ∧
    (∀ set, leaves (.telemetrySample set) s (fun k => (∃ a, k = Reg.PMC_TEL_SKIPPED a)) (fun d => { d with tel := {} })) ∧
    (leaves .pciePowerDown s (fun k => (∃ a, k = Reg.PWR_DOM_STATUS a)) (fun d => { d with coreSram := [], power := {} })) ∧
    (∀ t, leaves (.tilePowerDown t) s (fun k => (∃ a, k = Reg.PWR_DOM_STATUS a) ∨ (∃ a, k = Reg.TILE_PLL_STATUS a))
      (fun d => { d with coreSram := [], power := {} })) ∧
    (leaves .avsTimeout s (fun k => k ∈ [Reg.GLB_BOOT_STATUS, Reg.PWR_AVS]) (fun d => { d with boot := {}, power := {} })) ∧
    (∀ roles, leaves (.firmwareReady roles) s (fun k => k = Reg.SVC_STATUS ∨ (∃ a, k = Reg.PWR_DOM_STATUS a) ∨
      (∃ a, k = Reg.SVC_CORE a)) (fun d => { d with boot := {}, coreSram := [], power := {} })) ∧
    (leaves .summaryClose s (fun k => logWord k) (fun d => { d with audit := {}, ledger := {} })) ∧
    (∀ deltas, leaves (.checkpoint deltas) s (fun k => logWord k) (fun d => { d with audit := {}, ledger := {} })) ∧
    (leaves .checkpointDeltaTimeout s (fun k => logWord k) (fun d => { d with audit := {}, ledger := {} })) ∧
    (leaves .avsTransfer s (fun k => k = Reg.PWR_AVS ∨ (∃ a, k = Reg.SRV_RAIL_LIM a)) (fun d => { d with power := {} })) ∧
    (∀ err, leaves (.fuseProgramDone err) s (fun k => k = Reg.AUD_FUSE_STATUS) (fun d => { d with freeCtr := 0, fuses := {} })) ∧
    (∀ n, leaves (.supplyWindowReturn n) s (fun k => (∃ a, k = Reg.SRV_RAIL a)) (fun d => { d with ledger := {}, power := {} })) ∧
    (∀ block, leaves (.cpwTimeout block) s (fun k => logWord k ∨ k ∈ [Reg.GLB_CPW_ADDR, Reg.GLB_CPW_STATUS] ∨
      (∃ a, ofReg (Reg.GLB_STAT a) k)) (fun d => { d with audit := {}, bus := {}, ledger := {} })) ∧
    (leaves .ppsInEdge s (fun k => k ∈ [Reg.TIM_FREQ, Reg.TIM_HOLD_FREQ, Reg.TIM_STATUS] ∨ (∃ a, k = Reg.TIM_PPS_IN_TS a) ∨
      (∃ a, ofReg (Reg.TIM_STAT a) k)) (fun d => { d with stepAt := none, time := {}, tod := 0 })) ∧
    (∀ temps, leaves (.tempSample temps) s (fun k => k ∈ [Reg.GLB_BOOT_STATUS, Reg.PWR_AVS, Reg.PWR_STATUS, Reg.SRV_TEMP_MAX] ∨
      (∃ a, k = Reg.SRV_TEMP a)) (fun d => { d with boot := {}, ledger := {}, power := {} })) ∧
    (∀ n up, leaves (.supplyWindowCross n up) s (fun k => logWord k ∨ k ∈ [Reg.GLB_BOOT_STATUS, Reg.UNT_BIND, Reg.UNT_STATUS] ∨
      (∃ a, k = Reg.SRV_RAIL a)) (fun d => { d with audit := {}, boot := {}, ledger := {}, power := {}, unit := {} })) ∧
    (∀ retry single pair slot peerActLow peerRelqLow, leaves (.sysRstNRelease retry single pair slot peerActLow peerRelqLow) s (fun k => k ∈ [Reg.GLB_BOOT_STATUS, Reg.GLB_BOOT_TIME, Reg.GLB_BOOT_WARN, Reg.GLB_FLASH_WE, Reg.GLB_LOCK, Reg.PWR_CLK_STATUS, Reg.UNT_STATUS] ∨
      (∃ a, k = Reg.SRV_RAIL a)) (fun d => { d with boot := {}, fuses := {}, gaffer := {}, power := {}, unit := {} }))

/-- Frames of commands that log a change of their own: ROLE_WAIT_TIMEOUT, PEER_ACT_FALL, FAILED_REACTIVATE, BIND_DONE_RECEIVED, METER_SWEEP,
RECOMPUTE_DONE, AGE_TICK, AUDIT_BATCH_CLOSE, BIST_TEST_DONE, PEER_RELQ_LOW, CRITICAL_FAULT, SLICE_WATCHDOG, HEARTBEAT_SLOT_END,
RULE_SCRUB, STITCH_ARRIVE, HBM_CHECK_DONE, STACK_FAILURE, AGE_SWEEP_VISIT, SCRUB_REGION_DONE, WTR_EXPIRE, HOLDOFF_EXPIRE, READBACK_DONE,
INSERT, DELETE, SEARCH, NEXT, FLUSH_PORT, BULK. Each goes on, and leaves the waiting commands, every part of the device but those named
and every register word but those named; the words that follow the rest of the state and the performance counters apart (R267, R391,
R566, R572). -/
def Obligations.FramesOfLoggedChanges : Prop :=
  ∀ (s : State),
    (leaves .roleWaitTimeout s (fun k => logWord k ∨ k ∈ [Reg.UNT_PSEQ_SENT, Reg.UNT_STATUS])
      (fun d => { d with audit := {}, ledger := {}, unit := {} })) ∧
    (∀ together, leaves (.peerActFall together) s (fun k => logWord k ∨ k ∈ [Reg.UNT_BIND, Reg.UNT_PSEQ_APPLIED, Reg.UNT_STATUS] ∨
      (∃ a, ofReg (Reg.UNT_STAT a) k)) (fun d => { d with audit := {}, ledger := {}, unit := {} })) ∧
    (leaves .failedReactivate s (fun k => logWord k ∨ k ∈ [Reg.UNT_PSEQ_SENT, Reg.UNT_STATUS])
      (fun d => { d with audit := {}, ledger := {}, unit := {} })) ∧
    (leaves .bindDoneReceived s (fun k => logWord k ∨ k ∈ [Reg.UNT_BIND, Reg.UNT_PSEQ_SENT, Reg.UNT_STATUS] ∨
      (∃ a, ofReg (Reg.UNT_STAT a) k)) (fun d => { d with audit := {}, ledger := {}, unit := {} })) ∧
    (∀ sl m ecc, leaves (.meterSweep sl m ecc) s (fun k => logWord k ∨ (∃ a, k = Reg.MTR_STATUS a))
      (fun d => { d with audit := {}, ledger := {}, meters := {} })) ∧
    (leaves .recomputeDone s (fun k => logWord k ∨ skeinWord k ∨ k = Reg.BUF_STATUS)
      (fun d => { d with audit := {}, ledger := {}, path := {} })) ∧
    (leaves .ageTick s (fun k => logWord k ∨ k = Reg.MRV_AGE_NOW) (fun d => { d with audit := {}, ledger := {}, mrv := {} })) ∧
    (leaves .auditBatchClose s (fun k => logWord k) (fun d => { d with audit := {}, ledger := {}, mrv := {} })) ∧
    (∀ kind i ok lastOfPass, leaves (.bistTestDone kind i ok lastOfPass) s (fun k => logWord k ∨ skeinWord k ∨
      k ∈ [Reg.BUF_SKEIN_EFF, Reg.UNT_HEALTH] ∨ (∃ a, ofReg (Reg.UNT_STAT a) k))
      (fun d => { d with audit := {}, ledger := {}, path := {}, unit := {} })) ∧
    (leaves .peerRelqLow s (fun k => logWord k ∨ k ∈ [Reg.UNT_BIND, Reg.UNT_STATUS] ∨ (∃ a, ofReg (Reg.UNT_STAT a) k))
      (fun d => { d with audit := {}, ledger := {}, unit := {} })) ∧
    (∀ cause detail, leaves (.criticalFault cause detail) s (fun k => logWord k ∨ k ∈ [Reg.UNT_BIND, Reg.UNT_STATUS])
      (fun d => { d with audit := {}, ledger := {}, unit := {} })) ∧
    (∀ sl, leaves (.sliceWatchdog sl) s (fun k => logWord k ∨ k ∈ [Reg.UNT_BIND, Reg.UNT_STATUS])
      (fun d => { d with audit := {}, ledger := {}, unit := {} })) ∧
    (∀ actLow relqLow, leaves (.heartbeatSlotEnd actLow relqLow) s (fun k => logWord k ∨ k ∈ [Reg.UNT_BIND, Reg.UNT_STATUS] ∨
      (∃ a, ofReg (Reg.UNT_STAT a) k)) (fun d => { d with audit := {}, ledger := {}, unit := {} })) ∧
    (∀ sl r ecc, leaves (.ruleScrub sl r ecc) s (fun k => logWord k ∨ k ∈ [Reg.UNT_BIND, Reg.UNT_STATUS] ∨
      (∃ a, k = Reg.CLS_STATUS a)) (fun d => { d with audit := {}, ledger := {}, rules := {}, unit := {} })) ∧
    (∀ t plane err parityOk eccOk, leaves (.stitchArrive t plane err parityOk eccOk) s (fun k => logWord k ∨ culletWord k ∨
      skeinWord k ∨ k ∈ [Reg.BUF_SKEIN_EFF, Reg.UNT_BIND, Reg.UNT_STATUS, Reg.XBR_STATUS] ∨ (∃ a, ofReg (Reg.XBR_STAT a) k))
      (fun d => { d with audit := {}, ledger := {}, path := {}, unit := {} })) ∧
    (∀ kk pass, leaves (.hbmCheckDone kk pass) s (fun k => logWord k ∨ skeinWord k ∨
      k ∈ [Reg.BUF_DEEP_EFF, Reg.DST_STATUS, Reg.GLB_BOOT_WARN] ∨ (∃ a, k = Reg.DST_STACK a) ∨ (∃ a, ofReg (Reg.DST_STAT a) k) ∨
      (∃ a, k = Reg.PWR_DOM_STATUS a))
      (fun d => { d with audit := {}, coreSram := [], deep := {}, ledger := {}, path := {}, power := {} })) ∧
    (∀ kk cause, leaves (.stackFailure kk cause) s (fun k => logWord k ∨ skeinWord k ∨ k ∈ [Reg.BUF_DEEP_EFF, Reg.DST_STATUS] ∨
      (∃ a, k = Reg.DST_STACK a) ∨ (∃ a, ofReg (Reg.DST_STAT a) k) ∨ (∃ a, k = Reg.PWR_DOM_STATUS a))
      (fun d => { d with audit := {}, coreSram := [], deep := {}, ledger := {}, path := {}, power := {} })) ∧
    (leaves .ageSweepVisit s (fun k => logWord k ∨
      k ∈ [Reg.MRV_OCC, Reg.MRV_OVF_OCC, Reg.MRV_STATUS, Reg.MRV_TSEQ, Reg.UNT_BIND, Reg.UNT_PSEQ_SENT, Reg.UNT_STATUS] ∨
      (∃ a, ofReg (Reg.MRV_STAT a) k) ∨ (∃ a, ofReg (Reg.UNT_STAT a) k))
      (fun d => { d with audit := {}, freeCtr := 0, ledger := {}, mrv := {}, unit := {} })) ∧
    (leaves .scrubRegionDone s (fun k => logWord k ∨
      k ∈ [Reg.MRV_OCC, Reg.MRV_OVF_OCC, Reg.MRV_SCRUB, Reg.MRV_STATUS, Reg.UNT_BIND, Reg.UNT_PSEQ_SENT, Reg.UNT_STATUS] ∨
      (∃ a, ofReg (Reg.MRV_DIGEST a) k) ∨ (∃ a, ofReg (Reg.MRV_STAT a) k) ∨ (∃ a, ofReg (Reg.UNT_STAT a) k))
      (fun d => { d with audit := {}, freeCtr := 0, ledger := {}, mrv := {}, unit := {} })) ∧
    (∀ g, leaves (.wtrExpire g) s (fun k => logWord k ∨ (∃ a, ofReg (Reg.EGR_STAT a) k) ∨ (∃ a b, k = Reg.JFL_CRED a b) ∨
      (∃ a, k = Reg.PRT_GRP_STATE a) ∨ (∃ a, ofReg (Reg.PRT_STAT a) k) ∨ (∃ a b, k = Reg.SHP_TOK a b))
      (fun d => { d with audit := {}, ledger := {}, nopath := [], path := {}, unit := {} })) ∧
    (∀ g prot, leaves (.holdoffExpire g prot) s (fun k => logWord k ∨ (∃ a, ofReg (Reg.EGR_STAT a) k) ∨
      (∃ a b, k = Reg.JFL_CRED a b) ∨ (∃ a, k = Reg.PRT_GRP_STATE a) ∨ (∃ a, ofReg (Reg.PRT_STAT a) k) ∨
      (∃ a b, k = Reg.SHP_TOK a b))
      (fun d => { d with audit := {}, grpFlags := [], ledger := {}, nopath := [], path := {}, unit := {} })) ∧
    (∀ sl q ecc, leaves (.readbackDone sl q ecc) s (fun k => logWord k ∨ culletWord k ∨ skeinWord k ∨
      k ∈ [Reg.BUF_DEEP_EFF, Reg.DST_ERR, Reg.DST_STATUS] ∨ (∃ a, k = Reg.DST_STACK a) ∨ (∃ a, ofReg (Reg.DST_STAT a) k) ∨
      (∃ a, k = Reg.PWR_DOM_STATUS a))
      (fun d => { d with audit := {}, coreSram := [], deep := {}, ledger := {}, path := {}, power := {}, unit := {} })) ∧
    (∀ src cmd, leaves (.insert src cmd) s (fun k => logWord k ∨ hqWord k ∨
      k ∈ [Reg.MRV_OCC, Reg.MRV_OVF_OCC, Reg.MRV_STATUS, Reg.MRV_TSEQ, Reg.UNT_BIND, Reg.UNT_PSEQ_SENT, Reg.UNT_STATUS] ∨
      (∃ a, ofReg (Reg.MRV_STAT a) k) ∨ (∃ a, ofReg (Reg.UNT_STAT a) k))
      (fun d => { d with audit := {}, host := {}, ledger := {}, mrv := {}, sram := [], unit := {} })) ∧
    (∀ src cmd, leaves (.delete src cmd) s (fun k => logWord k ∨ hqWord k ∨
      k ∈ [Reg.MRV_OCC, Reg.MRV_OVF_OCC, Reg.MRV_STATUS, Reg.MRV_TSEQ, Reg.UNT_BIND, Reg.UNT_PSEQ_SENT, Reg.UNT_STATUS] ∨
      (∃ a, ofReg (Reg.MRV_STAT a) k) ∨ (∃ a, ofReg (Reg.UNT_STAT a) k))
      (fun d => { d with audit := {}, host := {}, ledger := {}, mrv := {}, sram := [], unit := {} })) ∧
    (∀ src cmd memOk, leaves (.search src cmd memOk) s (fun k => logWord k ∨ hqWord k ∨
      k ∈ [Reg.MRV_OCC, Reg.MRV_OVF_OCC, Reg.MRV_STATUS, Reg.MRV_TSEQ, Reg.UNT_BIND, Reg.UNT_PSEQ_SENT, Reg.UNT_STATUS] ∨
      (∃ a, ofReg (Reg.MRV_STAT a) k) ∨ (∃ a, ofReg (Reg.UNT_STAT a) k))
      (fun d => { d with audit := {}, host := {}, ledger := {}, mrv := {}, sram := [], unit := {} })) ∧
    (∀ src cmd memOk, leaves (.next src cmd memOk) s (fun k => logWord k ∨ hqWord k ∨
      k ∈ [Reg.MRV_OCC, Reg.MRV_OVF_OCC, Reg.MRV_STATUS, Reg.MRV_TSEQ, Reg.UNT_BIND, Reg.UNT_PSEQ_SENT, Reg.UNT_STATUS] ∨
      (∃ a, ofReg (Reg.MRV_STAT a) k) ∨ (∃ a, ofReg (Reg.UNT_STAT a) k))
      (fun d => { d with audit := {}, host := {}, ledger := {}, mrv := {}, sram := [], unit := {} })) ∧
    (∀ src cmd, leaves (.flushPort src cmd) s (fun k => logWord k ∨ hqWord k ∨
      k ∈ [Reg.MRV_OCC, Reg.MRV_OVF_OCC, Reg.MRV_STATUS, Reg.MRV_TSEQ, Reg.UNT_BIND, Reg.UNT_PSEQ_SENT, Reg.UNT_STATUS] ∨
      (∃ a, ofReg (Reg.MRV_STAT a) k) ∨ (∃ a, ofReg (Reg.UNT_STAT a) k))
      (fun d => { d with audit := {}, host := {}, ledger := {}, mrv := {}, sram := [], unit := {} })) ∧
    (∀ src cmd arr, leaves (.bulk src cmd arr) s (fun k => logWord k ∨ hqWord k ∨
      k ∈ [Reg.MRV_OCC, Reg.MRV_OVF_OCC, Reg.MRV_STATUS, Reg.MRV_TSEQ, Reg.UNT_BIND, Reg.UNT_PSEQ_SENT, Reg.UNT_STATUS] ∨
      (∃ a, ofReg (Reg.MRV_STAT a) k) ∨ (∃ a, ofReg (Reg.UNT_STAT a) k))
      (fun d => { d with audit := {}, host := {}, ledger := {}, mrv := {}, sram := [], unit := {} }))

/-- Frames of commands that take a frame through the device and commands that bring links up and down: FRAME_PARSE, FRAME_EDIT, ADMISSION,
TX_FRAME_START, SELECT, METER_UPDATE, FRAME_LOOKUP, PARALLEL_DETECT, TRAINING_COMPLETE, LINK_REACQUIRED, PLL_LOSS, LINK_DOWN,
RESTORE_TIMEOUT, IDENT_RECEIVED, REFCLK_LOSS, AUTO_RESURVEY, LANE_SURVEY_DONE. Each goes on, and leaves the waiting commands, every part
of the device but those named and every register word but those named; the words that follow the rest of the state and the performance
counters apart (R267, R391, R566, R572). -/
def Obligations.FramesOfThePath : Prop :=
  ∀ (s : State),
    (∀ sl, leaves (.frameParse sl) s (fun k => culletWord k ∨ hqWord k ∨ skeinWord k ∨ k = Reg.JFL_STATUS ∨
      (∃ a, ofReg (Reg.JFL_STAT a) k) ∨ (∃ a b, ofReg (Reg.MIR_STAT a b) k) ∨ (∃ a b, ofReg (Reg.PRS_STAT a b) k))
      (fun d => { d with host := {}, jarlis := {}, path := {}, unit := {} })) ∧
    (∀ sl, leaves (.frameEdit sl) s (fun k => culletWord k ∨ hqWord k ∨ skeinWord k ∨ (∃ a b, ofReg (Reg.MIR_STAT a b) k))
      (fun d => { d with host := {}, jarlis := {}, path := {}, unit := {} })) ∧
    (∀ sl, leaves (.admission sl) s (fun k => culletWord k ∨ hqWord k ∨ skeinWord k ∨ (∃ a, ofReg (Reg.JFL_STAT a) k) ∨
      (∃ a b, ofReg (Reg.MIR_STAT a b) k) ∨ (∃ a b, ofReg (Reg.REP_STATS a b) k))
      (fun d => { d with host := {}, jarlis := {}, path := {}, unit := {} })) ∧
    (∀ x, leaves (.txFrameStart x) s (fun k => culletWord k ∨ skeinWord k ∨ (∃ a, ofReg (Reg.EGR_STAT a) k) ∨
      (∃ a b, k = Reg.JFL_CRED a b) ∨ (∃ a b, k = Reg.SHP_TOK a b) ∨ (∃ a, ofReg (Reg.TIM_STAT a) k))
      (fun d => { d with host := {}, path := {}, svcRx := {}, unit := {} })) ∧
    (∀ x, leaves (.select x) s (fun k => culletWord k ∨ skeinWord k ∨ (∃ a, ofReg (Reg.EGR_STAT a) k) ∨
      (∃ a b, k = Reg.JFL_CRED a b) ∨ (∃ a b, k = Reg.SHP_TOK a b) ∨ (∃ a, ofReg (Reg.SVC_STAT a) k))
      (fun d => { d with host := {}, jarlis := {}, path := {}, svcRx := {}, unit := {} })) ∧
    (∀ sl ecc, leaves (.meterUpdate sl ecc) s (fun k => logWord k ∨ culletWord k ∨ hqWord k ∨ skeinWord k ∨
      (∃ a b, ofReg (Reg.MIR_STAT a b) k) ∨ (∃ a, k = Reg.MTR_STATUS a) ∨ (∃ a b, ofReg (Reg.MTR_STAT a b) k))
      (fun d => { d with audit := {}, host := {}, jarlis := {}, ledger := {}, meters := {}, path := {}, unit := {} })) ∧
    (∀ sl ecc, leaves (.frameLookup sl ecc) s (fun k => logWord k ∨ culletWord k ∨ hqWord k ∨ skeinWord k ∨
      k ∈ [Reg.MRV_OCC, Reg.MRV_OVF_OCC, Reg.MRV_STATUS, Reg.UNT_BIND, Reg.UNT_PSEQ_SENT, Reg.UNT_STATUS] ∨
      (∃ a, ofReg (Reg.JFL_STAT a) k) ∨ (∃ a b, ofReg (Reg.MIR_STAT a b) k) ∨ (∃ a, ofReg (Reg.MRV_STAT a) k) ∨
      (∃ a, ofReg (Reg.UNT_STAT a) k))
      (fun d => { d with audit := {}, freeCtr := 0, host := {}, jarlis := {}, ledger := {}, mrv := {}, path := {}, rules := {}, unit := {} })) ∧
    (∀ p, leaves (.parallelDetect p) s (fun k => logWord k ∨ (∃ a, ofReg (Reg.EGR_STAT a) k) ∨ (∃ a b, k = Reg.JFL_CRED a b) ∨
      (∃ a, k = Reg.JFL_TRUNK_STATUS a) ∨ (∃ a b, k = Reg.LANE_STATUS a b) ∨ (∃ a, k = Reg.PRT_GRP_STATE a) ∨
      (∃ a, ofReg (Reg.PRT_STAT a) k) ∨ (∃ a b, k = Reg.SHP_TOK a b) ∨ (∃ a b, k = Reg.TILE_PORT_STATUS a b) ∨
      (∃ a b, k = Reg.TILE_SHED_STATUS a b))
      (fun d => { d with audit := {}, grpFlags := [], jarlis := {}, ledger := {}, nopath := [], path := {}, ports := [], unit := {} })) ∧
    (∀ p, leaves (.trainingComplete p) s (fun k => logWord k ∨ (∃ a, ofReg (Reg.EGR_STAT a) k) ∨ (∃ a b, k = Reg.JFL_CRED a b) ∨
      (∃ a, k = Reg.JFL_TRUNK_STATUS a) ∨ (∃ a b, k = Reg.LANE_STATUS a b) ∨ (∃ a, k = Reg.PRT_GRP_STATE a) ∨
      (∃ a, ofReg (Reg.PRT_STAT a) k) ∨ (∃ a b, k = Reg.SHP_TOK a b) ∨ (∃ a b, k = Reg.TILE_PORT_STATUS a b) ∨
      (∃ a b, k = Reg.TILE_SHED_STATUS a b))
      (fun d => { d with audit := {}, grpFlags := [], jarlis := {}, ledger := {}, nopath := [], path := {}, ports := [], unit := {} })) ∧
    (∀ p, leaves (.linkReacquired p) s (fun k => logWord k ∨ (∃ a, ofReg (Reg.EGR_STAT a) k) ∨ (∃ a b, k = Reg.JFL_CRED a b) ∨
      (∃ a, k = Reg.JFL_TRUNK_STATUS a) ∨ (∃ a b, k = Reg.LANE_STATUS a b) ∨ (∃ a, k = Reg.PRT_GRP_STATE a) ∨
      (∃ a, ofReg (Reg.PRT_STAT a) k) ∨ (∃ a b, k = Reg.SHP_TOK a b) ∨ (∃ a b, k = Reg.TILE_PORT_STATUS a b) ∨
      (∃ a b, k = Reg.TILE_SHED_STATUS a b))
      (fun d => { d with audit := {}, grpFlags := [], jarlis := {}, ledger := {}, nopath := [], path := {}, ports := [], unit := {} })) ∧
    (∀ n, leaves (.pllLoss n) s (fun k => logWord k ∨ culletWord k ∨ skeinWord k ∨
      k ∈ [Reg.PWR_CLK_STATUS, Reg.UNT_BIND, Reg.UNT_STATUS] ∨ (∃ a, ofReg (Reg.EGR_STAT a) k) ∨ (∃ a b, k = Reg.JFL_CRED a b) ∨
      (∃ a, k = Reg.JFL_TRUNK_STATUS a) ∨ (∃ a b, k = Reg.LANE_STATUS a b) ∨ (∃ a, k = Reg.MAC_GATHER_STATUS a) ∨
      (∃ a b c, ofReg (Reg.MAC_STAT a b c) k) ∨ (∃ a, k = Reg.PRT_GRP_STATE a) ∨ (∃ a, ofReg (Reg.PRT_STAT a) k) ∨
      (∃ a b, k = Reg.SHP_TOK a b) ∨ (∃ a, k = Reg.TILE_PLL_STATUS a) ∨ (∃ a b, k = Reg.TILE_PORT_STATUS a b) ∨
      (∃ a b, k = Reg.TILE_SHED_STATUS a b))
      (fun d => { d with audit := {}, grpFlags := [], jarlis := {}, ledger := {}, nopath := [], path := {}, ports := [], unit := {} })) ∧
    (∀ x, leaves (.linkDown x) s (fun k => logWord k ∨ culletWord k ∨ skeinWord k ∨ (∃ a, ofReg (Reg.EGR_STAT a) k) ∨
      (∃ a b, k = Reg.JFL_CRED a b) ∨ (∃ a, k = Reg.JFL_TRUNK_STATUS a) ∨ (∃ a b, k = Reg.LANE_STATUS a b) ∨
      (∃ a, k = Reg.MAC_GATHER_STATUS a) ∨ (∃ a b c, ofReg (Reg.MAC_STAT a b c) k) ∨ (∃ a, k = Reg.PRT_GRP_STATE a) ∨
      (∃ a, ofReg (Reg.PRT_STAT a) k) ∨ (∃ a b, k = Reg.SHP_TOK a b) ∨ (∃ a b, k = Reg.TILE_PORT_STATUS a b) ∨
      (∃ a b, k = Reg.TILE_SHED_STATUS a b))
      (fun d => { d with audit := {}, grpFlags := [], jarlis := {}, ledger := {}, nopath := [], path := {}, ports := [], unit := {} })) ∧
    (∀ p, leaves (.restoreTimeout p) s (fun k => logWord k ∨ culletWord k ∨ skeinWord k ∨ (∃ a, ofReg (Reg.EGR_STAT a) k) ∨
      (∃ a b, k = Reg.JFL_CRED a b) ∨ (∃ a, k = Reg.JFL_TRUNK_STATUS a) ∨ (∃ a b, k = Reg.LANE_STATUS a b) ∨
      (∃ a, k = Reg.MAC_GATHER_STATUS a) ∨ (∃ a b c, ofReg (Reg.MAC_STAT a b c) k) ∨ (∃ a, k = Reg.PRT_GRP_STATE a) ∨
      (∃ a, ofReg (Reg.PRT_STAT a) k) ∨ (∃ a b, k = Reg.SHP_TOK a b) ∨ (∃ a b, k = Reg.TILE_PORT_STATUS a b) ∨
      (∃ a b, k = Reg.TILE_SHED_STATUS a b))
      (fun d => { d with audit := {}, grpFlags := [], jarlis := {}, ledger := {}, nopath := [], path := {}, ports := [], unit := {} })) ∧
    (∀ p identB payload, leaves (.identReceived p identB payload) s (fun k => logWord k ∨ culletWord k ∨ skeinWord k ∨
      k = Reg.JFL_STATUS ∨ (∃ a, ofReg (Reg.EGR_STAT a) k) ∨ (∃ a b, k = Reg.JFL_CRED a b) ∨ (∃ a, k = Reg.JFL_TRUNK_STATUS a) ∨
      (∃ a b, k = Reg.LANE_STATUS a b) ∨ (∃ a, k = Reg.MAC_GATHER_STATUS a) ∨ (∃ a b c, ofReg (Reg.MAC_STAT a b c) k) ∨
      (∃ a, k = Reg.PRT_GRP_STATE a) ∨ (∃ a, ofReg (Reg.PRT_STAT a) k) ∨ (∃ a b, k = Reg.SHP_TOK a b) ∨ (∃ a, k = Reg.SRV_LANE_HI a) ∨
      (∃ a b, k = Reg.TILE_PORT_STATUS a b) ∨ (∃ a b, k = Reg.TILE_SHED_STATUS a b))
      (fun d => { d with audit := {}, grpFlags := [], jarlis := {}, ledger := {}, nopath := [], path := {}, ports := [], unit := {} })) ∧
    (∀ i, leaves (.refclkLoss i) s (fun k => logWord k ∨ culletWord k ∨ skeinWord k ∨
      k ∈ [Reg.PWR_CLK_STATUS, Reg.UNT_BIND, Reg.UNT_PUNTY_STATUS, Reg.UNT_STATUS] ∨ (∃ a, ofReg (Reg.EGR_STAT a) k) ∨
      (∃ a b, k = Reg.JFL_CRED a b) ∨ (∃ a, k = Reg.JFL_TRUNK_STATUS a) ∨ (∃ a b, k = Reg.LANE_STATUS a b) ∨
      (∃ a, k = Reg.MAC_GATHER_STATUS a) ∨ (∃ a b c, ofReg (Reg.MAC_STAT a b c) k) ∨ (∃ a, k = Reg.PRT_GRP_STATE a) ∨
      (∃ a, ofReg (Reg.PRT_STAT a) k) ∨ (∃ a b, k = Reg.SHP_TOK a b) ∨ (∃ a, k = Reg.TILE_PLL_STATUS a) ∨
      (∃ a b, k = Reg.TILE_PORT_STATUS a b) ∨ (∃ a b, k = Reg.TILE_SHED_STATUS a b))
      (fun d => { d with audit := {}, grpFlags := [], jarlis := {}, ledger := {}, nopath := [], path := {}, ports := [], power := {}, unit := {} })) ∧
    (∀ p, leaves (.autoResurvey p) s (fun k => logWord k ∨ culletWord k ∨ skeinWord k ∨ k ∈ [Reg.SRV_CTRL, Reg.SRV_STATUS] ∨
      (∃ a, ofReg (Reg.EGR_STAT a) k) ∨ (∃ a b, k = Reg.JFL_CRED a b) ∨ (∃ a, k = Reg.JFL_TRUNK_STATUS a) ∨
      (∃ a b, k = Reg.LANE_STATUS a b) ∨ (∃ a, k = Reg.MAC_GATHER_STATUS a) ∨ (∃ a b c, ofReg (Reg.MAC_STAT a b c) k) ∨
      (∃ a, k = Reg.PRT_GRP_STATE a) ∨ (∃ a, ofReg (Reg.PRT_STAT a) k) ∨ (∃ a b, k = Reg.SHP_TOK a b) ∨
      (∃ a b, k = Reg.TILE_PORT_STATUS a b) ∨ (∃ a b, k = Reg.TILE_SHED_STATUS a b))
      (fun d => { d with audit := {}, grpFlags := [], jarlis := {}, ledger := {}, nopath := [], path := {}, ports := [], power := {}, survey := {}, unit := {} })) ∧
    (∀ lane state extrap sat il len pos rho an techs pages, leaves (.laneSurveyDone lane state extrap sat il len pos rho an techs pages) s (fun k => logWord k ∨
      culletWord k ∨ hqWord k ∨ skeinWord k ∨ k ∈ [Reg.SRV_CTRL, Reg.SRV_STATUS, Reg.UNT_PSEQ_SENT] ∨
      (∃ a, ofReg (Reg.EGR_STAT a) k) ∨ (∃ a b, k = Reg.JFL_CRED a b) ∨ (∃ a, k = Reg.JFL_TRUNK_STATUS a) ∨
      (∃ a b, k = Reg.LANE_STATUS a b) ∨ (∃ a, k = Reg.MAC_GATHER_STATUS a) ∨ (∃ a b c, ofReg (Reg.MAC_STAT a b c) k) ∨
      (∃ a, k = Reg.PRT_GRP_STATE a) ∨ (∃ a, ofReg (Reg.PRT_STAT a) k) ∨ (∃ a b, k = Reg.SHP_TOK a b) ∨
      (∃ a, ofReg (Reg.SRV_LANE_HI a) k) ∨ (∃ a, ofReg (Reg.SRV_LANE_LO a) k) ∨ (∃ a, ofReg (Reg.SVC_STAT a) k) ∨
      (∃ a, k = Reg.TILE_PLL_STATUS a) ∨ (∃ a b, k = Reg.TILE_PORT_CFG a b) ∨ (∃ a b, k = Reg.TILE_PORT_STATUS a b) ∨
      (∃ a b, k = Reg.TILE_SHED_STATUS a b) ∨ (∃ a, ofReg (Reg.UNT_STAT a) k))
      (fun d => { d with audit := {}, gaffer := {}, grpFlags := [], host := {}, jarlis := {}, ledger := {}, nopath := [], path := {}, ports := [], power := {}, survey := {}, unit := {} }))

/-- Frames of writes of the registers of tiles, lanes and MACs: PORT_ENABLE, PORT_CHANGE, PORT_DELETE, PORT_OPTION_CHANGE, TXMAP_WRITE,
LANE_CTRL_WRITE, MAX_LEN_WRITE, FC_MODE_WRITE, PFC_MAP_WRITE. Whatever becomes of the write, the command goes on, and leaves the waiting
commands, every part of the device but those named and every register word but those of its block, those named and those that any write
may change; the words that follow the rest of the state and the performance counters apart (R267, R391, R566, R572). -/
def Obligations.FramesOfPortWrites : Prop :=
  ∀ (s : State),
    (let words : Nat → Prop := fun k => busWord k ∨ (0x800000 ≤ k ∧ k < 0xC00000) ∨ culletWord k ∨ skeinWord k ∨ (∃ a, ofReg (Reg.EGR_STAT a) k) ∨
        (∃ a b, k = Reg.JFL_CRED a b) ∨ (∃ a, k = Reg.JFL_TRUNK_STATUS a) ∨ (∃ a, k = Reg.PRT_GRP_STATE a) ∨
        (∃ a, ofReg (Reg.PRT_STAT a) k) ∨ (∃ a b, k = Reg.SHP_TOK a b) ∨ (∃ a, k = Reg.SRV_LANE_LO a);
      let parts : Device → Device := fun d => { d with
        audit := {}, bus := {}, ledger := {}, unit := {}, grpFlags := [], jarlis := {}, nopath := [], path := {},
        ports := [], power := {}, survey := {} };
      (∀ rq p cfg, leaves (.portEnable rq p cfg) s words parts) ∧
      (∀ rq p cfg, leaves (.portChange rq p cfg) s words parts) ∧
      (∀ rq p cfg, leaves (.portDelete rq p cfg) s words parts) ∧
      (∀ rq p policy shed sleep probe, leaves (.portOptionChange rq p policy shed sleep probe) s words parts) ∧
      (∀ rq t data, leaves (.txmapWrite rq t data) s words parts) ∧
      (∀ rq lane data, leaves (.laneCtrlWrite rq lane data) s words parts) ∧
      (∀ rq p len, leaves (.maxLenWrite rq p len) s words parts) ∧
      (∀ rq p mode, leaves (.fcModeWrite rq p mode) s words parts) ∧
      (∀ rq p prio data, leaves (.pfcMapWrite rq p prio data) s words parts))

/-- Frames of writes of the rule tables, the meters, the multicast tables, the Skein, mirroring, egress and the seed: RULE_WORD_WRITE,
RULE_COMMIT, RULE_INVALIDATE, METER_STAGE_WRITE, METER_COMMIT, METER_FIELD_LOAD, GROUP_VERSION_WRITE, GROUP_COMMIT, BUF_QUEUE_WRITE,
MIRROR_SESSION_WRITE, EGRESS_CFG_WRITE, SEED_WRITE. Whatever becomes of the write, the command goes on, and leaves the waiting commands,
every part of the device but those named and every register word but those of its block, those named and those that any write may
change; the words that follow the rest of the state and the performance counters apart (R267, R391, R566, R572). -/
def Obligations.FramesOfTableWrites : Prop :=
  ∀ (s : State),
    (let words : Nat → Prop := fun k => busWord k ∨ (0xC00000 ≤ k ∧ k < 0xD00000);
      let parts : Device → Device := fun d => { d with
        audit := {}, bus := {}, ledger := {}, unit := {}, rules := {} };
      (∀ rq sl r w data, leaves (.ruleWordWrite rq sl r w data) s words parts) ∧
      (∀ rq sl r, leaves (.ruleCommit rq sl r) s words parts) ∧
      (∀ rq sl r, leaves (.ruleInvalidate rq sl r) s words parts)) ∧
    (let words : Nat → Prop := fun k => busWord k ∨ (0xC00000 ≤ k ∧ k < 0xD00000);
      let parts : Device → Device := fun d => { d with
        audit := {}, bus := {}, ledger := {}, unit := {}, meters := {} };
      (∀ rq sl m w data, leaves (.meterStageWrite rq sl m w data) s words parts) ∧
      (∀ rq sl m data, leaves (.meterCommit rq sl m data) s words parts) ∧
      (∀ rq sl m w data hwClock, leaves (.meterFieldLoad rq sl m w data hwClock) s words parts)) ∧
    (let words : Nat → Prop := fun k => busWord k ∨ (0xC00000 ≤ k ∧ k < 0xD00000);
      let parts : Device → Device := fun d => { d with
        audit := {}, bus := {}, ledger := {}, unit := {}, path := {} };
      (∀ rq sl a data, leaves (.groupVersionWrite rq sl a data) s words parts) ∧
      (∀ rq sl g, leaves (.groupCommit rq sl g) s words parts)) ∧
    (let words : Nat → Prop := fun k => busWord k ∨ (0xD80000 ≤ k ∧ k < 0xE00000);
      let parts : Device → Device := fun d => { d with
        audit := {}, bus := {}, ledger := {}, unit := {}, path := {} };
      (∀ rq q w data, leaves (.bufQueueWrite rq q w data) s words parts)) ∧
    (let words : Nat → Prop := fun k => busWord k ∨ (0xD00000 ≤ k ∧ k < 0xD80000);
      let parts : Device → Device := fun d => { d with
        audit := {}, bus := {}, ledger := {}, unit := {}, path := {} };
      (∀ rq n w data, leaves (.mirrorSessionWrite rq n w data) s words parts)) ∧
    (let words : Nat → Prop := fun k => busWord k ∨ (0xE00000 ≤ k ∧ k < 0xF00000);
      let parts : Device → Device := fun d => { d with
        audit := {}, bus := {}, ledger := {}, unit := {}, path := {} };
      (∀ rq l w data, leaves (.egressCfgWrite rq l w data) s words parts)) ∧
    (let words : Nat → Prop := fun k => busWord k ∨ (0x1000000 ≤ k ∧ k < 0x1100000);
      let parts : Device → Device := fun d => { d with
        audit := {}, bus := {}, ledger := {}, unit := {}, mrv := {} };
      (∀ rq v, leaves (.seedWrite rq v) s words parts))

/-- Frames of writes of the fabric, protection, the unit and the time unit: JARLIS_ID_WRITE, TRUNK_ENABLE, TRUNK_DISABLE,
TRUNK_MEMBERS_WRITE, PRT_BIND_WRITE, PRT_GRP_WRITE, LOCKOUT, FORCE, MANUAL, CLEAR, SF_W_SET, SF_W_CLR, SF_P_SET, SF_P_CLR,
PUNTY_CFG_WRITE, RESYNC, RELINQUISH, BIND_OFF, TOD_STEP, OFFSET_WRITE, HOLD, ACQUIRE. Whatever becomes of the write, the command goes
on, and leaves the waiting commands, every part of the device but those named and every register word but those of its block, those
named and those that any write may change; the words that follow the rest of the state and the performance counters apart (R267, R391,
R566, R572). -/
def Obligations.FramesOfFabricAndUnitWrites : Prop :=
  ∀ (s : State),
    (let words : Nat → Prop := fun k => busWord k ∨ (0xF00000 ≤ k ∧ k < 0x1000000) ∨ culletWord k ∨ skeinWord k ∨ (∃ a, ofReg (Reg.EGR_STAT a) k) ∨
        (∃ a b, k = Reg.LANE_STATUS a b) ∨ (∃ a, k = Reg.MAC_GATHER_STATUS a) ∨ (∃ a b c, ofReg (Reg.MAC_STAT a b c) k) ∨
        (∃ a, k = Reg.PRT_GRP_STATE a) ∨ (∃ a, ofReg (Reg.PRT_STAT a) k) ∨ (∃ a b, k = Reg.SHP_TOK a b) ∨
        (∃ a b, k = Reg.TILE_PORT_STATUS a b) ∨ (∃ a b, k = Reg.TILE_SHED_STATUS a b);
      let parts : Device → Device := fun d => { d with
        audit := {}, bus := {}, ledger := {}, unit := {}, grpFlags := [], jarlis := {}, nopath := [], path := {},
        ports := [] };
      (∀ rq domain devid, leaves (.jarlisIdWrite rq domain devid) s words parts) ∧
      (∀ rq t slice window, leaves (.trunkEnable rq t slice window) s words parts) ∧
      (∀ rq t, leaves (.trunkDisable rq t) s words parts) ∧
      (∀ rq t members, leaves (.trunkMembersWrite rq t members) s words parts)) ∧
    (let words : Nat → Prop := fun k => busWord k ∨ (0x71000 ≤ k ∧ k < 0x80000) ∨ k ∈ [Reg.UNT_BIND, Reg.UNT_PUNTY_STATUS, Reg.UNT_STATUS] ∨
        (∃ a, ofReg (Reg.EGR_STAT a) k) ∨ (∃ a b, k = Reg.JFL_CRED a b) ∨ (∃ a b, k = Reg.SHP_TOK a b) ∨
        (∃ a, k = Reg.REP_STATUS a) ∨ (∃ a, k = Reg.TILE_CFG_ERR a);
      let parts : Device → Device := fun d => { d with
        audit := {}, bus := {}, ledger := {}, unit := {}, grpFlags := [], nopath := [], path := {} };
      (∀ rq p data, leaves (.prtBindWrite rq p data) s words parts) ∧
      (∀ rq g data, leaves (.prtGrpWrite rq g data) s words parts) ∧
      (∀ rq g hwClock, leaves (.lockout rq g hwClock) s words parts) ∧
      (∀ rq g hwClock, leaves (.force rq g hwClock) s words parts) ∧
      (∀ rq g hwClock, leaves (.manual rq g hwClock) s words parts) ∧
      (∀ rq g hwClock, leaves (.clearRequest rq g hwClock) s words parts) ∧
      (∀ rq g hwClock, leaves (.sfWSet rq g hwClock) s words parts) ∧
      (∀ rq g hwClock, leaves (.sfWClr rq g hwClock) s words parts) ∧
      (∀ rq g hwClock, leaves (.sfPSet rq g hwClock) s words parts) ∧
      (∀ rq g hwClock, leaves (.sfPClr rq g hwClock) s words parts)) ∧
    (let words : Nat → Prop := fun k => busWord k ∨ (0x70000 ≤ k ∧ k < 0x71000) ∨ k = Reg.PRT_STATUS ∨ (∃ a, ofReg (Reg.EGR_STAT a) k) ∨
        (∃ a b, k = Reg.JFL_CRED a b) ∨ (∃ a, k = Reg.PRT_BIND a) ∨ (∃ a, k = Reg.PRT_GRP_CFG a) ∨ (∃ a, k = Reg.PRT_GRP_STATE a) ∨
        (∃ a, ofReg (Reg.PRT_STAT a) k) ∨ (∃ a b, k = Reg.SHP_TOK a b);
      let parts : Device → Device := fun d => { d with
        audit := {}, bus := {}, ledger := {}, unit := {}, grpFlags := [], nopath := [], path := {} };
      (∀ rq data, leaves (.puntyCfgWrite rq data) s words parts) ∧
      (∀ rq hwClock, leaves (.resync rq hwClock) s words parts) ∧
      (∀ rq hwClock, leaves (.relinquish rq hwClock) s words parts) ∧
      (∀ rq hwClock, leaves (.bindOff rq hwClock) s words parts)) ∧
    (let words : Nat → Prop := fun k => busWord k ∨ (0x60000 ≤ k ∧ k < 0x70000);
      let parts : Device → Device := fun d => { d with
        audit := {}, bus := {}, ledger := {}, unit := {}, stepAt := none, time := {}, tod := 0 };
      (∀ rq sec ns frac, leaves (.todStep rq sec ns frac) s words parts) ∧
      (∀ rq offset, leaves (.offsetWrite rq offset) s words parts) ∧
      (∀ rq, leaves (.hold rq) s words parts) ∧
      (∀ rq, leaves (.acquire rq) s words parts))

/-- Frames of writes of the Survey, the deep store, the host queues, the pools, the audit trail, the ledger, the counters, the fuses, the
snapshot and the lock: SURVEY_LANES, SURVEY_MODULES, OFFLINE, TEST, RECOVER, POWER_OFF, DST_DLY_WRITE, DST_TEST_WRITE, HQ_OWNER_WRITE,
CQ_ENABLE, SQ_ENABLE, SQ_DOORBELL, CQ_DOORBELL, POOL_ALLOC, POOL_FREE, AUDIT_STREAM_WRITE, CHECKPOINT_NOW, LEDGER_ERASE, PMC_SEL_WRITE,
SNAPSHOT, FUSE_WRITE_KEYHASH, FUSE_REVOKE_KEY, FUSE_BURN_SVN, TILE_RESET, GAFFER_CORE_RESET, PMC_RESET, SET_PREF, LOCK_SET,
LOCK_RELEASE, FLASH_WE_WRITE. Whatever becomes of the write, the command goes on, and leaves the waiting commands, every part of the
device but those named and every register word but those of its block, those named and those that any write may change; the words that
follow the rest of the state and the performance counters apart (R267, R391, R566, R572). -/
def Obligations.FramesOfSystemWrites : Prop :=
  ∀ (s : State),
    (let words : Nat → Prop := fun k => busWord k ∨ (0x30000 ≤ k ∧ k < 0x40000) ∨ culletWord k ∨ skeinWord k ∨ (∃ a, ofReg (Reg.EGR_STAT a) k) ∨
        (∃ a b, k = Reg.JFL_CRED a b) ∨ (∃ a, k = Reg.JFL_TRUNK_STATUS a) ∨ (∃ a b, k = Reg.LANE_STATUS a b) ∨
        (∃ a, k = Reg.MAC_GATHER_STATUS a) ∨ (∃ a b c, ofReg (Reg.MAC_STAT a b c) k) ∨ (∃ a, k = Reg.PRT_GRP_STATE a) ∨
        (∃ a, ofReg (Reg.PRT_STAT a) k) ∨ (∃ a b, k = Reg.SHP_TOK a b) ∨ (∃ a b, k = Reg.TILE_PORT_STATUS a b) ∨
        (∃ a b, k = Reg.TILE_SHED_STATUS a b);
      let parts : Device → Device := fun d => { d with
        audit := {}, bus := {}, ledger := {}, unit := {}, grpFlags := [], jarlis := {}, nopath := [], path := {},
        ports := [], power := {}, survey := {} };
      (∀ rq first last resolve auto, leaves (.surveyLanes rq first last resolve auto) s words parts) ∧
      (∀ rq, leaves (.surveyModules rq) s words parts)) ∧
    (let words : Nat → Prop := fun k => busWord k ∨ (0x430000 ≤ k ∧ k < 0x440000) ∨ skeinWord k ∨ k = Reg.BUF_DEEP_EFF ∨ (∃ a, k = Reg.PWR_DOM_STATUS a);
      let parts : Device → Device := fun d => { d with
        audit := {}, bus := {}, ledger := {}, unit := {}, coreSram := [], deep := {}, path := {}, power := {} };
      (∀ rq kk, leaves (.offline rq kk) s words parts) ∧
      (∀ rq kk, leaves (.stackTest rq kk) s words parts) ∧
      (∀ rq kk, leaves (.recover rq kk) s words parts) ∧
      (∀ rq kk, leaves (.powerOff rq kk) s words parts) ∧
      (∀ rq kk w data, leaves (.dstDlyWrite rq kk w data) s words parts) ∧
      (∀ rq slot w data, leaves (.dstTestWrite rq slot w data) s words parts)) ∧
    (let words : Nat → Prop := fun k => busWord k ∨ (0x200000 ≤ k ∧ k < 0x400000);
      let parts : Device → Device := fun d => { d with
        audit := {}, bus := {}, ledger := {}, unit := {} };
      (∀ rq n data, leaves (.hqOwnerWrite rq n data) s words parts) ∧
      (∀ rq n data, leaves (.cqEnable rq n data) s words parts) ∧
      (∀ rq n data, leaves (.sqEnable rq n data) s words parts) ∧
      (∀ rq n tail, leaves (.sqDoorbell rq n tail) s words parts) ∧
      (∀ rq n data, leaves (.cqDoorbell rq n data) s words parts)) ∧
    (let words : Nat → Prop := fun k => busWord k ∨ (0x410000 ≤ k ∧ k < 0x420000);
      let parts : Device → Device := fun d => { d with
        audit := {}, bus := {}, ledger := {}, unit := {}, pool := {} };
      (∀ rq o size, leaves (.poolAlloc rq o size) s words parts) ∧
      (∀ rq o handle, leaves (.poolFree rq o handle) s words parts)) ∧
    (let words : Nat → Prop := fun k => busWord k;
      let parts : Device → Device := fun d => { d with
        audit := {}, bus := {}, ledger := {}, unit := {} };
      (∀ rq stream, leaves (.auditStreamWrite rq stream) s words parts) ∧
      (∀ rq, leaves (.checkpointNow rq) s words parts) ∧
      (∀ rq v, leaves (.ledgerErase rq v) s words parts)) ∧
    (let words : Nat → Prop := fun k => busWord k ∨ k = Reg.GLB_SNAP_EPOCH ∨ (∃ a, k = Reg.GLB_SNAP_TS a);
      let parts : Device → Device := fun d => { d with
        audit := {}, bus := {}, ledger := {}, unit := {} };
      (∀ rq n data, leaves (.pmcSelWrite rq n data) s words parts) ∧
      (∀ rq sets, leaves (.snapshot rq sets) s words parts)) ∧
    (let words : Nat → Prop := fun k => busWord k ∨ k = Reg.AUD_FUSE_STATUS;
      let parts : Device → Device := fun d => { d with
        audit := {}, bus := {}, ledger := {}, unit := {}, fuses := {} };
      (∀ rq slot, leaves (.fuseWriteKeyhash rq slot) s words parts) ∧
      (∀ rq slot, leaves (.fuseRevokeKey rq slot) s words parts) ∧
      (∀ rq slot, leaves (.fuseBurnSvn rq slot) s words parts)) ∧
    (let words : Nat → Prop := fun k => busWord k ∨ (k < 0x1000) ∨ (0x800000 ≤ k ∧ k < 0xC00000) ∨ culletWord k ∨ hqWord k ∨ skeinWord k ∨
        k = Reg.SVC_STATUS ∨ (∃ a, ofReg (Reg.EGR_STAT a) k) ∨ (∃ a b, k = Reg.JFL_CRED a b) ∨ (∃ a, k = Reg.JFL_TRUNK_STATUS a) ∨
        (∃ a, k = Reg.POOL_CLASS a) ∨ (∃ a b, k = Reg.POOL_RESV a b) ∨ (∃ a, k = Reg.PRT_GRP_STATE a) ∨
        (∃ a, ofReg (Reg.PRT_STAT a) k) ∨ (∃ a b, k = Reg.SHP_TOK a b) ∨ (∃ a, k = Reg.SVC_CORE a) ∨ (∃ a, ofReg (Reg.SVC_STAT a) k);
      let parts : Device → Device := fun d => { d with
        audit := {}, bus := {}, ledger := {}, unit := {}, dma := {}, gaffer := {}, grpFlags := [], host := {},
        jarlis := {}, nopath := [], path := {}, pool := {}, ports := [], power := {}, tel := {} };
      (∀ rq t, leaves (.tileReset rq t) s words parts) ∧
      (∀ rq n, leaves (.gafferCoreReset rq n) s words parts) ∧
      (∀ rq, leaves (.pmcReset rq) s words parts)) ∧
    (let words : Nat → Prop := fun k => busWord k ∨ (k < 0x1000);
      let parts : Device → Device := fun d => { d with
        audit := {}, bus := {}, ledger := {}, unit := {}, boot := {} };
      (∀ rq slot clr, leaves (.setPref rq slot clr) s words parts) ∧
      (∀ rq, leaves (.lockSet rq) s words parts) ∧
      (∀ rq, leaves (.lockRelease rq) s words parts) ∧
      (∀ rq a b, leaves (.flashWeWrite rq a b) s words parts))

/-- SYS_RST_N. Asserted, it returns every register to its reset value and empties every FIFO and buffer (R41); the ledger's memory and the
flash keep what they hold while no checkpoint and no flash work is cut short. Released with every supply in its window, it samples
the straps and starts Cast-On at step 1 (R42, R61). -/
def Obligations.SysReset : Prop :=
  ∀ (s : State),
    Goes (exec .sysRstNAssert s) (fun t =>
      (∀ k, k ∉ shownRegs → t.dev.rd k = (regDflt k).toNat) ∧ t.dev.ports = [] ∧ t.dev.path = {} ∧ t.dev.mrv = {} ∧ t.dev.host = {} ∧
        t.dev.boot = {} ∧ t.dev.audit = {} ∧ t.dev.unit.released = false ∧ t.dev.fuses.busy = none ∧
        (s.dev.ledger.ckptRun = false → t.dev.ledger.mem = s.dev.ledger.mem) ∧
        (s.dev.gaffer.flashOp = none → t.dev.flash = s.dev.flash) ∧
        (s.dev.fuses.busy = none → t.dev.fuses.otp = s.dev.fuses.otp)) ∧
    (∀ retry single pair slot act relq, s.dev.unit.released = false → s.dev.power.out = [] → s.dev.envCause = none →
      Goes (exec (.sysRstNRelease retry single pair slot act relq) s) fun t =>
        t.dev.unit.released = true ∧ t.dev.get Reg.GLB_BOOT_STATUS_STATE = 0 ∧ t.dev.boot.run = true ∧ t.dev.boot.retry = retry ∧
        t.dev.flag Reg.UNT_STATUS_PAIR = pair ∧ t.dev.flag Reg.UNT_STATUS_SLOT = slot ∧ t.dev.flag Reg.UNT_STATUS_PEER_ACT = act ∧
        t.dev.flag Reg.UNT_STATUS_PEER_RELQ = relq ∧ t.dev.flag Reg.GLB_LOCK_LOCKED = false ∧ t.dev.power.avsDue = true)

/-- The steps of Cast-On (R58): each ends when what it waits for has come, and STATE shows the next one. Step 1 waits for the
regulator's acknowledgement and locks the AON PLL, step 3 for the slices and locks the core PLL, step 8 for the checks of the
stacks before the Survey starts, step 11 for the firmware; step 12 is forwarding ready: STATE is 0xC and FAILS 0 (R61). An image
whose header or signature fails its check fails the attempt under the reason of that check, FAILS counts it, and the next attempt starts
at step 2, or waits where a condition of class E stands (R50, R60). A ledger that does not answer is Selvedge mode under LEDGER (R63). -/
def Obligations.CastOnSteps : Prop :=
  ∀ (s : State), s.dev.boot.run = true →
    let again := fun (t : State) (r : Nat) => if t.dev.envCause = none then t.dev.boot? = 1 ∧ t.dev.get Reg.GLB_BOOT_STATUS_REASON = r
      else t.dev.boot? = 0xE;
    (s.dev.boot? = 0 → s.dev.power.avsDue = false → s.dev.power.avsWait = false → s.dev.power.avsFail = false →
      Goes (exec (.castOnStepDone none) s) fun t => t.dev.boot? = 1 ∧ bit (t.dev.get Reg.PWR_CLK_STATUS_LOCK) 0 = true ∧
        (t.dev.pwrOn 115 = true ∨ 115 ∈ t.dev.power.waking)) ∧
    (s.dev.boot? = 2 → s.dev.power.waking = [] →
      Goes (exec (.castOnStepDone none) s) fun t => t.dev.boot? = 3 ∧ bit (t.dev.get Reg.PWR_CLK_STATUS_LOCK) 1 = true ∧
        t.dev.flag Reg.TIM_STATUS_CORE_CLK = true) ∧
    (s.dev.boot? = 3 → s.dev.flashOk = true → s.dev.boot.fails = 0 →
      Goes (exec (.castOnStepDone none) s) fun t =>
        (s.dev.headCheck s.dev.boot.slot = none → t.dev.boot? = 4) ∧
        (∀ r x, s.dev.headCheck s.dev.boot.slot = some (r, x) → again t r ∧ t.dev.get Reg.GLB_BOOT_STATUS_FAILS = 1)) ∧
    (s.dev.boot? = 5 → s.dev.boot.fails = 0 →
      Goes (exec (.castOnStepDone none) s) fun t =>
        (s.dev.signOk = true → t.dev.boot? = 6 ∧ t.dev.boot.watchdog = true) ∧
        (s.dev.signOk = false → again t 0x17 ∧ t.dev.get Reg.GLB_BOOT_STATUS_FAILS = 1 ∧ t.dev.boot.run = true)) ∧
    (s.dev.boot? = 7 → (∀ k < 4, s.dev.stackState k ≠ 1) →
      Goes (exec (.castOnStepDone none) s) fun t => t.dev.boot? = 8 ∧ t.dev.flag Reg.SRV_STATUS_BUSY = true ∧
        t.dev.survey.masters = List.range 16) ∧
    (s.dev.boot? = 10 → s.dev.flag Reg.SVC_STATUS_READY = true →
      Goes (exec (.castOnStepDone none) s) fun t => t.dev.boot? = 11) ∧
    (s.dev.boot? = 11 →
      Goes (exec (.castOnStepDone none) s) fun t => t.dev.boot? = 0xC ∧ t.dev.get Reg.GLB_BOOT_STATUS_FAILS = 0 ∧
        t.dev.get Reg.GLB_BOOT_STATUS_REASON = 0 ∧ t.dev.boot.run = false) ∧
    (s.dev.boot? = 1 →
      Goes (exec (.castOnStepDone (some .ledger)) s) fun t => t.dev.boot? = 0xD ∧ t.dev.get Reg.GLB_BOOT_STATUS_REASON = 0x43 ∧
        t.dev.boot.run = false ∧ t.dev.role = roleSelvedge)

/-- What ends or delays an attempt, and what step 10 and step 11 take. When a class E condition is gone the attempt goes on at the step it
left; after 2 s it is Selvedge mode (R60). The watchdog, a WAIT_FIELD that does not come true and a firmware that does not start fail the
attempt, each under its reason, and the next attempt starts at step 2, or waits where a condition of class E stands, with FAILS counted
(R53, R60, R61, R534). A record of register writes that are all performed makes them in their order, and the next record follows (R53,
R57); a WAIT_FIELD whose field has its value, and a NOTE, are passed. Once core 0 is ready, the firmware is, and the cores with services
start (R534). -/
def Obligations.CastOnTimersAndRecords : Prop :=
  (∀ (s : State),
    let again := fun (t : State) (r : Nat) => if t.dev.envCause = none then t.dev.boot? = 1 ∧ t.dev.get Reg.GLB_BOOT_STATUS_REASON = r
      else t.dev.boot? = 0xE;
    (∀ n, s.dev.boot.left = some n → n < 16 →
      (s.dev.envCause = none → ∀ last, Goes (exec (.classERecheck last) s) fun t =>
        t.dev.boot? = n ∧ t.dev.get Reg.GLB_BOOT_STATUS_REASON = 0 ∧ t.dev.boot.left = none) ∧
      (s.dev.envCause.isSome = true → Goes (exec (.classERecheck true) s) fun t =>
        t.dev.boot? = 0xD ∧ t.dev.get Reg.GLB_BOOT_STATUS_REASON = s.dev.get Reg.GLB_BOOT_STATUS_REASON ∧ t.dev.role = roleSelvedge) ∧
      (s.dev.envCause.isSome = true → Goes (exec (.classERecheck false) s) fun t => t.dev = s.dev.settle)) ∧
    (s.dev.boot.run = true → s.dev.boot.watchdog = true → s.dev.boot.fails = 0 →
      Goes (exec .castOnWatchdog s) fun t => again t 0x1E ∧
        (t.dev.envCause = none → t.dev.get Reg.GLB_BOOT_STATUS_DETAIL = s.dev.boot?) ∧ t.dev.get Reg.GLB_BOOT_STATUS_FAILS = 1) ∧
    (∀ r d, s.dev.nextRec = some r → s.dev.applying = true → r.type = 4 → s.dev.recApply r = (.waits, d) → d.boot.fails = 0 →
      Goes (exec .waitFieldTimeout s) fun t => again t 0x1B ∧ t.dev.get Reg.GLB_BOOT_STATUS_FAILS = 1) ∧
    (s.dev.boot.fwWait = true → s.dev.boot.run = true → s.dev.boot.fails = 0 →
      Goes (exec .firmwareStartTimeout s) fun t => again t 0x1D ∧ t.dev.get Reg.GLB_BOOT_STATUS_FAILS = 1)) ∧
  ∀ (s : State) (r : Rec),
    (s.dev.nextRec = some r → s.dev.applying = true → s.dev.canLog = true →
      (r.type = 1 ∨ r.type = 2 ∨ r.type = 3 ∨ r.type = 0x10 → ∀ d, recWrites r.writes s.dev = (true, d) → d.applying = true →
        Goes (exec .configRecord s) fun t => t.dev.boot.recIdx = s.dev.boot.recIdx + 1 ∧ keepsRegs d t.dev logWord) ∧
      (r.type = 0xFF → Goes (exec .configRecord s) fun t =>
        t.dev.boot.recIdx = s.dev.boot.recIdx + 1 ∧ keepsRegs s.dev t.dev logWord) ∧
      (r.type = 4 → ∀ v d, s.dev.busReadV .image (leNat (slice r.value 0 4)) 4 true none = (some v, d) →
        v &&& leNat (slice r.value 4 4) = leNat (slice r.value 8 4) → d.applying = true →
        Goes (exec .configRecord s) fun t => t.dev.boot.recIdx = s.dev.boot.recIdx + 1)) ∧
    (∀ roles, s.dev.boot.fwWait = true → s.dev.boot? = 0xA →
      Goes (exec (.firmwareReady roles) s) fun t => t.dev.flag Reg.SVC_STATUS_READY = true ∧ t.dev.boot.fwWait = false ∧
        ∀ n, 0 < n → n < 16 → (roles.getD n 0) ≠ 0 → s.dev.pwrOn (88 + n) = true → t.dev.get (Reg.SVC_CORE_STATE n) = 1)

/-- Power domains (R579, R581, R583). A domain that was asked to wake is awake and shows it; one that is not awake in time after ready sets
WAKE_FAIL and its number and stays as it is; a tile that is idle and drained goes down; PERST_N low takes the PCIe link and 1 ms later its
domain down, and the host's queues and DMA with them; PERST_N high asks for the domain again. -/
def Obligations.DomainsWakeAndSleep : Prop :=
  ∀ (s : State),
    (∀ n : Fin 116, n.val ∈ s.dev.power.waking →
      Goes (exec (.domainAwake n) s) (fun t => t.dev.pwrOn n = true ∧ n.val ∉ t.dev.power.waking ∧
        ∀ m, m < 116 → m ≠ n.val → t.dev.pwrOn m = s.dev.pwrOn m) ∧
      (s.dev.boot.run = false → Goes (exec (.domainWakeTimeout n) s) fun t =>
        t.dev.flag Reg.PWR_STATUS_WAKE_FAIL = true ∧ t.dev.get Reg.PWR_STATUS_DOMAIN = n.val ∧ n.val ∉ t.dev.power.waking ∧
        t.dev.pwrOn n = s.dev.pwrOn n) ∧
      (s.dev.boot.run = true → Goes (exec (.domainWakeTimeout n) s) fun t =>
        t.dev.boot? = 0xD ∧ t.dev.get Reg.GLB_BOOT_STATUS_REASON = 0x41 ∧ t.dev.role = roleSelvedge)) ∧
    (∀ x : Fin 64, s.dev.tileIdle x = true → Goes (exec (.tilePowerDown x) s) fun t => t.dev.pwrOn x = false ∧
      ∀ y : Fin 64, y ≠ x → t.dev.pwrOn y = s.dev.pwrOn y) ∧
    Goes (exec .perstNAssert s) (fun t => t.dev.power.perst = false ∧ t.dev.pcieUp = false ∧ t.dev.dma = {} ∧ t.dev.pool = {} ∧
      t.dev.host = { nextOp := s.dev.host.nextOp }) ∧
    (s.dev.power.perst = false → Goes (exec .pciePowerDown s) fun t => t.dev.pwrOn 112 = false) ∧
    (s.dev.pwrOn 112 = false → Goes (exec .perstNRelease s) fun t => t.dev.power.perst = true ∧ 112 ∈ t.dev.power.waking)

/-- The Survey's sensors (R76, R77, R93, R94): each reading shows, within the range of its sensor; a supply that leaves its window
sets OUT and LIVE_OUT, after ready as critical fault 5 with its number unless one is latched; it comes back with LIVE_OUT clear and
OUT held. -/
def Obligations.SensorsShow : Prop :=
  ∀ (s : State),
    (∀ mvs : List (BitVec 16), Goes (exec (.railSample mvs) s) fun t => ∀ n, n < 32 → n < mvs.length →
      t.dev.get (Reg.SRV_RAIL_MV n) = min (mvs.getD n 0).toNat (if n < 24 then 1500 else 1800)) ∧
    (∀ ts : List (BitVec 16), s.dev.boot.run = false → Goes (exec (.tempSample ts) s) fun t =>
      (∀ n, n < 64 → n < ts.length → signed 16 (t.dev.get (Reg.SRV_TEMP_TEMP n)) = max (-220) (min 600 (signed 16 (ts.getD n 0).toNat))) ∧
      (∀ n, n < 64 → signed 16 (t.dev.get (Reg.SRV_TEMP_TEMP n)) ≤ t.dev.tempMax) ∧
      t.dev.get Reg.SRV_TEMP_MAX_TEMP = t.dev.get (Reg.SRV_TEMP_TEMP (t.dev.get Reg.SRV_TEMP_MAX_SENSOR))) ∧
    (∀ (n : Fin 32) up, s.dev.flag (Reg.SRV_RAIL_LIVE_OUT n) = false → s.dev.canCross n up = true → s.dev.boot.run = false →
      Goes (exec (.supplyWindowCross n up) s) fun t =>
        t.dev.flag (Reg.SRV_RAIL_OUT n) = true ∧ t.dev.flag (Reg.SRV_RAIL_LIVE_OUT n) = true ∧
        (s.dev.boot? = 0xC → s.dev.get Reg.UNT_STATUS_CRIT_CAUSE = 0 →
          t.dev.get Reg.UNT_STATUS_CRIT_CAUSE = 5 ∧ t.dev.get Reg.UNT_STATUS_CRIT_DETAIL = n.val)) ∧
    (∀ (n : Fin 32) a up, mget (fun _ => none) s.dev.power.out n = some (a, up) →
      Goes (exec (.supplyWindowReturn n) s) fun t =>
        t.dev.flag (Reg.SRV_RAIL_LIVE_OUT n) = false ∧ t.dev.flag (Reg.SRV_RAIL_OUT n) = s.dev.flag (Reg.SRV_RAIL_OUT n))

/-- Temperature and clocks. Above WARN_C the warning shows and THERM_N goes low; it goes with 5 °C below (R584). Above SHUT_C for 1 ms
after ready the unit is in Selvedge mode under TEMPERATURE (R584); at or below it nothing changes. A reference input that is lost
or comes back shows it (R588, R595). -/
def Obligations.HeatAndClocks : Prop :=
  ∀ (s : State),
    (s.dev.boot.run = false → ∀ ts, Goes (exec (.tempSample ts) s) fun t =>
      (4 * (s.dev.get Reg.PWR_THERM_WARN_C : Int) < t.dev.tempMax → t.dev.flag Reg.PWR_STATUS_THERM_WARN = true ∧
        (s.dev.flag Reg.PWR_STATUS_THERM_WARN = false →
          t.dev.flag Reg.PWR_STATUS_THERM_SEEN = true ∧ Output.pin "THERM_N" .low ∈ t.dev.out)) ∧
      (t.dev.tempMax ≤ 4 * (s.dev.get Reg.PWR_THERM_WARN_C : Int) - 20 → t.dev.flag Reg.PWR_STATUS_THERM_WARN = false ∧
        (s.dev.flag Reg.PWR_STATUS_THERM_WARN = true → Output.pin "THERM_N" .high ∈ t.dev.out))) ∧
    (4 * (s.dev.get Reg.PWR_THERM_SHUT_C : Int) < s.dev.tempMax → s.dev.boot.run = false → s.dev.boot? = 0xC →
      Goes (exec .thermalShutdown s) fun t => t.dev.boot? = 0xD ∧ t.dev.get Reg.GLB_BOOT_STATUS_REASON = 0x82 ∧
        t.dev.role = roleSelvedge ∧ t.dev.unit.relqOut = .low) ∧
    (s.dev.tempMax ≤ 4 * (s.dev.get Reg.PWR_THERM_SHUT_C : Int) →
      Goes (exec .thermalShutdown s) fun t => t.dev = s.dev.settle) ∧
    (∀ i : Fin 18, Goes (exec (.refclkLoss i) s) fun t => t.dev.refUp i = false ∧
      (i.val < 16 → bit (t.dev.get Reg.PWR_CLK_STATUS_SERDES_REF) i = false) ∧
      (i.val = 16 → t.dev.flag Reg.PWR_CLK_STATUS_AON_REF = false ∧ bit (t.dev.get Reg.PWR_CLK_STATUS_LOCK) 1 = false ∧
        bit (t.dev.get Reg.PWR_CLK_STATUS_LOCK) 2 = false) ∧
      (i.val = 17 → t.dev.flag Reg.PWR_CLK_STATUS_PCIE_REF = false ∧ t.dev.pcieUp = false)) ∧
    (∀ i : Fin 18, s.dev.refUp i = false → Goes (exec (.refclkReturn i) s) fun t => t.dev.refUp i = true ∧
      (i.val < 16 → bit (t.dev.get Reg.PWR_CLK_STATUS_SERDES_REF) i = true) ∧
      (i.val = 16 → t.dev.flag Reg.PWR_CLK_STATUS_AON_REF = true) ∧
      (i.val = 17 → t.dev.flag Reg.PWR_CLK_STATUS_PCIE_REF = true))

/-- Adaptive voltage scaling (R606). A target that is due is sent, the windows of VDD_CORE first covering the old and the new one by
40 mV each way; its acknowledgement shows in ACK, and 1 ms later the windows follow the target alone. Without it ERR shows, and the
target is sent again. Loss of power keeps only the ledger and the flash, as SYS_RST_N does (R609). -/
def Obligations.VoltageScaling : Prop :=
  ∀ (s : State) (n : Nat), n ∈ coreSensors →
    let new := s.dev.avsTarget
    (s.dev.power.avsDue = true → 40 ≤ min s.dev.power.avsOld new → max s.dev.power.avsOld new + 40 < 2 ^ 16 → new < 1024 →
      Goes (exec .avsTransfer s) fun t => t.dev.get Reg.PWR_AVS_TARGET_MV = new ∧ t.dev.power.avsWait = true ∧
        t.dev.power.avsDue = false ∧ Output.avs new ∈ t.dev.out ∧
        t.dev.get (Reg.SRV_RAIL_LIM_LO_MV n) = min s.dev.power.avsOld new - 40 ∧
        t.dev.get (Reg.SRV_RAIL_LIM_HI_MV n) = max s.dev.power.avsOld new + 40) ∧
    (s.dev.power.avsWait = true →
      Goes (exec .avsAck s) (fun t => t.dev.flag Reg.PWR_AVS_ACK = true ∧ t.dev.power.avsWait = false ∧
        t.dev.power.avsOld = s.dev.get Reg.PWR_AVS_TARGET_MV ∧ t.dev.power.avsNarrow = true) ∧
      (s.dev.boot.run = false → Goes (exec .avsTimeout s) fun t => t.dev.flag Reg.PWR_AVS_ERR = true ∧
        t.dev.power.avsWait = false ∧ t.dev.power.avsFail = true)) ∧
    (s.dev.power.avsNarrow = true → 40 ≤ s.dev.get Reg.PWR_AVS_TARGET_MV →
      Goes (exec .avsWindowNarrow s) fun t =>
        t.dev.get (Reg.SRV_RAIL_LIM_LO_MV n) = s.dev.get Reg.PWR_AVS_TARGET_MV - 40 ∧
        t.dev.get (Reg.SRV_RAIL_LIM_HI_MV n) = s.dev.get Reg.PWR_AVS_TARGET_MV + 40) ∧
    (s.dev.power.avsFail = true → s.dev.power.avsWait = false →
      Goes (exec .avsRetry s) fun t => Output.avs (s.dev.get Reg.PWR_AVS_TARGET_MV) ∈ t.dev.out ∧ t.dev.power.avsWait = true) ∧
    Goes (exec .powerLoss s) fun t => (∀ k, k ∉ shownRegs → t.dev.rd k = (regDflt k).toNat) ∧ t.dev.boot = {} ∧
      (s.dev.ledger.ckptRun = false → t.dev.ledger.mem = s.dev.ledger.mem) ∧
      (s.dev.gaffer.flashOp = none → t.dev.flash = s.dev.flash)

/-- The Survey (R79, R81 to R84, R87, R90, R92, R96). A lane's survey gives its record and its sequence number while others go on, its length by the board's
velocity and its partner by what that advertises; the reads of the
last module master end a module survey with BUSY and START clear; a poll that finds a channel's presence changed updates its record and sets
MOD_CHANGE; energy on every lane of a port that awaits a partner starts a survey of its lanes. -/
def Obligations.SurveyRecords : Prop :=
  ∀ (s : State),
    (∀ lane state extrap sat il len pos rho an techs pages, lane.val ∈ s.dev.survey.lanes →
      (∃ l ∈ s.dev.survey.lanes, l ≠ lane.val) →
      Goes (exec (.laneSurveyDone lane state extrap sat il len pos rho an techs pages) s) fun t =>
        t.dev.get (Reg.SRV_LANE_LO_STATE lane) = state.val + 1 ∧ t.dev.get (Reg.SRV_LANE_LO_LENGTH_MM lane) = s.dev.roundTrip len.toNat ∧
        t.dev.get Reg.SRV_STATUS_SEQ = (s.dev.get Reg.SRV_STATUS_SEQ + 1) % 2 ^ 16 ∧
        t.dev.get (Reg.SRV_LANE_HI_SEQ lane) = t.dev.get Reg.SRV_STATUS_SEQ ∧
        (state = 0 → t.dev.get (Reg.SRV_LANE_LO_IL_NYQ lane) = (if sat then 1023 else il.toNat) ∧
          t.dev.flag (Reg.SRV_LANE_LO_EXTRAP lane) = extrap ∧ t.dev.flag (Reg.SRV_LANE_LO_SAT lane) = sat) ∧
        (an = true → s.dev.surveyPort lane = none → state.val ≠ 1 →
          t.dev.get (Reg.SRV_LANE_HI_PARTNER_ABIL lane) = techAbil techs) ∧
        lane.val ∉ t.dev.survey.lanes) ∧
    (∀ (m : Fin 16) chs, s.dev.survey.masters = [m.val] → s.dev.survey.lanes = [] → s.dev.gaffer.surveyOps = [] →
      Goes (exec (.moduleSurveyDone m chs) s) fun t =>
        t.dev.flag Reg.SRV_STATUS_BUSY = false ∧ t.dev.flag Reg.SRV_CTRL_START = false ∧ t.dev.survey.masters = [] ∧
        ∀ c, c < 8 → t.dev.rd64 (Reg.SRV_MODULE (8 * m + c)) = (match chs[c]? with | some r => moduleRec r | none => 0) % 2 ^ 64) ∧
    (∀ (c : Fin 128) r, s.dev.inCastOn = false → s.dev.inSelvedge = false → s.dev.survey.masters.contains (c.val / 8) = false →
      s.dev.get (Reg.SRV_MODULE_STATE c) ≠ 0 →
      Goes (exec (.modulePresencePoll c r) s) fun t =>
        t.dev.rd64 (Reg.SRV_MODULE c) = (if bits (moduleRec r) 31 30 = s.dev.get (Reg.SRV_MODULE_STATE c) then
          s.dev.rd64 (Reg.SRV_MODULE c) else moduleRec r % 2 ^ 64) ∧
        t.dev.flag Reg.SRV_STATUS_MOD_CHANGE = (s.dev.flag Reg.SRV_STATUS_MOD_CHANGE
          || bits (moduleRec r) 31 30 != s.dev.get (Reg.SRV_MODULE_STATE c))) ∧
    (∀ p : Fin 512, p.val ∈ s.dev.survey.waiting → s.dev.flag Reg.SRV_CTRL_AUTO_RESURVEY = true →
      s.dev.flag Reg.SRV_STATUS_BUSY = false → s.dev.canDefer = true → s.dev.inCastOn = false → s.dev.inSelvedge = false →
      Goes (exec (.autoResurvey p) s) fun t => t.dev.flag Reg.SRV_STATUS_BUSY = true ∧ t.dev.survey.lanes = s.dev.lanes p ∧
        t.dev.survey.resolve = [p.val])

/-- A step takes the command at the front of the queue: it is that command's meaning over the state with the queue's rest. -/
def Obligations.StepTakesFront : Prop :=
  ∀ (c : Instr) (s : State), step { s with pending := c :: s.pending } = exec c s

/-- A step with no command waiting (DESIGN CHOICE, log entry 2): one core clock passes. A unit is quiet where it has no record of the active
unit waiting and sends no SYNC stream. On a quiet unit the clock is counted while the core clock runs, and time goes on by 40 ns without
it; the firmware takes the oldest frame of the service receive store while it runs (R542); a FLUSH_PORT has ended (R197); PRBS_ERR of a
lane whose checker runs does not fall (R134); of the words of the deep-store stacks only the temperature that an awake stack reports may change (R453); no other register changes but the performance counters and the words that follow the rest
of the state. -/
def Obligations.IdleStep : Prop :=
  ∀ (s : State), s.pending = [] →
    let u := s.dev.unit
    let quiet := u.snap = none ∧ (s.dev.role ≠ roleStandby ∨ (u.live = [] ∧ u.syncQ = []))
    Goes (step s) fun t => t.pending = [] ∧
      (quiet →
        (s.dev.flag Reg.TIM_STATUS_CORE_CLK = true → t.dev.clock = s.dev.clock + 1) ∧
        (s.dev.flag Reg.TIM_STATUS_CORE_CLK = false → t.dev.clock = s.dev.clock ∧ t.dev.ft = (s.dev.ft + 40 * 65536) % tmMod ∧
          t.dev.tod = (s.dev.tod + 40 * 65536) % tmMod) ∧
        t.dev.svcRx.store = (if s.dev.flag Reg.SVC_STATUS_READY then s.dev.svcRx.store.drop 1 else s.dev.svcRx.store) ∧
        t.dev.flag Reg.MRV_STATUS_FLUSH_BUSY = false ∧
        keepsRegs s.dev t.dev (fun k => (∃ l ∈ s.dev.prbsChecked, k = Reg.LANE_STATUS (tileOf l) (laneIn l)) ∨
          ∃ j ∈ s.dev.stacksAwake, k = Reg.DST_STACK j) ∧
        (∀ j : Fin 4, withBits (t.dev.rd (Reg.DST_STACK j.val)) 23 16 0 = withBits (s.dev.rd (Reg.DST_STACK j.val)) 23 16 0) ∧
        (∀ l : Fin 512, s.dev.get (Reg.LANE_STATUS_PRBS_ERR (tileOf l.val) (laneIn l.val)) ≤
          t.dev.get (Reg.LANE_STATUS_PRBS_ERR (tileOf l.val) (laneIn l.val))) ∧
        t.dev.path = s.dev.path ∧ t.dev.mrv = s.dev.mrv ∧ t.dev.ports = s.dev.ports)

/-- No step stops, and the queue is first in, first out: after k steps from any state the first k waiting commands are gone and the
others wait in their order (the queue and the idle step are the model's, DESIGN CHOICE, log entry 2). -/
def Obligations.RunsDrainTheQueue : Prop :=
  ∀ (k : Nat) (s : State), Goes (Host.Core.run Sys2Proof.core k s) fun t => t.pending = s.pending.drop k

/-- The state after reset: no command waits, every register word reads as its reset value, among them the sizes of the Skein (R265) and a
Skein all of whose stitches are free (R261), the memories are canonical, and what the device shows follows from the rest. Where the
spec gives a register no reset value the value is the model's (the log entries that name them). -/
def Obligations.ResetState : Prop :=
  State.reset.pending = [] ∧ (∀ k, State.reset.dev.rd k = (regDflt k).toNat) ∧ Memory.wf State.reset.dev ∧ shows State.reset.dev ∧
    State.reset.dev.rd Reg.BUF_SKEIN_EFF = 983040 ∧ State.reset.dev.get Reg.BUF_CFG_CTRL_RESV = 8192 ∧
    State.reset.dev.get Reg.BUF_SHARED_FREE_F0 = 925696 ∧ State.reset.dev.get Reg.GLB_BOOT_STATUS_STATE = 0 ∧
    State.reset.dev.flag Reg.GLB_LOCK_LOCKED = false

/-- Invariant: after every step, from any state, the status registers and the pins are what the rest of the state makes them (R267, R369,
R391, R572). -/
def Obligations.ShownAfterEveryStep : Prop := ∀ s t : State, step s = .next t → shows t.dev

/-- Invariant: every step keeps the register words, the shared SRAM, the cores' local SRAM, the flash, the ledger and the pool buffers in their
canonical form. -/
def Obligations.MemoryStaysCanonical : Prop :=
  ∀ s t : State, Memory.wf s.dev → step s = .next t → Memory.wf t.dev

/-- R59, R72, R460 to R462: a write that the bus refuses is a bus error with the reason of the first check that fails, and changes no
register but those that report it, of any block. The checks: size, alignment, an offset that no block has, privilege and unreachable
blocks, a register that a block does not have, a requester barred before ready, a locked field. The order among them is the model's
reading (DEDUCED). -/
def Obligations.RefusedWrites : Prop :=
  ∀ (s : State) (rq : Requester) (off : BitVec 28) (size : BitVec 4) (full : Bool) (data : BitVec 64),
    let d := s.dev
    let c := Instr.registerWrite rq off size full data
    let known := d.accessError rq off.toNat size.toNat full = none ∧ inBits off.toNat = false
    let refused := fun (r : BusReason) => leaves c s busWord (fun d => { d with audit := {}, bus := {}, ledger := {} }) ∧
      (d.flag Reg.GLB_BUS_ERR_SRC_VALID = false → Goes (exec c s) fun t => t.dev.flag Reg.GLB_BUS_ERR_SRC_VALID = true ∧
        t.dev.get Reg.GLB_BUS_ERR_SRC_REASON = r.code ∧ t.dev.get Reg.GLB_BUS_ERR_ADDR_OFFSET = off.toNat ∧
        t.dev.get Reg.GLB_BUS_ERR_SRC_ORIGIN = originOf rq)
    d.notSeen rq = false →
    (¬ (full = true ∧ (size = 4 ∨ size = 8)) → refused .size) ∧
    (full = true → (size = 4 ∨ size = 8) → off.toNat % size.toNat ≠ 0 → refused .align) ∧
    (full = true → (size = 4 ∨ size = 8) → off.toNat % size.toNat = 0 →
      mapRow off.toNat = none ∨ sliceZeroOnly off.toNat = true → refused .unimplemented) ∧
    (full = true → (size = 4 ∨ size = 8) → off.toNat % size.toNat = 0 →
      ∀ m, mapRow off.toNat = some m → d.answers m = true → sliceZeroOnly off.toNat = false →
        d.mayReach rq off.toNat m = false → refused .privilege) ∧
    (known → regAt off.toNat = none → refused .reserved) ∧
    (known → (∃ r, regAt off.toNat = some r) → d.bootBars rq off.toNat = true → refused .boot) ∧
    (known → ∀ r is, regAt off.toNat = some (r, is, false) → r.cpw = 0 → r.w64 = false → winAt off.toNat = none → size = 4 →
      d.bootBars rq off.toNat = false → d.flag Reg.GLB_LOCK_LOCKED = true →
      (d.rd off.toNat ^^^ r.next off.toNat (d.rd off.toNat) (data.toNat % 2 ^ 32) (2 ^ 32 - 1)) &&& r.rwl ≠ 0 → refused .locked)
end

