-- ==== Sys2Proof/Laws/Exec.lean ====
section
/-!
SUPPORT. What any command does to the state around the device: it goes on, and leaves the queue of waiting commands.
-/
namespace Sys2Proof.Machine

/-- Every command answers a next state: its effect on the device, settled, beside the same queue. -/
theorem exec_next (c : Instr) (s : State) : ∃ d : Device, exec c s = .next { s with dev := d.settle } := by
  cases c <;> exact ⟨_, rfl⟩

/-- A step never stops; it takes one command from the queue, if there is one, and settles the device. -/
theorem step_next (s : State) : ∃ d : Device, step s = .next { pending := s.pending.drop 1, dev := d.settle } := by
  unfold step
  split
  · next h => exact ⟨_, by simp only [h, Device.idle, List.drop_nil]; rfl⟩
  · next c rest h => obtain ⟨d, e⟩ := exec_next c { s with pending := rest }; exact ⟨d, by simp [e, h]⟩

end Sys2Proof.Machine
end

