-- ==== Sys2Proof/Laws/Map.lean ====
section
/-!
SUPPORT. The laws of the sparse stores: what is read after a write or an erasure, and that every operation keeps the canonical form.
-/
namespace Sys2Proof.Machine

variable {α : Type}

theorem mget_mdrop_same (d : Nat → α) (m : Map α) (k : Nat) : mget d (mdrop m k) k = d k := by
  induction m with
  | nil => rfl
  | cons e m ih =>
    obtain ⟨j, v⟩ := e
    by_cases h : j = k <;> simp_all [mdrop, mget]

theorem mget_mdrop_ne (d : Nat → α) (m : Map α) {k l : Nat} (h : l ≠ k) : mget d (mdrop m k) l = mget d m l := by
  induction m with
  | nil => rfl
  | cons e m ih =>
    obtain ⟨j, v⟩ := e
    by_cases hj : j = k
    · subst hj; simp_all [mdrop, mget, Ne.symm h]
    · by_cases hl : j = l <;> simp_all [mdrop, mget]

theorem mget_mput_same (d : Nat → α) (m : Map α) (k : Nat) (v : α) (h : ∀ e ∈ m, e.1 ≠ k) :
    mget d (mput m k v) k = v := by
  induction m with
  | nil => simp [mput, mget]
  | cons e m ih =>
    obtain ⟨j, w⟩ := e
    have hj : j ≠ k := h (j, w) (List.mem_cons_self ..)
    by_cases hk : k < j
    · simp [mput, hk, mget]
    · simp [mput, hk, mget, hj, ih fun e he => h e (List.mem_cons_of_mem _ he)]

theorem mget_mput_ne (d : Nat → α) (m : Map α) {k l : Nat} (v : α) (h : l ≠ k) :
    mget d (mput m k v) l = mget d m l := by
  induction m with
  | nil => simp [mput, mget, Ne.symm h]
  | cons e m ih =>
    obtain ⟨j, w⟩ := e
    by_cases hk : k < j
    · simp [mput, hk, mget, Ne.symm h]
    · rw [mput, if_neg hk]
      by_cases hl : j = l <;> simp [mget, hl, ih]

/-- A read after a write of the same key gives the value written. -/
@[simp] theorem mget_mset_same [DecidableEq α] (d : Nat → α) (m : Map α) (k : Nat) (v : α) :
    mget d (mset d m k v) k = v := by
  by_cases h : v = d k
  · simp [mset, h, mget_mdrop_same]
  · simp only [mset, h, if_false]
    exact mget_mput_same d _ k v fun e he => by simp [mdrop] at he; exact he.2

/-- A write leaves every other key as it was. -/
theorem mget_mset_ne [DecidableEq α] (d : Nat → α) (m : Map α) {k l : Nat} (v : α) (h : l ≠ k) :
    mget d (mset d m k v) l = mget d m l := by
  by_cases hv : v = d k
  · simp [mset, hv, mget_mdrop_ne d m h]
  · simp [mset, hv, mget_mput_ne d _ v h, mget_mdrop_ne d m h]

/-- What a write leaves at every key. -/
theorem mget_mset [DecidableEq α] (d : Nat → α) (m : Map α) (k l : Nat) (v : α) :
    mget d (mset d m k v) l = if l = k then v else mget d m l := by
  by_cases h : l = k
  · subst h; simp
  · simp [h, mget_mset_ne d m v h]

/-- An erasure leaves the keys of its range at their defaults and every other key as it was. -/
theorem mget_merase (d : Nat → α) (m : Map α) (lo hi k : Nat) :
    mget d (merase m lo hi) k = if lo ≤ k ∧ k < hi then d k else mget d m k := by
  induction m with
  | nil => simp [merase, mget]
  | cons e m ih =>
    obtain ⟨j, v⟩ := e
    by_cases hr : lo ≤ j ∧ j < hi
    · have : merase ((j, v) :: m) lo hi = merase m lo hi := by simp [merase, hr.1, hr.2]
      rw [this, ih]
      by_cases hk : j = k
      · subst hk; simp [hr]
      · simp [mget, hk]
    · have : merase ((j, v) :: m) lo hi = (j, v) :: merase m lo hi := by
        rw [merase, List.filter_cons_of_pos (by simp; omega)]; rfl
      rw [this]
      by_cases hk : j = k
      · subst hk; simp [mget, hr]
      · simp [mget, hk, ih]

theorem mwfFrom_mono [DecidableEq α] (d : Nat → α) {a b : Nat} (h : a ≤ b) (m : Map α)
    (w : mwfFrom d b m = true) : mwfFrom d a m = true := by
  cases m with
  | nil => rfl
  | cons e m =>
    obtain ⟨k, v⟩ := e
    simp only [mwfFrom, Bool.and_eq_true, decide_eq_true_eq] at w ⊢
    exact ⟨⟨Nat.le_trans h w.1.1, w.1.2⟩, w.2⟩

/-- A part of a store in canonical form is in canonical form. -/
theorem mwfFrom_filter [DecidableEq α] (d : Nat → α) (p : Nat × α → Bool) (m : Map α) :
    ∀ b, mwfFrom d b m = true → mwfFrom d b (m.filter p) = true := by
  induction m with
  | nil => intro b _; rfl
  | cons e m ih =>
    intro b w
    obtain ⟨k, v⟩ := e
    simp only [mwfFrom, Bool.and_eq_true, decide_eq_true_eq] at w
    by_cases hp : p (k, v)
    · simp only [List.filter_cons_of_pos hp, mwfFrom, Bool.and_eq_true, decide_eq_true_eq]
      exact ⟨w.1, ih _ w.2⟩
    · simp only [List.filter_cons_of_neg hp]
      exact mwfFrom_mono d (by omega) _ (ih _ w.2)

theorem mwfFrom_mput [DecidableEq α] (d : Nat → α) (k : Nat) (v : α) (hv : v ≠ d k) (m : Map α) :
    ∀ b, b ≤ k → (∀ e ∈ m, e.1 ≠ k) → mwfFrom d b m = true → mwfFrom d b (mput m k v) = true := by
  induction m with
  | nil => intro b hb _ _; simp [mput, mwfFrom, hb, hv]
  | cons e m ih =>
    intro b hb hne w
    obtain ⟨j, x⟩ := e
    have hj : j ≠ k := hne (j, x) (List.mem_cons_self ..)
    simp only [mwfFrom, Bool.and_eq_true, decide_eq_true_eq] at w
    by_cases hk : k < j
    · simp only [mput, hk, if_true, mwfFrom, Bool.and_eq_true, decide_eq_true_eq]
      exact ⟨⟨hb, by simp [hv]⟩, ⟨⟨hk, w.1.2⟩, w.2⟩⟩
    · simp only [mput, hk, if_false, mwfFrom, Bool.and_eq_true, decide_eq_true_eq]
      exact ⟨w.1, ih _ (by omega) (fun e he => hne e (List.mem_cons_of_mem _ he)) w.2⟩

/-- A write keeps the canonical form. -/
theorem mset_wf [DecidableEq α] (d : Nat → α) (m : Map α) (k : Nat) (v : α) (w : mwf d m = true) :
    mwf d (mset d m k v) = true := by
  have wd : mwfFrom d 0 (mdrop m k) = true := mwfFrom_filter d _ m 0 w
  by_cases h : v = d k
  · simpa [mset, h, mwf] using wd
  · simp only [mset, h, if_false]
    exact mwfFrom_mput d k v h _ 0 (Nat.zero_le _) (fun e he => by simp [mdrop] at he; exact he.2) wd

/-- An erasure keeps the canonical form. -/
theorem merase_wf [DecidableEq α] (d : Nat → α) (m : Map α) (lo hi : Nat) (w : mwf d m = true) :
    mwf d (merase m lo hi) = true := mwfFrom_filter d _ m 0 w

/-- A read, change and write back keeps the canonical form. -/
theorem mupd_wf [DecidableEq α] (d : Nat → α) (m : Map α) (k : Nat) (f : α → α) (w : mwf d m = true) :
    mwf d (mupd d m k f) = true := mset_wf d m k _ w

end Sys2Proof.Machine
end

