-- ==== Sys2Proof/Laws/Regs.lean ====
section
/-!
SUPPORT. The laws of register words and fields: what is read after a store, and what a store leaves alone.
-/
namespace Sys2Proof.Machine

/-! ### Bits of numbers -/

theorem testBit_bits (v hi lo i : Nat) :
    (bits v hi lo).testBit i = (decide (i < hi + 1 - lo) && v.testBit (lo + i)) := by
  rw [bits, Nat.testBit_mod_two_pow, Nat.testBit_div_two_pow, Nat.add_comm i lo]

theorem testBit_withBits {hi lo : Nat} (h : lo ≤ hi) (w v i : Nat) :
    (withBits w hi lo v).testBit i =
      if i < lo then w.testBit i else if i ≤ hi then v.testBit (i - lo) else w.testBit i := by
  have e : withBits w hi lo v = 2 ^ (hi + 1) * (w / 2 ^ (hi + 1)) + (2 ^ lo * (v % 2 ^ (hi + 1 - lo)) + w % 2 ^ lo) := by
    rw [withBits]; omega
  have hlo : w % 2 ^ lo < 2 ^ lo := Nat.mod_lt _ (Nat.two_pow_pos _)
  have hv : v % 2 ^ (hi + 1 - lo) < 2 ^ (hi + 1 - lo) := Nat.mod_lt _ (Nat.two_pow_pos _)
  have hmid : 2 ^ lo * (v % 2 ^ (hi + 1 - lo)) + w % 2 ^ lo < 2 ^ (hi + 1) := by
    have hp : 2 ^ (hi + 1) = 2 ^ lo * 2 ^ (hi + 1 - lo) := by rw [← Nat.pow_add]; congr 1; omega
    rw [hp]
    calc 2 ^ lo * (v % 2 ^ (hi + 1 - lo)) + w % 2 ^ lo
        < 2 ^ lo * (v % 2 ^ (hi + 1 - lo)) + 2 ^ lo := by omega
      _ = 2 ^ lo * (v % 2 ^ (hi + 1 - lo) + 1) := by rw [Nat.mul_add, Nat.mul_one]
      _ ≤ 2 ^ lo * 2 ^ (hi + 1 - lo) := Nat.mul_le_mul_left _ hv
  rw [e, Nat.testBit_two_pow_mul_add _ hmid, Nat.testBit_two_pow_mul_add _ hlo]
  by_cases h1 : i < lo
  · simp [h1, show i < hi + 1 by omega, Nat.testBit_mod_two_pow]
  · by_cases h2 : i ≤ hi
    · simp [h1, h2, show i < hi + 1 by omega, Nat.testBit_mod_two_pow, show i - lo < hi + 1 - lo by omega]
    · simp [h1, h2, show ¬ i < hi + 1 by omega, Nat.testBit_div_two_pow, show i - (hi + 1) + (hi + 1) = i by omega]

/-- A field just stored reads as what was stored, cut to its width. -/
theorem bits_withBits_same {hi lo : Nat} (h : lo ≤ hi) (w v : Nat) :
    bits (withBits w hi lo v) hi lo = v % 2 ^ (hi + 1 - lo) := by
  apply Nat.eq_of_testBit_eq
  intro i
  rw [testBit_bits, testBit_withBits h, Nat.testBit_mod_two_pow]
  by_cases hi' : i < hi + 1 - lo
  · simp [hi', show ¬ lo + i < lo by omega, show lo + i ≤ hi by omega]
  · simp [hi']

/-- A field that does not touch the one stored reads as before. -/
theorem bits_withBits_ne {hi lo hi' lo' : Nat} (h : lo ≤ hi) (hd : hi' < lo ∨ hi < lo') (w v : Nat) :
    bits (withBits w hi lo v) hi' lo' = bits w hi' lo' := by
  apply Nat.eq_of_testBit_eq
  intro i
  rw [testBit_bits, testBit_bits, testBit_withBits h]
  by_cases hi1 : i < hi' + 1 - lo'
  · by_cases h1 : lo' + i < lo
    · simp [h1]
    · simp [h1, show ¬ lo' + i ≤ hi by omega]
  · simp [hi1]

theorem bits_mod (v : Nat) {hi lo n : Nat} (h : hi < n) : bits (v % 2 ^ n) hi lo = bits v hi lo := by
  apply Nat.eq_of_testBit_eq
  intro i
  rw [testBit_bits, testBit_bits, Nat.testBit_mod_two_pow]
  by_cases hi1 : i < hi + 1 - lo
  · simp [show lo + i < n by omega]
  · simp [hi1]

theorem bits_lt (v hi lo : Nat) : bits v hi lo < 2 ^ (hi + 1 - lo) := Nat.mod_lt _ (Nat.two_pow_pos _)

/-- What setting or clearing a bit leaves at every bit. -/
theorem bit_setBit (v i j : Nat) (b : Bool) : bit (setBit v i b) j = if j = i then b else bit v j := by
  unfold bit setBit
  cases b with
  | true =>
    simp only [if_true, Nat.testBit_or, Nat.testBit_two_pow]
    by_cases h : j = i
    · simp [h]
    · simp [h, Ne.symm h]
  | false =>
    simp only [Bool.false_eq_true, if_false]
    split
    · rename_i h
      have hx : v - 2 ^ i = v ^^^ 2 ^ i := by
        have hv : v = 2 ^ (i + 1) * (v / 2 ^ (i + 1)) + (2 ^ i + v % 2 ^ i) := by
          have h1 := Nat.div_add_mod v (2 ^ i)
          have h2 := Nat.div_add_mod (v / 2 ^ i) 2
          have h3 : v / 2 ^ i % 2 = 1 := by
            rw [Nat.testBit_eq_decide_div_mod_eq] at h; simpa using h
          have h4 : v / 2 ^ (i + 1) = v / 2 ^ i / 2 := by rw [Nat.pow_succ, Nat.div_div_eq_div_mul]
          rw [h4, Nat.pow_succ]
          rw [h3] at h2
          generalize v / 2 ^ i = q at *
          generalize q / 2 = e at *
          subst h2
          rw [Nat.mul_add] at h1
          rw [Nat.mul_assoc]
          omega
        apply Nat.eq_of_testBit_eq
        intro k
        have hm : v % 2 ^ i < 2 ^ i := Nat.mod_lt _ (Nat.two_pow_pos _)
        have e1 : v - 2 ^ i = 2 ^ (i + 1) * (v / 2 ^ (i + 1)) + v % 2 ^ i := by omega
        have hlt : v % 2 ^ i < 2 ^ (i + 1) := by rw [Nat.pow_succ]; omega
        rw [e1, Nat.testBit_two_pow_mul_add _ hlt, Nat.testBit_xor, Nat.testBit_two_pow]
        by_cases h1 : k < i
        · simp [h1, show k < i + 1 by omega, Nat.testBit_mod_two_pow, show i ≠ k by omega]
        · by_cases h2 : k = i
          · subst h2; simp [Nat.testBit_mod_two_pow, h]
          · simp [show ¬ k < i + 1 by omega, Nat.testBit_div_two_pow, Ne.symm h2, show k - (i + 1) + (i + 1) = k by omega]
      rw [hx, Nat.testBit_xor, Nat.testBit_two_pow]
      by_cases hj : j = i
      · subst hj; simp [h]
      · simp [hj, Ne.symm hj]
    · rename_i h
      by_cases hj : j = i
      · subst hj; simpa using h
      · simp [hj]

theorem setBit_lt {v i n : Nat} (b : Bool) (hv : v < 2 ^ n) (hi : i < n) : setBit v i b < 2 ^ n := by
  apply Nat.lt_pow_two_of_testBit
  intro j hj
  have := bit_setBit v i j b
  unfold bit at this
  rw [this, if_neg (by omega)]
  exact Nat.testBit_lt_two_pow (Nat.lt_of_lt_of_le hv (Nat.pow_le_pow_right (by omega) hj))

/-! ### Words -/

theorem Device.rd_wr (d : Device) (o v k : Nat) : (d.wr o v).rd k = if k = o then v % 2 ^ 32 else d.rd k := by
  simp only [Device.rd, Device.wr, mget_mset]
  split <;> simp

@[simp] theorem Device.rd_wr_same (d : Device) (o v : Nat) : (d.wr o v).rd o = v % 2 ^ 32 := by simp [Device.rd_wr]

theorem Device.rd_wr_ne (d : Device) {o k : Nat} (v : Nat) (h : k ≠ o) : (d.wr o v).rd k = d.rd k := by
  simp [Device.rd_wr, h]

theorem Device.rd64_wr64_same (d : Device) (o v : Nat) : (d.wr64 o v).rd64 o = v % 2 ^ 64 := by
  simp only [Device.rd64, Device.wr64, Device.rd_wr]
  simp only [show o ≠ o + 4 by omega, if_false, if_true]
  omega

theorem Device.rd_wr64_ne (d : Device) {o k : Nat} (v : Nat) (h : k ≠ o) (h4 : k ≠ o + 4) :
    (d.wr64 o v).rd k = d.rd k := by
  simp [Device.wr64, Device.rd_wr, h, h4]

/-! ### Fields -/

/-- A field's store touches nothing but the words of its register. -/
theorem Device.rd_set_ne (d : Device) (f : Field) (v : Nat) {k : Nat} (h : k ≠ f.off)
    (h4 : f.hi < 32 ∨ k ≠ f.off + 4) : (d.set f v).rd k = d.rd k := by
  unfold Device.set
  split
  · exact d.rd_wr_ne _ h
  · exact d.rd_wr64_ne _ h (by omega)

/-- A field just stored reads as what was stored, cut to its width. -/
theorem Device.get_set_same (d : Device) (f : Field) (v : Nat) (h : f.lo ≤ f.hi) (h64 : f.hi < 64) :
    (d.set f v).get f = v % 2 ^ (f.hi + 1 - f.lo) := by
  unfold Device.set Device.get
  split
  · rename_i h32
    rw [Device.rd_wr_same, bits_mod _ h32, bits_withBits_same h]
  · rw [Device.rd64_wr64_same, bits_mod _ h64, bits_withBits_same h]

/-- A field of another register reads as before (registers of 32 bits). -/
theorem Device.get_set_ne (d : Device) (f g : Field) (v : Nat) (h : g.off ≠ f.off) (hf : f.hi < 32) (hg : g.hi < 32) :
    (d.set f v).get g = d.get g := by
  simp only [Device.get, hg, if_true, d.rd_set_ne f v h (.inl hf)]

/-- Another field of the same register reads as before (registers of 32 bits). -/
theorem Device.get_set_beside (d : Device) (f g : Field) (v : Nat) (ho : g.off = f.off) (hf : f.hi < 32)
    (hg : g.hi < 32) (hl : f.lo ≤ f.hi) (hd : g.hi < f.lo ∨ f.hi < g.lo) : (d.set f v).get g = d.get g := by
  simp only [Device.get, Device.set, hf, hg, if_true, ho, Device.rd_wr_same, bits_mod _ hg,
    bits_withBits_ne hl hd]

/-- A field's value fits its width. -/
theorem Device.get_lt (d : Device) (f : Field) : d.get f < 2 ^ (f.hi + 1 - f.lo) := bits_lt _ _ _

/-! ### What a register operation can change -/

/-- A store of a word changes the registers only. -/
theorem Device.wr_frame (d : Device) (o v : Nat) : ∃ r, d.wr o v = { d with regs := r } := ⟨_, rfl⟩

theorem Device.wr64_frame (d : Device) (o v : Nat) : ∃ r, d.wr64 o v = { d with regs := r } := ⟨_, rfl⟩

/-- A store of a field changes the registers only. -/
theorem Device.set_frame (d : Device) (f : Field) (v : Nat) : ∃ r, d.set f v = { d with regs := r } := by
  unfold Device.set; split <;> exact ⟨_, rfl⟩

theorem Device.put_frame (d : Device) (f : Field) (b : Bool) : ∃ r, d.put f b = { d with regs := r } := d.set_frame f _

theorem Device.inc_frame (d : Device) (f : Field) (n : Nat) : ∃ r, d.inc f n = { d with regs := r } := d.set_frame f _

theorem Device.incSat_frame (d : Device) (f : Field) : ∃ r, d.incSat f = { d with regs := r } := d.set_frame f _

/-- Several register operations change the registers only. -/
theorem Device.each_frame {β : Type} (l : List β) (f : Device → β → Device)
    (h : ∀ d b, ∃ r, f d b = { d with regs := r }) (d : Device) : ∃ r, d.each l f = { d with regs := r } := by
  induction l generalizing d with
  | nil => exact ⟨d.regs, rfl⟩
  | cons b l ih =>
    obtain ⟨r, hr⟩ := h d b
    obtain ⟨r', hr'⟩ := ih (f d b)
    exact ⟨r', by rw [Device.each, List.foldl_cons]; rw [Device.each] at hr'; rw [hr', hr]⟩

/-- Counting a performance event changes the registers only. -/
theorem Device.pmc_frame (d : Device) (event inst n : Nat) : ∃ r, d.pmc event inst n = { d with regs := r } := by
  refine Device.each_frame _ _ (fun d e => ?_) d
  dsimp only
  split
  · obtain ⟨r, hr⟩ := d.set_frame (Reg.PMC_CNT_COUNT ((e.1 - 0x50000) / 4)) (d.get (Reg.PMC_CNT_COUNT ((e.1 - 0x50000) / 4)) + n)
    rw [hr, Device.when]
    split <;> exact ⟨_, rfl⟩
  · exact ⟨d.regs, rfl⟩

/-- Counting a discard changes the registers only. -/
theorem Device.cullet_frame (d : Device) (slice port reason : Nat) :
    ∃ r, d.cullet slice port reason = { d with regs := r } := by
  obtain ⟨r, h⟩ := d.inc_frame (Reg.BUF_CULLET_SLC_COUNT slice reason) 1
  obtain ⟨r2, h2⟩ := (d.inc (Reg.BUF_CULLET_SLC_COUNT slice reason)).inc_frame (Reg.BUF_CULLET_PORT_COUNT port reason) 1
  obtain ⟨r3, h3⟩ := ((d.inc (Reg.BUF_CULLET_SLC_COUNT slice reason)).inc (Reg.BUF_CULLET_PORT_COUNT port reason)).pmc_frame
    4 (64 * slice + reason) 1
  exact ⟨r3, by rw [Device.cullet, h3, h2, h]⟩

theorem Device.macStat_frame (d : Device) (p i n : Nat) : ∃ r, d.macStat p i n = { d with regs := r } := by
  unfold Device.macStat
  split
  · exact d.inc_frame _ n
  · exact ⟨d.regs, rfl⟩

end Sys2Proof.Machine
end

