-- ==== Sys2Proof/Laws/Settle.lean ====
section
/-!
SUPPORT. The laws of the end of a command: it works out AUD_STATUS, the pool status registers, UNT_HEALTH, what MRV shows of a stalled
engine, and the unit's output pins, and changes nothing else.
-/
namespace Sys2Proof.Machine

theorem Device.rd_put_ne (d : Device) (f : Field) (b : Bool) {k : Nat} (h : k ≠ f.off) (h4 : f.hi < 32) :
    (d.put f b).rd k = d.rd k := d.rd_set_ne f _ h (.inl h4)

theorem Device.settleAudit_frame (d : Device) : ∃ r, d.settleAudit = { d with regs := r } := by
  unfold Device.settleAudit
  dsimp only
  obtain ⟨r, h⟩ := d.set_frame Reg.AUD_STATUS_USED d.used
  rw [h]
  obtain ⟨r2, h2⟩ := Device.put_frame { d with regs := r } Reg.AUD_STATUS_FULL (d.stream && decide (65280 ≤ d.used))
  rw [h2]
  obtain ⟨r3, h3⟩ := Device.put_frame { d with regs := r2 } Reg.AUD_STATUS_HW_LOW (d.stream && decide (65520 < d.used))
  exact ⟨r3, h3⟩

theorem Device.settlePools_frame (d : Device) : ∃ r, d.settlePools = { d with regs := r } := by
  unfold Device.settlePools
  obtain ⟨r, h⟩ := d.set_frame Reg.BUF_PHYS_FREE_STITCHES d.physFree
  rw [h]
  obtain ⟨r2, h2⟩ := Device.set_frame { d with regs := r } Reg.BUF_SHARED_FREE_F0 d.f0
  rw [h2]
  exact Device.set_frame { d with regs := r2 } Reg.BUF_DEEP_FREE_F1 d.f1

theorem Device.settleHealth_frame (d : Device) : ∃ r, d.settleHealth = { d with regs := r } := by
  unfold Device.settleHealth
  dsimp only
  obtain ⟨r1, h1⟩ := d.put_frame Reg.UNT_HEALTH_DIVERGED (d.divergedPorts != 0)
  rw [h1]
  obtain ⟨r2, h2⟩ := Device.set_frame { d with regs := r1 } Reg.UNT_HEALTH_DIVERGED_PORTS d.divergedPorts
  rw [h2]
  generalize ({ d with regs := r2 } : Device).flag Reg.UNT_HEALTH_BIST_ERR = b1
  obtain ⟨r3, h3⟩ := Device.put_frame { d with regs := r2 } Reg.UNT_HEALTH_FAIL (d.divergedPorts != 0 || b1)
  rw [h3]
  generalize ({ d with regs := r3 } : Device).driftPersist = b2
  generalize ({ d with regs := r3 } : Device).flag Reg.UNT_STATUS_SYNCED = b3
  obtain ⟨r4, h4⟩ := Device.put_frame { d with regs := r3 } Reg.UNT_HEALTH_DRIFT_PERSIST b2
  rw [h4]
  obtain ⟨r5, h5⟩ := Device.put_frame { d with regs := r4 } Reg.UNT_HEALTH_SYNCED b3
  rw [h5]
  exact Device.put_frame { d with regs := r5 } Reg.UNT_HEALTH_CRIT _

theorem Device.settleEngine_frame (d : Device) : ∃ r, d.settleEngine = { d with regs := r } := by
  unfold Device.settleEngine
  dsimp only [Device.when]
  split
  · obtain ⟨r, h⟩ := d.put_frame Reg.MRV_STATUS_AUDIT_STALL (!d.engineMay)
    rw [h]
    split
    · exact Device.inc_frame { d with regs := r } (Reg.MRV_STAT_COUNT 15) 1
    · exact ⟨r, rfl⟩
  · exact ⟨d.regs, rfl⟩

theorem Device.settlePins_frame (d : Device) :
    ∃ o, d.settlePins = { d with out := o, unit := { d.unit with actOut := d.actPin, relqOut := d.relqPin } } := by
  unfold Device.settlePins
  dsimp only
  simp only [Device.when, Device.emit, Device.onUnit]
  split <;> split <;> exact ⟨_, rfl⟩

theorem Device.settlePins_rd (d : Device) (k : Nat) : d.settlePins.rd k = d.rd k := by
  obtain ⟨o, h⟩ := d.settlePins_frame
  rw [h, Device.rd, Device.rd]

/-- The end of a command changes the registers, the log of outputs and the levels of the two pins: nothing else. -/
theorem Device.settle_frame (d : Device) :
    ∃ r o a q, d.settle = { d with regs := r, out := o, unit := { d.unit with actOut := a, relqOut := q } } := by
  unfold Device.settle
  obtain ⟨r1, h1⟩ := d.settleAudit_frame
  rw [h1]
  obtain ⟨r2, h2⟩ := Device.settlePools_frame { d with regs := r1 }
  rw [h2]
  obtain ⟨r3, h3⟩ := Device.settleHealth_frame { d with regs := r2 }
  rw [h3]
  obtain ⟨r4, h4⟩ := Device.settleEngine_frame { d with regs := r3 }
  rw [h4]
  obtain ⟨o, h5⟩ := Device.settlePins_frame { d with regs := r4 }
  exact ⟨r4, o, _, _, h5⟩

/-- The end of a command leaves every register but those it works out. -/
theorem Device.rd_settle (d : Device) {k : Nat} (h : k ∉ shownRegs) : d.settle.rd k = d.rd k := by
  simp only [shownRegs, List.mem_cons, List.not_mem_nil, or_false, not_or] at h
  obtain ⟨ha, hp, hs, hf, hu, hm, hc, hc4⟩ := h
  have e1 : d.settleAudit.rd k = d.rd k := by
    unfold Device.settleAudit
    dsimp only
    rw [Device.rd_put_ne _ _ _ ha (by decide), Device.rd_put_ne _ _ _ ha (by decide),
      Device.rd_set_ne _ _ _ ha (.inl (by decide))]
  have e2 : d.settleAudit.settlePools.rd k = d.settleAudit.rd k := by
    unfold Device.settlePools
    rw [Device.rd_set_ne _ _ _ hf (.inl (by decide)), Device.rd_set_ne _ _ _ hs (.inl (by decide)),
      Device.rd_set_ne _ _ _ hp (.inl (by decide))]
  have e3 : d.settleAudit.settlePools.settleHealth.rd k = d.settleAudit.settlePools.rd k := by
    unfold Device.settleHealth
    dsimp only
    rw [Device.rd_put_ne _ _ _ hu (by decide), Device.rd_put_ne _ _ _ hu (by decide), Device.rd_put_ne _ _ _ hu (by decide),
      Device.rd_put_ne _ _ _ hu (by decide), Device.rd_set_ne _ _ _ hu (.inl (by decide)),
      Device.rd_put_ne _ _ _ hu (by decide)]
  have e4 : d.settleAudit.settlePools.settleHealth.settleEngine.rd k = d.settleAudit.settlePools.settleHealth.rd k := by
    unfold Device.settleEngine
    dsimp only [Device.when]
    split
    · split
      · rw [Device.inc, Device.rd_set_ne _ _ _ hc (.inr hc4), Device.rd_put_ne _ _ _ hm (by decide)]
      · rw [Device.rd_put_ne _ _ _ hm (by decide)]
    · rfl
  rw [Device.settle, Device.settlePins_rd, e4, e3, e2, e1]

/-- The end of a command leaves every field but those of the registers it works out (fields in the low word of their register). -/
theorem Device.get_settle (d : Device) {f : Field} (h : f.off ∉ shownRegs) (h4 : f.hi < 32) : d.settle.get f = d.get f := by
  simp only [Device.get, h4, if_true, d.rd_settle h]

/-- The end of a command leaves every 64-bit field. -/
theorem Device.get_settle64 (d : Device) {f : Field} (h : f.off ∉ shownRegs) (h4 : f.off + 4 ∉ shownRegs) :
    d.settle.get f = d.get f := by
  simp only [Device.get, Device.rd64, d.rd_settle h, d.rd_settle h4]

/-- A command's meaning made of an effect goes on, and leaves the queue. -/
theorem State.run_next (s : State) (f : Device → Device) :
    s.run f = .next { dev := (f s.dev).settle, pending := s.pending } := rfl

end Sys2Proof.Machine
end

