-- ==== Sys2Proof/Laws/State.lean ====
section
/-!
SUPPORT. The plain laws of the state's updates: each changes its own part and leaves every register word and every other part.
-/
namespace Sys2Proof.Machine

/-! ### Each update of a part, at the part and at the registers -/

@[simp] theorem Device.onPath_path (d : Device) (f : Path → Path) : (d.onPath f).path = f d.path := rfl
@[simp] theorem Device.onPath_regs (d : Device) (f : Path → Path) : (d.onPath f).regs = d.regs := rfl
@[simp] theorem Device.onPath_rd (d : Device) (f : Path → Path) (k : Nat) : (d.onPath f).rd k = d.rd k := rfl
@[simp] theorem Device.onPath_get (d : Device) (f : Path → Path) (x : Field) : (d.onPath f).get x = d.get x := rfl
@[simp] theorem Device.onPath_flag (d : Device) (f : Path → Path) (x : Field) : (d.onPath f).flag x = d.flag x := rfl
@[simp] theorem Device.onPath_unit (d : Device) (f : Path → Path) : (d.onPath f).unit = d.unit := rfl
@[simp] theorem Device.onPath_host (d : Device) (f : Path → Path) : (d.onPath f).host = d.host := rfl
@[simp] theorem Device.onPath_audit (d : Device) (f : Path → Path) : (d.onPath f).audit = d.audit := rfl
@[simp] theorem Device.onPath_ledger (d : Device) (f : Path → Path) : (d.onPath f).ledger = d.ledger := rfl
@[simp] theorem Device.onPath_mrv (d : Device) (f : Path → Path) : (d.onPath f).mrv = d.mrv := rfl
@[simp] theorem Device.onPath_ports (d : Device) (f : Path → Path) : (d.onPath f).ports = d.ports := rfl

@[simp] theorem Device.onUnit_unit (d : Device) (f : Unit → Unit) : (d.onUnit f).unit = f d.unit := rfl
@[simp] theorem Device.onUnit_regs (d : Device) (f : Unit → Unit) : (d.onUnit f).regs = d.regs := rfl
@[simp] theorem Device.onUnit_rd (d : Device) (f : Unit → Unit) (k : Nat) : (d.onUnit f).rd k = d.rd k := rfl
@[simp] theorem Device.onUnit_get (d : Device) (f : Unit → Unit) (x : Field) : (d.onUnit f).get x = d.get x := rfl
@[simp] theorem Device.onUnit_flag (d : Device) (f : Unit → Unit) (x : Field) : (d.onUnit f).flag x = d.flag x := rfl
@[simp] theorem Device.onUnit_path (d : Device) (f : Unit → Unit) : (d.onUnit f).path = d.path := rfl
@[simp] theorem Device.onUnit_host (d : Device) (f : Unit → Unit) : (d.onUnit f).host = d.host := rfl
@[simp] theorem Device.onUnit_audit (d : Device) (f : Unit → Unit) : (d.onUnit f).audit = d.audit := rfl
@[simp] theorem Device.onUnit_ledger (d : Device) (f : Unit → Unit) : (d.onUnit f).ledger = d.ledger := rfl
@[simp] theorem Device.onUnit_mrv (d : Device) (f : Unit → Unit) : (d.onUnit f).mrv = d.mrv := rfl
@[simp] theorem Device.onUnit_ports (d : Device) (f : Unit → Unit) : (d.onUnit f).ports = d.ports := rfl

@[simp] theorem Device.onPower_power (d : Device) (f : Power → Power) : (d.onPower f).power = f d.power := rfl
@[simp] theorem Device.onPower_regs (d : Device) (f : Power → Power) : (d.onPower f).regs = d.regs := rfl
@[simp] theorem Device.onPower_rd (d : Device) (f : Power → Power) (k : Nat) : (d.onPower f).rd k = d.rd k := rfl
@[simp] theorem Device.onPower_get (d : Device) (f : Power → Power) (x : Field) : (d.onPower f).get x = d.get x := rfl
@[simp] theorem Device.onPower_flag (d : Device) (f : Power → Power) (x : Field) : (d.onPower f).flag x = d.flag x := rfl
@[simp] theorem Device.onPower_path (d : Device) (f : Power → Power) : (d.onPower f).path = d.path := rfl
@[simp] theorem Device.onPower_unit (d : Device) (f : Power → Power) : (d.onPower f).unit = d.unit := rfl
@[simp] theorem Device.onPower_host (d : Device) (f : Power → Power) : (d.onPower f).host = d.host := rfl
@[simp] theorem Device.onPower_audit (d : Device) (f : Power → Power) : (d.onPower f).audit = d.audit := rfl
@[simp] theorem Device.onPower_ledger (d : Device) (f : Power → Power) : (d.onPower f).ledger = d.ledger := rfl
@[simp] theorem Device.onPower_mrv (d : Device) (f : Power → Power) : (d.onPower f).mrv = d.mrv := rfl
@[simp] theorem Device.onPower_ports (d : Device) (f : Power → Power) : (d.onPower f).ports = d.ports := rfl

@[simp] theorem Device.onJfl_jarlis (d : Device) (f : Jarlis → Jarlis) : (d.onJfl f).jarlis = f d.jarlis := rfl
@[simp] theorem Device.onJfl_regs (d : Device) (f : Jarlis → Jarlis) : (d.onJfl f).regs = d.regs := rfl
@[simp] theorem Device.onJfl_rd (d : Device) (f : Jarlis → Jarlis) (k : Nat) : (d.onJfl f).rd k = d.rd k := rfl
@[simp] theorem Device.onJfl_get (d : Device) (f : Jarlis → Jarlis) (x : Field) : (d.onJfl f).get x = d.get x := rfl
@[simp] theorem Device.onJfl_flag (d : Device) (f : Jarlis → Jarlis) (x : Field) : (d.onJfl f).flag x = d.flag x := rfl
@[simp] theorem Device.onJfl_path (d : Device) (f : Jarlis → Jarlis) : (d.onJfl f).path = d.path := rfl
@[simp] theorem Device.onJfl_unit (d : Device) (f : Jarlis → Jarlis) : (d.onJfl f).unit = d.unit := rfl
@[simp] theorem Device.onJfl_host (d : Device) (f : Jarlis → Jarlis) : (d.onJfl f).host = d.host := rfl
@[simp] theorem Device.onJfl_audit (d : Device) (f : Jarlis → Jarlis) : (d.onJfl f).audit = d.audit := rfl
@[simp] theorem Device.onJfl_ledger (d : Device) (f : Jarlis → Jarlis) : (d.onJfl f).ledger = d.ledger := rfl
@[simp] theorem Device.onJfl_mrv (d : Device) (f : Jarlis → Jarlis) : (d.onJfl f).mrv = d.mrv := rfl
@[simp] theorem Device.onJfl_ports (d : Device) (f : Jarlis → Jarlis) : (d.onJfl f).ports = d.ports := rfl

@[simp] theorem Device.onDst_deep (d : Device) (f : DeepStore → DeepStore) : (d.onDst f).deep = f d.deep := rfl
@[simp] theorem Device.onDst_regs (d : Device) (f : DeepStore → DeepStore) : (d.onDst f).regs = d.regs := rfl
@[simp] theorem Device.onDst_rd (d : Device) (f : DeepStore → DeepStore) (k : Nat) : (d.onDst f).rd k = d.rd k := rfl
@[simp] theorem Device.onDst_get (d : Device) (f : DeepStore → DeepStore) (x : Field) : (d.onDst f).get x = d.get x := rfl
@[simp] theorem Device.onDst_flag (d : Device) (f : DeepStore → DeepStore) (x : Field) : (d.onDst f).flag x = d.flag x := rfl
@[simp] theorem Device.onDst_path (d : Device) (f : DeepStore → DeepStore) : (d.onDst f).path = d.path := rfl
@[simp] theorem Device.onDst_unit (d : Device) (f : DeepStore → DeepStore) : (d.onDst f).unit = d.unit := rfl
@[simp] theorem Device.onDst_host (d : Device) (f : DeepStore → DeepStore) : (d.onDst f).host = d.host := rfl
@[simp] theorem Device.onDst_audit (d : Device) (f : DeepStore → DeepStore) : (d.onDst f).audit = d.audit := rfl
@[simp] theorem Device.onDst_ledger (d : Device) (f : DeepStore → DeepStore) : (d.onDst f).ledger = d.ledger := rfl
@[simp] theorem Device.onDst_mrv (d : Device) (f : DeepStore → DeepStore) : (d.onDst f).mrv = d.mrv := rfl
@[simp] theorem Device.onDst_ports (d : Device) (f : DeepStore → DeepStore) : (d.onDst f).ports = d.ports := rfl

@[simp] theorem Device.onLedger_ledger (d : Device) (f : Ledger → Ledger) : (d.onLedger f).ledger = f d.ledger := rfl
@[simp] theorem Device.onLedger_regs (d : Device) (f : Ledger → Ledger) : (d.onLedger f).regs = d.regs := rfl
@[simp] theorem Device.onLedger_rd (d : Device) (f : Ledger → Ledger) (k : Nat) : (d.onLedger f).rd k = d.rd k := rfl
@[simp] theorem Device.onLedger_get (d : Device) (f : Ledger → Ledger) (x : Field) : (d.onLedger f).get x = d.get x := rfl
@[simp] theorem Device.onLedger_flag (d : Device) (f : Ledger → Ledger) (x : Field) : (d.onLedger f).flag x = d.flag x := rfl
@[simp] theorem Device.onLedger_path (d : Device) (f : Ledger → Ledger) : (d.onLedger f).path = d.path := rfl
@[simp] theorem Device.onLedger_unit (d : Device) (f : Ledger → Ledger) : (d.onLedger f).unit = d.unit := rfl
@[simp] theorem Device.onLedger_host (d : Device) (f : Ledger → Ledger) : (d.onLedger f).host = d.host := rfl
@[simp] theorem Device.onLedger_audit (d : Device) (f : Ledger → Ledger) : (d.onLedger f).audit = d.audit := rfl
@[simp] theorem Device.onLedger_mrv (d : Device) (f : Ledger → Ledger) : (d.onLedger f).mrv = d.mrv := rfl
@[simp] theorem Device.onLedger_ports (d : Device) (f : Ledger → Ledger) : (d.onLedger f).ports = d.ports := rfl

@[simp] theorem Device.onDma_dma (d : Device) (f : DmaEng → DmaEng) : (d.onDma f).dma = f d.dma := rfl
@[simp] theorem Device.onDma_regs (d : Device) (f : DmaEng → DmaEng) : (d.onDma f).regs = d.regs := rfl
@[simp] theorem Device.onDma_rd (d : Device) (f : DmaEng → DmaEng) (k : Nat) : (d.onDma f).rd k = d.rd k := rfl
@[simp] theorem Device.onDma_get (d : Device) (f : DmaEng → DmaEng) (x : Field) : (d.onDma f).get x = d.get x := rfl
@[simp] theorem Device.onDma_flag (d : Device) (f : DmaEng → DmaEng) (x : Field) : (d.onDma f).flag x = d.flag x := rfl
@[simp] theorem Device.onDma_path (d : Device) (f : DmaEng → DmaEng) : (d.onDma f).path = d.path := rfl
@[simp] theorem Device.onDma_unit (d : Device) (f : DmaEng → DmaEng) : (d.onDma f).unit = d.unit := rfl
@[simp] theorem Device.onDma_host (d : Device) (f : DmaEng → DmaEng) : (d.onDma f).host = d.host := rfl
@[simp] theorem Device.onDma_audit (d : Device) (f : DmaEng → DmaEng) : (d.onDma f).audit = d.audit := rfl
@[simp] theorem Device.onDma_ledger (d : Device) (f : DmaEng → DmaEng) : (d.onDma f).ledger = d.ledger := rfl
@[simp] theorem Device.onDma_mrv (d : Device) (f : DmaEng → DmaEng) : (d.onDma f).mrv = d.mrv := rfl
@[simp] theorem Device.onDma_ports (d : Device) (f : DmaEng → DmaEng) : (d.onDma f).ports = d.ports := rfl

@[simp] theorem Device.onMeters_meters (d : Device) (f : Meters → Meters) : (d.onMeters f).meters = f d.meters := rfl
@[simp] theorem Device.onMeters_regs (d : Device) (f : Meters → Meters) : (d.onMeters f).regs = d.regs := rfl
@[simp] theorem Device.onMeters_rd (d : Device) (f : Meters → Meters) (k : Nat) : (d.onMeters f).rd k = d.rd k := rfl
@[simp] theorem Device.onMeters_get (d : Device) (f : Meters → Meters) (x : Field) : (d.onMeters f).get x = d.get x := rfl
@[simp] theorem Device.onMeters_flag (d : Device) (f : Meters → Meters) (x : Field) : (d.onMeters f).flag x = d.flag x := rfl
@[simp] theorem Device.onMeters_path (d : Device) (f : Meters → Meters) : (d.onMeters f).path = d.path := rfl
@[simp] theorem Device.onMeters_unit (d : Device) (f : Meters → Meters) : (d.onMeters f).unit = d.unit := rfl
@[simp] theorem Device.onMeters_host (d : Device) (f : Meters → Meters) : (d.onMeters f).host = d.host := rfl
@[simp] theorem Device.onMeters_audit (d : Device) (f : Meters → Meters) : (d.onMeters f).audit = d.audit := rfl
@[simp] theorem Device.onMeters_ledger (d : Device) (f : Meters → Meters) : (d.onMeters f).ledger = d.ledger := rfl
@[simp] theorem Device.onMeters_mrv (d : Device) (f : Meters → Meters) : (d.onMeters f).mrv = d.mrv := rfl
@[simp] theorem Device.onMeters_ports (d : Device) (f : Meters → Meters) : (d.onMeters f).ports = d.ports := rfl

@[simp] theorem Device.onPool_pool (d : Device) (f : Pool → Pool) : (d.onPool f).pool = f d.pool := rfl
@[simp] theorem Device.onPool_regs (d : Device) (f : Pool → Pool) : (d.onPool f).regs = d.regs := rfl
@[simp] theorem Device.onPool_rd (d : Device) (f : Pool → Pool) (k : Nat) : (d.onPool f).rd k = d.rd k := rfl
@[simp] theorem Device.onPool_get (d : Device) (f : Pool → Pool) (x : Field) : (d.onPool f).get x = d.get x := rfl
@[simp] theorem Device.onPool_flag (d : Device) (f : Pool → Pool) (x : Field) : (d.onPool f).flag x = d.flag x := rfl
@[simp] theorem Device.onPool_path (d : Device) (f : Pool → Pool) : (d.onPool f).path = d.path := rfl
@[simp] theorem Device.onPool_unit (d : Device) (f : Pool → Pool) : (d.onPool f).unit = d.unit := rfl
@[simp] theorem Device.onPool_host (d : Device) (f : Pool → Pool) : (d.onPool f).host = d.host := rfl
@[simp] theorem Device.onPool_audit (d : Device) (f : Pool → Pool) : (d.onPool f).audit = d.audit := rfl
@[simp] theorem Device.onPool_ledger (d : Device) (f : Pool → Pool) : (d.onPool f).ledger = d.ledger := rfl
@[simp] theorem Device.onPool_mrv (d : Device) (f : Pool → Pool) : (d.onPool f).mrv = d.mrv := rfl
@[simp] theorem Device.onPool_ports (d : Device) (f : Pool → Pool) : (d.onPool f).ports = d.ports := rfl

@[simp] theorem Device.onHost_host (d : Device) (f : HostQ → HostQ) : (d.onHost f).host = f d.host := rfl
@[simp] theorem Device.onHost_regs (d : Device) (f : HostQ → HostQ) : (d.onHost f).regs = d.regs := rfl
@[simp] theorem Device.onHost_rd (d : Device) (f : HostQ → HostQ) (k : Nat) : (d.onHost f).rd k = d.rd k := rfl
@[simp] theorem Device.onHost_get (d : Device) (f : HostQ → HostQ) (x : Field) : (d.onHost f).get x = d.get x := rfl
@[simp] theorem Device.onHost_flag (d : Device) (f : HostQ → HostQ) (x : Field) : (d.onHost f).flag x = d.flag x := rfl
@[simp] theorem Device.onHost_path (d : Device) (f : HostQ → HostQ) : (d.onHost f).path = d.path := rfl
@[simp] theorem Device.onHost_unit (d : Device) (f : HostQ → HostQ) : (d.onHost f).unit = d.unit := rfl
@[simp] theorem Device.onHost_audit (d : Device) (f : HostQ → HostQ) : (d.onHost f).audit = d.audit := rfl
@[simp] theorem Device.onHost_ledger (d : Device) (f : HostQ → HostQ) : (d.onHost f).ledger = d.ledger := rfl
@[simp] theorem Device.onHost_mrv (d : Device) (f : HostQ → HostQ) : (d.onHost f).mrv = d.mrv := rfl
@[simp] theorem Device.onHost_ports (d : Device) (f : HostQ → HostQ) : (d.onHost f).ports = d.ports := rfl

@[simp] theorem Device.onRules_rules (d : Device) (f : Rules → Rules) : (d.onRules f).rules = f d.rules := rfl
@[simp] theorem Device.onRules_regs (d : Device) (f : Rules → Rules) : (d.onRules f).regs = d.regs := rfl
@[simp] theorem Device.onRules_rd (d : Device) (f : Rules → Rules) (k : Nat) : (d.onRules f).rd k = d.rd k := rfl
@[simp] theorem Device.onRules_get (d : Device) (f : Rules → Rules) (x : Field) : (d.onRules f).get x = d.get x := rfl
@[simp] theorem Device.onRules_flag (d : Device) (f : Rules → Rules) (x : Field) : (d.onRules f).flag x = d.flag x := rfl
@[simp] theorem Device.onRules_path (d : Device) (f : Rules → Rules) : (d.onRules f).path = d.path := rfl
@[simp] theorem Device.onRules_unit (d : Device) (f : Rules → Rules) : (d.onRules f).unit = d.unit := rfl
@[simp] theorem Device.onRules_host (d : Device) (f : Rules → Rules) : (d.onRules f).host = d.host := rfl
@[simp] theorem Device.onRules_audit (d : Device) (f : Rules → Rules) : (d.onRules f).audit = d.audit := rfl
@[simp] theorem Device.onRules_ledger (d : Device) (f : Rules → Rules) : (d.onRules f).ledger = d.ledger := rfl
@[simp] theorem Device.onRules_mrv (d : Device) (f : Rules → Rules) : (d.onRules f).mrv = d.mrv := rfl
@[simp] theorem Device.onRules_ports (d : Device) (f : Rules → Rules) : (d.onRules f).ports = d.ports := rfl

@[simp] theorem Device.onBoot_boot (d : Device) (f : Boot → Boot) : (d.onBoot f).boot = f d.boot := rfl
@[simp] theorem Device.onBoot_regs (d : Device) (f : Boot → Boot) : (d.onBoot f).regs = d.regs := rfl
@[simp] theorem Device.onBoot_rd (d : Device) (f : Boot → Boot) (k : Nat) : (d.onBoot f).rd k = d.rd k := rfl
@[simp] theorem Device.onBoot_get (d : Device) (f : Boot → Boot) (x : Field) : (d.onBoot f).get x = d.get x := rfl
@[simp] theorem Device.onBoot_flag (d : Device) (f : Boot → Boot) (x : Field) : (d.onBoot f).flag x = d.flag x := rfl
@[simp] theorem Device.onBoot_path (d : Device) (f : Boot → Boot) : (d.onBoot f).path = d.path := rfl
@[simp] theorem Device.onBoot_unit (d : Device) (f : Boot → Boot) : (d.onBoot f).unit = d.unit := rfl
@[simp] theorem Device.onBoot_host (d : Device) (f : Boot → Boot) : (d.onBoot f).host = d.host := rfl
@[simp] theorem Device.onBoot_audit (d : Device) (f : Boot → Boot) : (d.onBoot f).audit = d.audit := rfl
@[simp] theorem Device.onBoot_ledger (d : Device) (f : Boot → Boot) : (d.onBoot f).ledger = d.ledger := rfl
@[simp] theorem Device.onBoot_mrv (d : Device) (f : Boot → Boot) : (d.onBoot f).mrv = d.mrv := rfl
@[simp] theorem Device.onBoot_ports (d : Device) (f : Boot → Boot) : (d.onBoot f).ports = d.ports := rfl

@[simp] theorem Device.onGaf_gaffer (d : Device) (f : Gaffer → Gaffer) : (d.onGaf f).gaffer = f d.gaffer := rfl
@[simp] theorem Device.onGaf_regs (d : Device) (f : Gaffer → Gaffer) : (d.onGaf f).regs = d.regs := rfl
@[simp] theorem Device.onGaf_rd (d : Device) (f : Gaffer → Gaffer) (k : Nat) : (d.onGaf f).rd k = d.rd k := rfl
@[simp] theorem Device.onGaf_get (d : Device) (f : Gaffer → Gaffer) (x : Field) : (d.onGaf f).get x = d.get x := rfl
@[simp] theorem Device.onGaf_flag (d : Device) (f : Gaffer → Gaffer) (x : Field) : (d.onGaf f).flag x = d.flag x := rfl
@[simp] theorem Device.onGaf_path (d : Device) (f : Gaffer → Gaffer) : (d.onGaf f).path = d.path := rfl
@[simp] theorem Device.onGaf_unit (d : Device) (f : Gaffer → Gaffer) : (d.onGaf f).unit = d.unit := rfl
@[simp] theorem Device.onGaf_host (d : Device) (f : Gaffer → Gaffer) : (d.onGaf f).host = d.host := rfl
@[simp] theorem Device.onGaf_audit (d : Device) (f : Gaffer → Gaffer) : (d.onGaf f).audit = d.audit := rfl
@[simp] theorem Device.onGaf_ledger (d : Device) (f : Gaffer → Gaffer) : (d.onGaf f).ledger = d.ledger := rfl
@[simp] theorem Device.onGaf_mrv (d : Device) (f : Gaffer → Gaffer) : (d.onGaf f).mrv = d.mrv := rfl
@[simp] theorem Device.onGaf_ports (d : Device) (f : Gaffer → Gaffer) : (d.onGaf f).ports = d.ports := rfl

@[simp] theorem Device.onSurvey_survey (d : Device) (f : Survey → Survey) : (d.onSurvey f).survey = f d.survey := rfl
@[simp] theorem Device.onSurvey_regs (d : Device) (f : Survey → Survey) : (d.onSurvey f).regs = d.regs := rfl
@[simp] theorem Device.onSurvey_rd (d : Device) (f : Survey → Survey) (k : Nat) : (d.onSurvey f).rd k = d.rd k := rfl
@[simp] theorem Device.onSurvey_get (d : Device) (f : Survey → Survey) (x : Field) : (d.onSurvey f).get x = d.get x := rfl
@[simp] theorem Device.onSurvey_flag (d : Device) (f : Survey → Survey) (x : Field) : (d.onSurvey f).flag x = d.flag x := rfl
@[simp] theorem Device.onSurvey_path (d : Device) (f : Survey → Survey) : (d.onSurvey f).path = d.path := rfl
@[simp] theorem Device.onSurvey_unit (d : Device) (f : Survey → Survey) : (d.onSurvey f).unit = d.unit := rfl
@[simp] theorem Device.onSurvey_host (d : Device) (f : Survey → Survey) : (d.onSurvey f).host = d.host := rfl
@[simp] theorem Device.onSurvey_audit (d : Device) (f : Survey → Survey) : (d.onSurvey f).audit = d.audit := rfl
@[simp] theorem Device.onSurvey_ledger (d : Device) (f : Survey → Survey) : (d.onSurvey f).ledger = d.ledger := rfl
@[simp] theorem Device.onSurvey_mrv (d : Device) (f : Survey → Survey) : (d.onSurvey f).mrv = d.mrv := rfl
@[simp] theorem Device.onSurvey_ports (d : Device) (f : Survey → Survey) : (d.onSurvey f).ports = d.ports := rfl

@[simp] theorem Device.onMrv_mrv (d : Device) (f : Marver → Marver) : (d.onMrv f).mrv = f d.mrv := rfl
@[simp] theorem Device.onMrv_regs (d : Device) (f : Marver → Marver) : (d.onMrv f).regs = d.regs := rfl
@[simp] theorem Device.onMrv_rd (d : Device) (f : Marver → Marver) (k : Nat) : (d.onMrv f).rd k = d.rd k := rfl
@[simp] theorem Device.onMrv_get (d : Device) (f : Marver → Marver) (x : Field) : (d.onMrv f).get x = d.get x := rfl
@[simp] theorem Device.onMrv_flag (d : Device) (f : Marver → Marver) (x : Field) : (d.onMrv f).flag x = d.flag x := rfl
@[simp] theorem Device.onMrv_path (d : Device) (f : Marver → Marver) : (d.onMrv f).path = d.path := rfl
@[simp] theorem Device.onMrv_unit (d : Device) (f : Marver → Marver) : (d.onMrv f).unit = d.unit := rfl
@[simp] theorem Device.onMrv_host (d : Device) (f : Marver → Marver) : (d.onMrv f).host = d.host := rfl
@[simp] theorem Device.onMrv_audit (d : Device) (f : Marver → Marver) : (d.onMrv f).audit = d.audit := rfl
@[simp] theorem Device.onMrv_ledger (d : Device) (f : Marver → Marver) : (d.onMrv f).ledger = d.ledger := rfl
@[simp] theorem Device.onMrv_ports (d : Device) (f : Marver → Marver) : (d.onMrv f).ports = d.ports := rfl

@[simp] theorem Device.onTime_time (d : Device) (f : TimeUnit → TimeUnit) : (d.onTime f).time = f d.time := rfl
@[simp] theorem Device.onTime_regs (d : Device) (f : TimeUnit → TimeUnit) : (d.onTime f).regs = d.regs := rfl
@[simp] theorem Device.onTime_rd (d : Device) (f : TimeUnit → TimeUnit) (k : Nat) : (d.onTime f).rd k = d.rd k := rfl
@[simp] theorem Device.onTime_get (d : Device) (f : TimeUnit → TimeUnit) (x : Field) : (d.onTime f).get x = d.get x := rfl
@[simp] theorem Device.onTime_flag (d : Device) (f : TimeUnit → TimeUnit) (x : Field) : (d.onTime f).flag x = d.flag x := rfl
@[simp] theorem Device.onTime_path (d : Device) (f : TimeUnit → TimeUnit) : (d.onTime f).path = d.path := rfl
@[simp] theorem Device.onTime_unit (d : Device) (f : TimeUnit → TimeUnit) : (d.onTime f).unit = d.unit := rfl
@[simp] theorem Device.onTime_host (d : Device) (f : TimeUnit → TimeUnit) : (d.onTime f).host = d.host := rfl
@[simp] theorem Device.onTime_audit (d : Device) (f : TimeUnit → TimeUnit) : (d.onTime f).audit = d.audit := rfl
@[simp] theorem Device.onTime_ledger (d : Device) (f : TimeUnit → TimeUnit) : (d.onTime f).ledger = d.ledger := rfl
@[simp] theorem Device.onTime_mrv (d : Device) (f : TimeUnit → TimeUnit) : (d.onTime f).mrv = d.mrv := rfl
@[simp] theorem Device.onTime_ports (d : Device) (f : TimeUnit → TimeUnit) : (d.onTime f).ports = d.ports := rfl

@[simp] theorem Device.onBus_bus (d : Device) (f : BusUnit → BusUnit) : (d.onBus f).bus = f d.bus := rfl
@[simp] theorem Device.onBus_regs (d : Device) (f : BusUnit → BusUnit) : (d.onBus f).regs = d.regs := rfl
@[simp] theorem Device.onBus_rd (d : Device) (f : BusUnit → BusUnit) (k : Nat) : (d.onBus f).rd k = d.rd k := rfl
@[simp] theorem Device.onBus_get (d : Device) (f : BusUnit → BusUnit) (x : Field) : (d.onBus f).get x = d.get x := rfl
@[simp] theorem Device.onBus_flag (d : Device) (f : BusUnit → BusUnit) (x : Field) : (d.onBus f).flag x = d.flag x := rfl
@[simp] theorem Device.onBus_path (d : Device) (f : BusUnit → BusUnit) : (d.onBus f).path = d.path := rfl
@[simp] theorem Device.onBus_unit (d : Device) (f : BusUnit → BusUnit) : (d.onBus f).unit = d.unit := rfl
@[simp] theorem Device.onBus_host (d : Device) (f : BusUnit → BusUnit) : (d.onBus f).host = d.host := rfl
@[simp] theorem Device.onBus_audit (d : Device) (f : BusUnit → BusUnit) : (d.onBus f).audit = d.audit := rfl
@[simp] theorem Device.onBus_ledger (d : Device) (f : BusUnit → BusUnit) : (d.onBus f).ledger = d.ledger := rfl
@[simp] theorem Device.onBus_mrv (d : Device) (f : BusUnit → BusUnit) : (d.onBus f).mrv = d.mrv := rfl
@[simp] theorem Device.onBus_ports (d : Device) (f : BusUnit → BusUnit) : (d.onBus f).ports = d.ports := rfl

/-! ### The other updates -/

@[simp] theorem Device.updPort_rd (d : Device) (p k : Nat) (f : Port → Port) : (d.updPort p f).rd k = d.rd k := rfl
@[simp] theorem Device.updPort_get (d : Device) (p : Nat) (f : Port → Port) (x : Field) : (d.updPort p f).get x = d.get x := rfl
@[simp] theorem Device.updPort_flag (d : Device) (p : Nat) (f : Port → Port) (x : Field) : (d.updPort p f).flag x = d.flag x := rfl
@[simp] theorem Device.updPort_path (d : Device) (p : Nat) (f : Port → Port) : (d.updPort p f).path = d.path := rfl
@[simp] theorem Device.updPort_unit (d : Device) (p : Nat) (f : Port → Port) : (d.updPort p f).unit = d.unit := rfl
@[simp] theorem Device.updPort_host (d : Device) (p : Nat) (f : Port → Port) : (d.updPort p f).host = d.host := rfl
@[simp] theorem Device.updPort_audit (d : Device) (p : Nat) (f : Port → Port) : (d.updPort p f).audit = d.audit := rfl
@[simp] theorem Device.updPort_ledger (d : Device) (p : Nat) (f : Port → Port) : (d.updPort p f).ledger = d.ledger := rfl
@[simp] theorem Device.updPort_mrv (d : Device) (p : Nat) (f : Port → Port) : (d.updPort p f).mrv = d.mrv := rfl
@[simp] theorem Device.emit_rd (d : Device) (o : Output) (k : Nat) : (d.emit o).rd k = d.rd k := rfl
@[simp] theorem Device.emit_get (d : Device) (o : Output) (x : Field) : (d.emit o).get x = d.get x := rfl
@[simp] theorem Device.emit_flag (d : Device) (o : Output) (x : Field) : (d.emit o).flag x = d.flag x := rfl
@[simp] theorem Device.emit_out (d : Device) (o : Output) : (d.emit o).out = o :: d.out := rfl
@[simp] theorem Device.emit_path (d : Device) (o : Output) : (d.emit o).path = d.path := rfl
@[simp] theorem Device.emit_unit (d : Device) (o : Output) : (d.emit o).unit = d.unit := rfl
@[simp] theorem Device.emit_host (d : Device) (o : Output) : (d.emit o).host = d.host := rfl
@[simp] theorem Device.emit_audit (d : Device) (o : Output) : (d.emit o).audit = d.audit := rfl
@[simp] theorem Device.emit_ledger (d : Device) (o : Output) : (d.emit o).ledger = d.ledger := rfl
@[simp] theorem Device.emit_mrv (d : Device) (o : Output) : (d.emit o).mrv = d.mrv := rfl
@[simp] theorem Device.emit_ports (d : Device) (o : Output) : (d.emit o).ports = d.ports := rfl
@[simp] theorem Device.wr_path (d : Device) (o v : Nat) : (d.wr o v).path = d.path := rfl
@[simp] theorem Device.wr_unit (d : Device) (o v : Nat) : (d.wr o v).unit = d.unit := rfl
@[simp] theorem Device.wr_host (d : Device) (o v : Nat) : (d.wr o v).host = d.host := rfl
@[simp] theorem Device.wr_audit (d : Device) (o v : Nat) : (d.wr o v).audit = d.audit := rfl
@[simp] theorem Device.wr_ledger (d : Device) (o v : Nat) : (d.wr o v).ledger = d.ledger := rfl
@[simp] theorem Device.wr_mrv (d : Device) (o v : Nat) : (d.wr o v).mrv = d.mrv := rfl
@[simp] theorem Device.wr_ports (d : Device) (o v : Nat) : (d.wr o v).ports = d.ports := rfl

/-! ### Reset -/

@[simp] theorem State.reset_pending : State.reset.pending = [] := rfl
@[simp] theorem State.reset_dev : State.reset.dev = {} := rfl
@[simp] theorem State.reset_rd (k : Nat) : State.reset.dev.rd k = (regDflt k).toNat := rfl

end Sys2Proof.Machine
end

