-- ==== Sys2Proof/Laws/Ops.lean ====
section
/-!
SUPPORT. What the shared operations leave alone: the words of other registers, and everything beside the registers.
-/
namespace Sys2Proof.Machine

/-! ### Several effects in order -/

/-- What every single effect keeps, several in order keep. -/
theorem Device.each_keeps {α β : Type} (P : Device → β) (l : List α) (f : Device → α → Device)
    (h : ∀ d a, a ∈ l → P (f d a) = P d) (d : Device) : P (d.each l f) = P d := by
  induction l generalizing d with
  | nil => rfl
  | cons a l ih =>
    have e := ih (fun d b hb => h d b (List.mem_cons_of_mem _ hb)) (f d a)
    rw [Device.each, List.foldl_cons]
    rw [Device.each] at e
    rw [e, h d a (List.mem_cons_self ..)]

theorem Device.when_keeps {β : Type} (P : Device → β) (c : Bool) (f : Device → Device) (h : ∀ d, P (f d) = P d) (d : Device) :
    P (d.when c f) = P d := by
  unfold Device.when; split
  · exact h d
  · rfl

/-! ### Words of other registers -/

theorem Device.rd_inc_ne (d : Device) (f : Field) (n : Nat) {k : Nat} (h : k ≠ f.off) (h4 : f.hi < 32 ∨ k ≠ f.off + 4) :
    (d.inc f n).rd k = d.rd k := d.rd_set_ne f _ h h4

/-- Counting a performance event changes no register but the performance counters. -/
theorem Device.rd_pmc (d : Device) (event inst n : Nat) {k : Nat} (h : ¬ pmcWord k) : (d.pmc event inst n).rd k = d.rd k := by
  refine Device.each_keeps (fun d => d.rd k) _ _ (fun d e he => ?_) d
  have hr : 0x50000 ≤ e.1 ∧ e.1 < 0x50400 := by
    have := (List.mem_filter.mp he).2
    simpa using this
  simp only [pmcWord] at h
  dsimp only
  split
  · rw [Device.when]
    have h1 : (d.set (Reg.PMC_CNT_COUNT ((e.1 - 0x50000) / 4)) (d.get (Reg.PMC_CNT_COUNT ((e.1 - 0x50000) / 4)) + n)).rd k
        = d.rd k := by
      refine d.rd_set_ne _ _ ?_ (.inr ?_) <;> simp only [Reg.PMC_CNT_COUNT, Reg.PMC_CNT] <;> omega
    split
    · rw [Device.rd_wr_ne _ _ (by simp only [Reg.PMC_OVF]; omega), h1]
    · exact h1
  · rfl

theorem Device.rd_macStat (d : Device) (p i n : Nat) (hi : i < 128) {k : Nat} (h : ¬ macStatWord p k) :
    (d.macStat p i n).rd k = d.rd k := by
  unfold Device.macStat
  split
  · simp only [macStatWord] at h
    refine d.rd_inc_ne _ _ ?_ (.inr ?_) <;> simp only [Reg.MAC_STAT_COUNT, Reg.MAC_STAT] <;> omega
  · rfl

/-- Counting a discard changes no register but the Cullet and performance counters. -/
theorem Device.rd_cullet (d : Device) {s p r : Nat} (hs : s < 16) (hp : p < 516) (hr : r < 48) {k : Nat}
    (h : ¬ culletWord k) (hc : ¬ pmcWord k) : (d.cullet s p r).rd k = d.rd k := by
  simp only [culletWord] at h
  rw [Device.cullet, Device.rd_pmc _ _ _ _ hc, Device.rd_inc_ne, Device.rd_inc_ne]
    <;> simp only [Reg.BUF_CULLET_SLC_COUNT, Reg.BUF_CULLET_SLC, Reg.BUF_CULLET_PORT_COUNT, Reg.BUF_CULLET_PORT] <;> omega

/-! ### Everything beside the registers -/

@[simp] theorem Device.hidden_wr (d : Device) (o v : Nat) : (d.wr o v).hidden = d.hidden := rfl
@[simp] theorem Device.hidden_emit (d : Device) (o : Output) : (d.emit o).hidden = d.hidden := rfl

theorem Device.hidden_regs (d : Device) (r : Map Word) : ({ d with regs := r } : Device).hidden = d.hidden := rfl

@[simp] theorem Device.hidden_set (d : Device) (f : Field) (v : Nat) : (d.set f v).hidden = d.hidden := by
  obtain ⟨r, h⟩ := d.set_frame f v
  rw [h, Device.hidden_regs]

@[simp] theorem Device.hidden_put (d : Device) (f : Field) (b : Bool) : (d.put f b).hidden = d.hidden := d.hidden_set f _
@[simp] theorem Device.hidden_inc (d : Device) (f : Field) (n : Nat) : (d.inc f n).hidden = d.hidden := d.hidden_set f _
@[simp] theorem Device.hidden_incSat (d : Device) (f : Field) : (d.incSat f).hidden = d.hidden := d.hidden_set f _

@[simp] theorem Device.hidden_pmc (d : Device) (event inst n : Nat) : (d.pmc event inst n).hidden = d.hidden := by
  obtain ⟨r, h⟩ := d.pmc_frame event inst n
  rw [h, Device.hidden_regs]

@[simp] theorem Device.hidden_cullet (d : Device) (s p r : Nat) : (d.cullet s p r).hidden = d.hidden := by
  obtain ⟨x, h⟩ := d.cullet_frame s p r
  rw [h, Device.hidden_regs]

@[simp] theorem Device.hidden_macStat (d : Device) (p i n : Nat) : (d.macStat p i n).hidden = d.hidden := by
  obtain ⟨x, h⟩ := d.macStat_frame p i n
  rw [h, Device.hidden_regs]

@[simp] theorem Device.hidden_settle (d : Device) : d.settle.hidden = d.hidden := by
  obtain ⟨r, o, a, q, h⟩ := d.settle_frame
  rw [h]; rfl

/-- Two devices with the same hidden part have the same parts. -/
theorem Device.hidden_ports {d e : Device} (h : d.hidden = e.hidden) : d.ports = e.ports := congrArg (·.ports) h
theorem Device.hidden_path {d e : Device} (h : d.hidden = e.hidden) : d.path = e.path := congrArg (·.path) h

end Sys2Proof.Machine
end

