-- ==== Sys2Proof/Laws/Goes.lean ====
section
/-!
SUPPORT. How a statement about a command is brought down to its effect on the device, and what is read through the end of a command.
-/
namespace Sys2Proof.Machine

/-- A command made of an effect goes on: what is left to show is about the effect and the end of the command. -/
theorem goes_run {s : State} {f : Device → Device} {P : State → Prop}
    (h : P { dev := (f s.dev).settle, pending := s.pending }) : Goes (s.run f) P := ⟨_, rfl, h⟩

/-- An offset that is none of the registers that follow the state. -/
theorem notShown {k : Nat} (h : k ≠ 0x10004 ∧ k ≠ 0x70010 ∧ (k < 0xD80024 ∨ 0xD80034 < k) ∧
    (k < 0x1000000)) : k ∉ shownRegs := by
  simp only [shownRegs, Reg.AUD_STATUS, Reg.BUF_PHYS_FREE, Reg.BUF_SHARED_FREE, Reg.BUF_DEEP_FREE, Reg.UNT_HEALTH, Reg.MRV_STATUS,
    Reg.MRV_STAT,
    List.mem_cons, List.not_mem_nil, or_false, not_or]
  omega

theorem tileOf_lt (p : Fin 512) : tileOf p.val < 64 := by unfold tileOf; omega
theorem laneIn_lt (p : Nat) : laneIn p < 8 := by unfold laneIn; omega

/-! ### Parts through the end of a command -/

@[simp] theorem Device.settle_ports (d : Device) : d.settle.ports = d.ports := Device.hidden_ports d.hidden_settle
@[simp] theorem Device.settle_path (d : Device) : d.settle.path = d.path := Device.hidden_path d.hidden_settle
@[simp] theorem Device.settle_port (d : Device) (q : Nat) : d.settle.port q = d.port q := by
  rw [Device.port, Device.settle_ports, Device.port]

/-! ### Parts through register operations -/

@[simp] theorem Device.set_ports (d : Device) (f : Field) (v : Nat) : (d.set f v).ports = d.ports :=
  Device.hidden_ports (d.hidden_set f v)
@[simp] theorem Device.set_path (d : Device) (f : Field) (v : Nat) : (d.set f v).path = d.path :=
  Device.hidden_path (d.hidden_set f v)
@[simp] theorem Device.set_port (d : Device) (f : Field) (v q : Nat) : (d.set f v).port q = d.port q := by
  rw [Device.port, Device.set_ports, Device.port]
@[simp] theorem Device.macStat_ports (d : Device) (p i n : Nat) : (d.macStat p i n).ports = d.ports :=
  Device.hidden_ports (d.hidden_macStat p i n)
@[simp] theorem Device.macStat_port (d : Device) (p i n q : Nat) : (d.macStat p i n).port q = d.port q := by
  rw [Device.port, Device.macStat_ports, Device.port]

/-- A port after an update of one. -/
theorem Device.updPort_port (d : Device) (p q : Nat) (f : Port → Port) :
    (d.updPort p f).port q = if q = p then f (d.port p) else d.port q := by
  simp only [Device.updPort, Device.port, mupd, mget_mset]

end Sys2Proof.Machine
end

