-- ==== Sys2Proof/Laws/Mac.lean ====
section
/-!
SUPPORT. What the operations of the MAC do: pause targets, watchdog breaks, XOFF, and the frame in reception.
-/
namespace Sys2Proof.Machine

theorem fcStatus_shown (p : Fin 512) : Reg.MAC_FC_STATUS (tileOf p) (laneIn p) ∉ shownRegs := by
  have := tileOf_lt p
  have := laneIn_lt p
  exact notShown (by simp only [Reg.MAC_FC_STATUS]; omega)

/-- Loading a pause timer: the target's bit, its timer, and nothing else. -/
theorem Device.pauseLoad_spec (d : Device) (p i q : Nat) (hi : i < 8) :
    let F := Reg.MAC_FC_STATUS_RX_PAUSED (tileOf p) (laneIn p)
    (d.pauseLoad p i q).get F = setBit (d.get F) i (q != 0) ∧
    (∀ k, k ≠ F.off → (d.pauseLoad p i q).rd k = d.rd k) ∧
    (d.pauseLoad p i q).hidden = { d.hidden with ports := (d.pauseLoad p i q).ports } ∧
    (∀ x, (d.pauseLoad p i q).port x = if x = p then { d.port p with
        pauseQ := if q = 0 then (d.port p).pauseQ.filter (fun e => e.1 != i)
          else (i, q) :: (d.port p).pauseQ.filter (fun e => e.1 != i) } else d.port x) := by
  intro F
  refine ⟨?_, ?_, ?_, ?_⟩ <;> unfold Device.pauseLoad <;> dsimp only
  · rw [Device.get_set_same _ _ _ (by simp [Reg.MAC_FC_STATUS_RX_PAUSED]) (by simp [Reg.MAC_FC_STATUS_RX_PAUSED]),
      Nat.mod_eq_of_lt]
    · rfl
    · exact setBit_lt _ (Device.get_lt _ _) (by simp [Reg.MAC_FC_STATUS_RX_PAUSED]; omega)
  · intro k hk
    rw [Device.rd_set_ne _ (Reg.MAC_FC_STATUS_RX_PAUSED (tileOf p) (laneIn p)) _ hk
      (.inl (by simp [Reg.MAC_FC_STATUS_RX_PAUSED]))]
    rfl
  · rw [Device.hidden_set, Device.set_ports]; rfl
  · intro x
    rw [Device.set_port, Device.updPort_port]

end Sys2Proof.Machine
end

