-- ==== Sys2Proof/Laws/Memory.lean ====
section
/-!
SUPPORT. The addressed memories keep their canonical form: register words, shared SRAM and flash, under every operation that writes them.
-/
namespace Sys2Proof.Machine

/-- Writing any number of entries keeps the canonical form. -/
theorem msets_wf {α β : Type} [DecidableEq α] (d : Nat → α) (k : β → Nat) (v : β → α) (l : List β) (m : Map α) (w : mwf d m = true) :
    mwf d (l.foldl (fun m i => mset d m (k i) (v i)) m) = true := by
  induction l generalizing m with
  | nil => exact w
  | cons x l ih => exact ih _ (mset_wf d m _ _ w)

/-- Memory is canonical at reset. -/
theorem Memory.wf_reset : Memory.wf State.reset.dev := ⟨rfl, rfl, rfl, rfl, rfl, rfl⟩

/-- What leaves the memories keeps their form. -/
theorem Memory.wf_of_eq {d e : Device} (w : Memory.wf d) (hr : e.regs = d.regs) (hs : e.sram = d.sram) (hf : e.flash.mem = d.flash.mem)
    (hl : e.ledger.mem = d.ledger.mem) (hp : e.pool.mem = d.pool.mem)
    (hc : e.coreSram = d.coreSram) : Memory.wf e := by
  rw [Memory.wf, hr, hs, hf, hl, hp, hc]; exact w

/-- A register write keeps the form. -/
theorem Memory.wf_wr {d : Device} (w : Memory.wf d) (o v : Nat) : Memory.wf (d.wr o v) := ⟨mset_wf _ _ _ _ w.1, w.2⟩

/-- A write of a register field keeps the form. -/
theorem Memory.wf_set {d : Device} (w : Memory.wf d) (f : Field) (v : Nat) : Memory.wf (d.set f v) := by
  unfold Device.set Device.wr64; split <;> exact Memory.wf_wr (by first | exact w | exact Memory.wf_wr w _ _) _ _

/-- Erasing a range of registers keeps the form. -/
theorem Memory.wf_erase {d : Device} (w : Memory.wf d) (lo hi : Nat) : Memory.wf { d with regs := merase d.regs lo hi } :=
  ⟨merase_wf _ _ _ _ w.1, w.2⟩

/-- A write of shared SRAM keeps the form. -/
theorem Memory.wf_sramWrite {d : Device} (w : Memory.wf d) (a : Nat) (bs : List Byte) : Memory.wf (d.sramWrite a bs) :=
  ⟨w.1, msets_wf _ _ _ _ _ w.2.1, w.2.2⟩

/-- A write of shared SRAM that its write protection judges keeps the form. -/
theorem Memory.wf_sramStore {d : Device} (w : Memory.wf d) (a : Nat) (bs : List Byte) : Memory.wf (d.sramStore a bs) := by
  unfold Device.sramStore
  generalize List.range bs.length = l
  induction l generalizing d with
  | nil => exact w
  | cons i l ih =>
    rw [List.foldl_cons]
    split
    · exact ih w
    · exact ih (Memory.wf_sramWrite w _ _)

/-- Programming the flash keeps the form. -/
theorem Memory.wf_flashWrite {d : Device} (w : Memory.wf d) (q o : Nat) (bs : List Byte) : Memory.wf (d.flashWrite q o bs) :=
  ⟨w.1, w.2.1, msets_wf _ _ _ _ _ w.2.2.1, w.2.2.2⟩

/-- Erasing flash keeps the form. -/
theorem Memory.wf_flashErase {d : Device} (w : Memory.wf d) (q o n : Nat) : Memory.wf (d.flashErase q o n) :=
  ⟨w.1, w.2.1, merase_wf _ _ _ _ w.2.2.1, w.2.2.2⟩

/-- A write of the ledger keeps the form. -/
theorem Memory.wf_ledWrite {d : Device} (w : Memory.wf d) (a : Nat) (bs : List Byte) : Memory.wf (d.ledWrite a bs) :=
  ⟨w.1, w.2.1, w.2.2.1, msets_wf _ _ _ _ _ w.2.2.2.1, w.2.2.2.2⟩

/-- A write of a byte of a pool buffer keeps the form. -/
theorem Memory.wf_poolPut {d : Device} (w : Memory.wf d) (h o : Nat) (b : Byte) : Memory.wf (d.poolPut h o b) :=
  ⟨w.1, w.2.1, w.2.2.1, w.2.2.2.1, mset_wf _ _ _ _ w.2.2.2.2.1, w.2.2.2.2.2⟩

end Sys2Proof.Machine
end

