-- ==== Sys2Proof/Machine/Package.lean ====
section
/-!
DEFINITION. The package: the names of its balls, the signal or supply of each (R598 to R602, R605), and the power of the domains and
of the lanes (R589, R590). Nothing of it changes while the device runs, so it is no part of the state.
-/
namespace Sys2Proof.Machine

/-! ### Ball names (R598) -/

/-- The letters of a row's name. -/
def rowLetters : List String :=
  ["A", "B", "C", "D", "E", "F", "G", "H", "J", "K", "L", "M", "N", "P", "T", "U", "V", "W", "Y"]

/-- The name of row `r`, from 1 to 106. -/
def rowName (r : Nat) : String :=
  if r ≤ 19 then rowLetters.getD (r - 1) ""
  else rowLetters.getD ((r - 20) / 19) "" ++ rowLetters.getD ((r - 20) % 19) ""

/-- A ball is named by its row followed by its column. -/
def ballName (ball : Nat × Nat) : String := rowName ball.1 ++ toString ball.2

/-! ### Lanes and their reference clocks (R599, R600) -/

/-- North coordinates turned to a side: 0 north, 1 east, 2 south, 3 west. -/
def toSide (side : Nat) (north : Nat × Nat) : Nat × Nat :=
  match side with
  | 0 => north
  | 1 => (north.2, 107 - north.1)
  | 2 => (107 - north.1, 107 - north.2)
  | _ => (107 - north.2, north.1)

/-- The ball of lane `n`: of its transmitter or receiver, positive or negative. -/
def laneBall (n : Nat) (tx pos : Bool) : Nat × Nat :=
  let d := n % 128 / 32
  let c := n % 32
  toSide (n / 128) (4 * d + (if tx then 2 else 4), 22 + 2 * c + (if pos then 0 else 1))

/-- The ball of SERDES_REFCLK_i. -/
def serdesRefBall (i : Nat) (pos : Bool) : Nat × Nat := toSide (i / 4) (4 * (i % 4) + 2, if pos then 18 else 19)

/-! ### Corner groups and low-speed pins (R601, R602) -/

/-- The ball of PCIe lane `j`. -/
def pcieBall (j : Nat) (tx pos : Bool) : Nat × Nat :=
  (4 * (j / 4) + (if tx then 2 else 4), 92 + 3 * (j % 4) + (if pos then 0 else 1))

/-- The ball of Punty lane `i`. -/
def puntyBall (i : Nat) (tx pos : Bool) : Nat × Nat := (if tx then 105 else 103, 92 + 3 * i + (if pos then 0 else 1))

/-- A pin's name with an index. -/
def indexed (name : String) (i : Nat) : String := name ++ "[" ++ toString i ++ "]"

/-- The low-speed pins by row and column (R602). -/
def lowPins : List ((Nat × Nat) × String) :=
  ((List.range 16).map fun i => ((1, i + 1), indexed "I2C_SCL" i))
  ++ ((List.range 16).map fun i => ((2, i + 1), indexed "I2C_SDA" i))
  ++ [((4, 1), "XSPI_CLK"), ((4, 2), "XSPI_CS_N"), ((4, 3), "XSPI_DQS"), ((4, 4), "XSPI_RST_N")]
  ++ ((List.range 8).map fun i => ((4, i + 5), indexed "XSPI_DQ" i))
  ++ [((6, 1), "TCK"), ((6, 2), "TMS"), ((6, 3), "TDI"), ((6, 4), "TDO"), ((6, 5), "TRST_N"), ((6, 7), "BOOT_RETRY"),
      ((6, 8), "XSPI_SINGLE"), ((6, 9), "UNIT_PAIR"), ((6, 10), "UNIT_SLOT"), ((6, 12), "SYS_RST_N"), ((6, 13), "PERST_N")]
  ++ [((8, 1), "UNIT_ACT_N"), ((8, 2), "UNIT_RELQ_N"), ((8, 3), "UNIT_PEER_ACT_N"), ((8, 4), "UNIT_PEER_RELQ_N"),
      ((8, 6), "THERM_N"), ((8, 8), "AVS_CLK"), ((8, 9), "AVS_MDATA"), ((8, 10), "AVS_SDATA")]
  ++ [((10, 1), "PPS_IN"), ((10, 2), "PPS_OUT"), ((10, 3), "TOD_TX"), ((10, 4), "TOD_RX"), ((10, 6), "SYNCE_OUT0_P"),
      ((10, 7), "SYNCE_OUT0_N"), ((10, 9), "SYNCE_OUT1_P"), ((10, 10), "SYNCE_OUT1_N"), ((10, 12), "AON_REFCLK")]
  ++ ((List.range 8).map fun i => ((12, i + 1), indexed "SNS_EXT" i)) ++ [((12, 10), "SNS_GND")]
  ++ ((List.range 8).map fun i => ((14, i + 1), "VDDIO_18")) ++ ((List.range 4).map fun i => ((14, i + 9), "VDD_AON"))

/-! ### Supplies (R605) -/

/-- The side of the centre whose edge a ball lies nearest to: of several, the first. -/
def centreSide (r c e : Nat) : String :=
  if r - 17 = e then "N" else if 90 - c = e then "E" else if 90 - r = e then "S" else "W"

/-- The rail of a ball that R599 to R602 do not place. -/
def rail (r c : Nat) : String :=
  if (r + c) % 2 = 0 then "VSS"
  else if r < 17 ∨ 90 < r ∨ c < 17 ∨ 90 < c then "VSS"
  else
    let e := min (min (r - 17) (90 - r)) (min (c - 17) (90 - c))
    if e ≤ 3 then (if e ≤ 1 then "VDDT_SDS_" else "VDDA_SDS_") ++ centreSide r c e
    else if e ≤ 7 then (if r < 54 ∧ 54 ≤ c then "VDDQ_HBM" else if 54 ≤ r ∧ 54 ≤ c then "VPP_HBM" else "VDDC_HBM")
    else if 25 ≤ r ∧ r ≤ 32 ∧ 75 ≤ c ∧ c ≤ 82 then "VDD_GAF"
    else if c % 8 = 1 ∨ c % 8 = 2 then "VDD_SRAM"
    else "VDD_CORE"

/-! ### The signal of every ball -/

/-- What a ball carries. -/
inductive Signal where
  | lane (n : Nat) (tx pos : Bool)
  | serdesRef (i : Nat) (pos : Bool)
  | pcie (j : Nat) (tx pos : Bool)
  | pcieRef (pos : Bool)
  | punty (i : Nat) (tx pos : Bool)
  | pin (name : String)
  | supply (name : String)
  deriving DecidableEq, Repr

/-- A real ball in the north coordinates of a side: what `toSide` turns, turned back. -/
def fromSide (side : Nat) (ball : Nat × Nat) : Nat × Nat :=
  match side with
  | 0 => ball
  | 1 => (107 - ball.2, ball.1)
  | 2 => (107 - ball.1, 107 - ball.2)
  | _ => (ball.2, 107 - ball.1)

/-- What a ball of the band of a side, or beside it, carries: a lane's signal, VSS between the lanes, or a reference clock. -/
def bandSignal (side : Nat) (ball : Nat × Nat) : Option Signal :=
  let (row, col) := fromSide side ball
  let d := (row - 1) / 4
  if row < 1 ∨ 16 < row then none
  else if 22 ≤ col ∧ col ≤ 85 then
    let lane := 128 * side + 32 * d + (col - 22) / 2
    if row % 4 = 2 then some (.lane lane true (col % 2 == 0))
    else if row % 4 = 0 then some (.lane lane false (col % 2 == 0))
    else some (.supply "VSS")
  else if row % 4 = 2 ∧ (col = 18 ∨ col = 19) then some (.serdesRef (4 * side + d) (col == 18))
  else none

/-- What a ball of the corners of PCIe and of the Punty link carries (R601). -/
def cornerSignal (r c : Nat) : Option Signal :=
  let u := (c - 92) / 3
  let p := (c - 92) % 3
  let named := decide (92 ≤ c) && decide (c < 104) && decide (p < 2)
  if r = 2 ∧ c = 104 then some (.pcieRef true)
  else if r = 2 ∧ c = 105 then some (.pcieRef false)
  else if r = 17 ∧ 92 ≤ c ∧ c ≤ 99 then some (.supply "VDD_PCIE")
  else if r = 17 ∧ 100 ≤ c ∧ c ≤ 103 then some (.supply "VDDH_PCIE")
  else if 2 ≤ r ∧ r ≤ 16 ∧ r % 2 = 0 ∧ named then some (.pcie (4 * ((r - 2) / 4) + u) (r % 4 == 2) (p == 0))
  else if (r = 105 ∨ r = 103) ∧ named then some (.punty u (r == 105) (p == 0))
  else none

/-- What a ball of the low-speed rows and columns carries (R602). -/
def lowSignal (r c : Nat) : Option Signal :=
  if r ≤ 14 ∧ c ≤ 16 then
    match lowPins.find? fun x => x.1 == (r, c) with
    | some (_, name) => some (if r = 14 then .supply name else .pin name)
    | none => some (.supply "VSS")
  else none

/-- What the ball at row `r` and column `c` carries: exactly one signal or supply. -/
def signalAt (r c : Nat) : Signal :=
  (((List.range 4).findSome? fun side => bandSignal side (r, c)).or ((cornerSignal r c).or (lowSignal r c))).getD
    (.supply (rail r c))

/-! ### Power (R589, R590) -/

/-- The largest power of a lane at a rate code, in mW (R590). -/
def laneMilliwatt (rate : Nat) : Nat := [80, 150, 220, 330, 450, 680].getD rate 0

/-- A lane's typical power at a rate code, in mW (R590). -/
def laneTypical (rate : Nat) : Nat := [60, 120, 190, 280, 380, 580].getD rate 0

/-- The largest power of a domain in mW, the lanes of a tile at rate code 5 included (R577, R589). -/
def domainMilliwatt (n : Nat) : Nat :=
  if n < 64 then 8 * laneMilliwatt 5 + 1250
  else if n < 80 then 10500
  else if n < 84 then 6000
  else if n < 88 then 11000
  else if n < 104 then 750
  else if n < 112 then 1500
  else if n = 112 then 6000
  else if n = 113 then 2000
  else if n = 114 then 4000
  else if n = 115 then 300
  else 0

/-- The most that the domains draw that are awake, in mW: one that is down draws none (R589). -/
def Device.domainPower (d : Device) : Nat :=
  (((List.range 116).filter d.pwrOn).map domainMilliwatt).sum

end Sys2Proof.Machine
end

