-- ==== Sys2Proof/WellFormed.lean ====
section
/-!
DEFINITION. The commands whose operands can stand: a list that carries an entry, a message or a set of readings has the length that the
spec gives it. Every other operand is in range by its type.
-/
namespace Sys2Proof

/-- A table command entry of 64 bytes (R193), or none where the engine takes the entry from a queue. -/
def entryOk (e : List Byte) : Bool := decide (e.length = 64) || e.isEmpty

/-- The read of a module channel (R83): a failed transfer, no answer, or five bytes. -/
def moduleReadOk (r : Option (List Byte)) : Bool := r.all fun b => decide (b.length = 5) || b.isEmpty

/-- A command is well-formed. -/
def Instr.wellFormed (i : Instr) : Bool :=
  match i with
  | .sysRstNAssert => true
  | .sysRstNRelease _ _ _ _ _ _ => true
  | .perstNAssert => true
  | .pciePowerDown => true
  | .perstNRelease => true
  | .castOnStepDone _ => true
  | .classERecheck _ => true
  | .castOnWatchdog => true
  | .configRecord => true
  | .waitFieldTimeout => true
  | .firmwareReady roles => decide (roles.length = 16)
  | .firmwareStartTimeout => true
  | .recast _ _ _ => true
  | .enterSelvedge _ _ => true
  | .setPref _ _ _ => true
  | .lockSet _ => true
  | .lockRelease _ => true
  | .flashWeWrite _ _ _ => true
  | .railSample mvs => decide (mvs.length = 32)
  | .tempSample temps => decide (temps.length = 64)
  | .supplyWindowCross _ _ => true
  | .thermalShutdown => true
  | .surveyLanes _ _ _ _ _ => true
  | .surveyModules _ => true
  | .laneSurveyDone _ _ _ _ _ _ _ _ _ _ _ => true
  | .moduleSurveyDone _ channels => decide (channels.length ≤ 8) && channels.all moduleReadOk
  | .modulePresencePoll _ read => moduleReadOk read
  | .autoResurvey _ => true
  | .portEnable _ _ _ => true
  | .portChange _ _ _ => true
  | .portDelete _ _ _ => true
  | .portOptionChange _ _ _ _ _ _ => true
  | .staleDrainDone _ => true
  | .pllLock _ _ => true
  | .pllLoss _ => true
  | .refclkLoss _ => true
  | .txmapWrite _ _ _ => true
  | .laneCtrlWrite _ _ _ => true
  | .anPageExchangeDone _ _ => true
  | .parallelDetect _ => true
  | .trainingComplete _ => true
  | .jarlisPagesReceived _ _ _ _ _ => true
  | .notJarlisRetry _ => true
  | .linkDown _ => true
  | .linkReacquired _ => true
  | .reacquireTimeout _ => true
  | .shedWindowEnd _ => true
  | .occupancyRestore _ => true
  | .shedDone _ => true
  | .laneWidthReceived _ _ => true
  | .shedLanesLocked _ => true
  | .laneReadyReceived _ _ => true
  | .restoreTimeout _ => true
  | .sleepEnter _ => true
  | .sleepWake _ => true
  | .wakeProbe _ => true
  | .wakeProbeEnd _ _ => true
  | .rxFrameStart _ => true
  | .rxAddressComplete _ bytes => decide (bytes.length = 14) || decide (bytes.length = 30)
  | .rxGatherBlock _ x => decide (x.bytes.length ≤ 256)
  | .rxFrameEnd _ bytes _ _ => decide (bytes.length ≤ 256)
  | .maxLenWrite _ _ _ => true
  | .rxPauseFrame _ => true
  | .rxPfcFrame _ => true
  | .pauseTimerExpire _ _ => true
  | .xoffAssert _ => true
  | .xoffRefresh _ => true
  | .xoffRelease _ => true
  | .fcModeWrite _ _ _ => true
  | .pfcMapWrite _ _ _ _ => true
  | .pauseWdTrip _ _ => true
  | .pauseWdBreakEnd _ _ => true
  | .pipelineTake _ => true
  | .frameParse _ => true
  | .frameLookup _ _ => true
  | .meterUpdate _ _ => true
  | .frameEdit _ => true
  | .headerCapture _ => true
  | .admission _ => true
  | .yokeCell _ => true
  | .stitchArrive _ _ _ _ _ => true
  | .mcCopyExpand _ => true
  | .oldVersionDrained _ => true
  | .shaperTick => true
  | .select _ => true
  | .txFrameStart _ => true
  | .txFrameEnd _ => true
  | .ruleWordWrite _ _ _ _ _ => true
  | .ruleCommit _ _ _ => true
  | .ruleInvalidate _ _ _ => true
  | .ruleScrub _ _ _ => true
  | .insert _ cmd => entryOk cmd.entry
  | .delete _ cmd => entryOk cmd.entry
  | .search _ cmd _ => entryOk cmd.entry
  | .next _ cmd _ => entryOk cmd.entry
  | .flushPort _ cmd => entryOk cmd.entry
  | .bulk _ cmd arr => entryOk cmd.entry && arr.all fun a => decide (a.length % 64 = 0)
  | .seedWrite _ _ => true
  | .seedClearDone => true
  | .ageTick => true
  | .ageSweepVisit => true
  | .learnTokenRefill => true
  | .learnNotifyDeliver => true
  | .scrubPassStart => true
  | .scrubRegionDone => true
  | .auditBatchClose => true
  | .meterSweep _ _ _ => true
  | .meterStageWrite _ _ _ _ _ => true
  | .meterCommit _ _ _ _ => true
  | .meterFieldLoad _ _ _ _ _ _ => true
  | .recomputeStart => true
  | .recomputeDone => true
  | .bufQueueWrite _ _ _ _ => true
  | .spillWriteDone _ _ => true
  | .readbackStart _ _ => true
  | .readbackDone _ _ _ => true
  | .spillExit _ => true
  | .dropCaptureRefill => true
  | .groupVersionWrite _ _ _ _ => true
  | .groupCommit _ _ _ => true
  | .mirrorSessionWrite _ _ _ _ => true
  | .egressCfgWrite _ _ _ _ => true
  | .jarlisIdWrite _ _ _ => true
  | .identSend _ => true
  | .identReceived _ _ _ => true
  | .identRetry _ => true
  | .orderedSetUnknown _ => true
  | .linkDownOsSend _ => true
  | .creditSend _ _ => true
  | .creditReceived _ _ _ => true
  | .reseqRelease _ => true
  | .reseqTimeout _ _ => true
  | .trunkEnable _ _ _ _ => true
  | .trunkDisable _ _ => true
  | .trunkMembersWrite _ _ _ => true
  | .epochChangeStart _ => true
  | .epochMarkerSend _ => true
  | .epochChangeEnd _ => true
  | .epochMarkerReceived _ => true
  | .trunkDetachTimeout _ => true
  | .mgmtFrameDeliver => true
  | .mgmtRequestExecute => true
  | .mgmtResponseReceived => true
  | .prtBindWrite _ _ _ => true
  | .prtGrpWrite _ _ _ => true
  | .holdoffExpire _ _ => true
  | .wtrExpire _ => true
  | .nopathTimeout _ => true
  | .lockout _ _ _ => true
  | .force _ _ _ => true
  | .manual _ _ _ => true
  | .clearRequest _ _ _ => true
  | .sfWSet _ _ _ => true
  | .sfWClr _ _ _ => true
  | .sfPSet _ _ _ => true
  | .sfPClr _ _ _ => true
  | .roleWaitTimeout => true
  | .peerActFall _ => true
  | .peerRelqLow => true
  | .muteGuardEnd => true
  | .failedReactivate => true
  | .criticalFault _ _ => true
  | .sliceWatchdog _ => true
  | .heartbeatSend => true
  | .heartbeatReceived _ body => decide (body.length = 16)
  | .heartbeatSlotEnd _ _ => true
  | .puntyLinkUp => true
  | .puntyLinkDown => true
  | .puntyCfgWrite _ _ => true
  | .replicateReceived _ _ => true
  | .nakReceived _ => true
  | .syncReceived _ _ _ => true
  | .resyncDone => true
  | .takeoverReceived => true
  | .resync _ _ => true
  | .relinquish _ _ => true
  | .bindOff _ _ => true
  | .bindReqReceived _ => true
  | .bindReadyReceived => true
  | .bindCut => true
  | .bindQueueRelease _ => true
  | .bindReleaseReceived _ => true
  | .bindMaxTimeout => true
  | .bindDoneReceived => true
  | .bindReadyTimeout => true
  | .bindAbortReceived => true
  | .tensionIntervalClose _ => true
  | .digestReceived body => decide (body.length % 24 = 0) && decide (body.length ≤ 2016)
  | .healthSend => true
  | .healthReceived body => decide (body.length = 32)
  | .bistTestDone _ _ _ _ => true
  | .todStep _ _ _ _ => true
  | .offsetWrite _ _ => true
  | .holdoverTimeout => true
  | .hold _ => true
  | .acquire _ => true
  | .ppsOutEdge => true
  | .ppsOutFall => true
  | .ppsInEdge => true
  | .todMessageSend => true
  | .todMessageReceived _ => true
  | .synceSquelch _ => true
  | .synceReturn _ => true
  | .hbmCheckDone _ _ => true
  | .dramCommandSlot _ _ => true
  | .rowIdleClose _ _ _ => true
  | .bankRefresh _ _ _ => true
  | .stackFailure _ _ => true
  | .stackPowerDown _ => true
  | .offline _ _ => true
  | .stackTest _ _ => true
  | .recover _ _ => true
  | .powerOff _ _ => true
  | .dstDlyWrite _ _ _ _ => true
  | .dstTestWrite _ _ _ _ => true
  | .registerWrite _ _ _ _ _ => true
  | .registerReadError _ _ _ _ => true
  | .indirectRead _ _ _ => true
  | .cpwFirstHalf _ _ _ => true
  | .cpwSecondHalf _ _ _ _ => true
  | .cpwTimeout _ => true
  | .bitWordWrite _ _ _ _ => true
  | .snapshot _ _ => true
  | .snapshotDone => true
  | .deviceReset _ => true
  | .tileReset _ _ => true
  | .gafferCoreReset _ _ => true
  | .pmcReset _ => true
  | .blockResetDone => true
  | .hqOwnerWrite _ _ _ => true
  | .cqEnable _ _ _ => true
  | .sqEnable _ _ _ => true
  | .sqDoorbell _ _ _ => true
  | .cqDoorbell _ _ _ => true
  | .sqFetch entries => entries.all fun e => e.all fun b => decide (b.length = 64)
  | .completionWrite _ => true
  | .msixSignal _ _ => true
  | .cqTimerExpire _ _ => true
  | .injectPipeline _ => true
  | .injectFixed _ => true
  | .post _ => true
  | .puntDeliver _ => true
  | .bufferFlushTimeout _ => true
  | .stampTimeout => true
  | .flr _ _ => true
  | .busMasterChange _ _ _ => true
  | .copy _ => true
  | .fill _ => true
  | .burstStart => true
  | .burstDone _ _ => true
  | .requestWithdraw _ => true
  | .poolAlloc _ _ _ => true
  | .poolFree _ _ _ => true
  | .version _ => true
  | .ptpClockSet _ => true
  | .ptpPortSet _ => true
  | .ptpStatus _ => true
  | .mepCreate _ meg => meg.all fun m => decide (m.length = 48)
  | .mepDelete _ => true
  | .mepStatus _ => true
  | .apsLinearSet _ => true
  | .apsRingSet _ => true
  | .apsStatus _ => true
  | .learnStatus _ => true
  | .survey _ => true
  | .i2cRead _ _ => true
  | .i2cWrite _ _ _ => true
  | .ledgerRead _ => true
  | .flashVerify _ => true
  | .flashWrite _ _ => true
  | .flashErase _ => true
  | .jmgmt _ _ => true
  | .jmgmtTimeout => true
  | .ccmTransmit _ => true
  | .ccmReceive _ meg _ _ _ _ => decide (meg.length = 48)
  | .locCheck _ => true
  | .serviceFrameSend desc => decide (desc.length = 64)
  | .gafferWatchdog _ => true
  | .auditStreamWrite _ _ => true
  | .auditRecordStreamed => true
  | .summaryClose => true
  | .checkpoint deltas => deltas.all fun l => l.all fun x => decide (x.1 % 8 = 0) && decide (x.1 < 0x15000)
  | .checkpointNow _ => true
  | .ledgerErase _ _ => true
  | .ledgerEraseDone => true
  | .pmcSelWrite _ _ _ => true
  | .telemetrySample _ => true
  | .fuseWriteKeyhash _ _ => true
  | .fuseRevokeKey _ _ => true
  | .fuseBurnSvn _ _ => true
  | .fuseProgramDone _ => true
  | .domainAwake _ => true
  | .domainWakeTimeout _ => true
  | .tilePowerDown _ => true
  | .avsTransfer => true
  | .avsAck => true
  | .avsWindowNarrow => true
  | .avsTimeout => true
  | .supplyWindowReturn _ => true
  | .refclkReturn _ => true
  | .powerLoss => true
  | .avsRetry => true
  | .checkpointDeltaTimeout => true
  | .deferredCheckpoint => true
  | .flashWorkDone => true
  | .memorySpaceEnableChange _ _ => true
  | .vfEnable => true

end Sys2Proof
end

