-- ==== Sys2Proof/Tests/Slice0.lean ====
section
/-!
SUPPORT. Tests: the spec's worked examples, an ill-formed term for each check of `Instr.wellFormed`, and for each obligation with hypotheses
concrete states and operands that meet them, clause by clause, at boundary values of their ranges.
-/
open Sys2Proof Sys2Proof.Machine
namespace Sys2Proof.Tests

set_option Elab.async false

/-! ### States for tests -/

/-- A state that differs from reset in the device only. -/
def wit (f : Device → Device) : State := { dev := f {} }
/-- A device that is ready (R58): every domain powered, every PLL locked, the unit active. -/
def ready (d : Device) : Device :=
  let d := (d.set Reg.GLB_BOOT_STATUS_STATE 0xC).set Reg.UNT_STATUS_ROLE roleActive
  let d := (d.set Reg.PWR_CLK_STATUS_LOCK 0x1F).set Reg.PWR_CLK_STATUS_SERDES_REF 0xFFFF
  (((d.wr (Reg.PWR_DOM_STATUS 0) 0xFFFFFFFF).wr (Reg.PWR_DOM_STATUS 1) 0xFFFFFFFF).wr (Reg.PWR_DOM_STATUS 2) 0xFFFFFFFF).wr
    (Reg.PWR_DOM_STATUS 3) 0xFFFFFFFF
/-- Port `p` is enabled with one lane at RATE 3, and up. -/
def portOn (p : Nat) (d : Device) : Device :=
  (d.wr (Reg.TILE_PORT_CFG (tileOf p) (laneIn p)) 0x81330000).put (Reg.TILE_PORT_STATUS_LINK (tileOf p) (laneIn p)) true
/-- `n` bytes of zero. -/
def zeros (n : Nat) : List Byte := List.replicate n 0
/-- A frame of an ARP packet (EtherType 0x0806) of 60 bytes, in one stitch. -/
def arp : Frame := { bytes := zeros 12 ++ [0x08, 0x06] ++ zeros 46, n := 1, stitches := [0], hdr := { queue := 15 } }
/-- Slice 15 holds `x` in its pipeline. -/
def pipe15 (x : Pipe) : State := wit fun d => d.onPath fun p => { p with pipe := [(15, x)] }
/-- Queue 15 of port 511 holds an entry of a frame of two stitches, of which one has come, at physical port 511. -/
def entry : EgrEntry := { tile := 63, id := 7, hdr := { dest := 511, queue := 15 }, len := 64, n := 1, charge := .su 8191, arrival := 0 }
/-- A table command with an operation, flags, AUX and ADDR: the key of layer 2 of address `mac` (R183, R192). -/
def cmd (op flags mac aux addr : Nat) : List Byte :=
  leBytes 1 op ++ leBytes 1 flags ++ zeros 6 ++ leBytes 6 mac ++ zeros 9 ++ [0x10] ++ zeros 16 ++ zeros 12 ++ leBytes 4 aux ++ leBytes 8 addr
/-- The entry that such an INSERT makes. -/
def mac1 : MrvEntry := { key := slice (cmd 1 0 1 0 0) 8 32, result := 0, age := 0, learned := false, static := false }

/-! ### Worked examples of the spec

Each expected value is one that the spec states, in the rule that the theorem's comment names. -/

/-- R19: stitches of frames of 64, 105, 196, 197, 1,518, 9,216 and 16,383 bytes. -/
theorem test_stitches : [64, 105, 196, 197, 1518, 9216, 16383].map stitchCount = [1, 1, 1, 2, 7, 37, 65] := by decide

/-- R618: the CRC-16 of "123456789". -/
theorem test_crc16 : crc16 ((List.range 9).map fun i => BitVec.ofNat 8 (0x31 + i)) = 0x29B1 := by decide +kernel

/-- R187: the CRC-32C of the bytes 0x00 to 0x1F. -/
theorem test_crc32c : crc32c ((List.range 32).map (BitVec.ofNat 8)) = 0x46DD794E := by decide +kernel

/-- R218: MRV_HASH_OUT at reset. -/
theorem test_hash : marverHash (zeros 32) 0 = 0x8A9136AA := by decide +kernel

/-- R140: the filter index of 01-00-5E-00-01-81. -/
theorem test_filter_index : hashIndex 0x01005E000181 = 463 := by decide

/-- R416: the incremental update of a header checksum. -/
theorem test_checksum_update : rfc1624 0x3B5A 0x0001 0x02D1 = 0x388A := by decide

/-- R435: the place of slot 0x0B5A_C3E9 in the deep store. -/
theorem test_slot_place :
    (slotStack 0x0B5AC3E9, slotRow 0x0B5AC3E9, slotBank 0x0B5AC3E9, slotPc 0x0B5AC3E9) = (2, 6870, 7, 9) := by decide

/-- R529: the handle of buffer 17 of class 2 at GEN 4. -/
theorem test_pool_handle : poolHandle 4 2 17 = 0x04020011 := by decide

/-- R252, R253: with α = 2 and the whole Skein shared, queue 1 is admitted at SU = 529,749 and refused at SU = 529,750. -/
theorem test_shared_limit :
    decide (529749 + 1 ≤ admThreshold 8 0 (794624 - 529749)) = true ∧ decide (529750 + 1 ≤ admThreshold 8 0 (794624 - 529750)) = false := by
  decide

/-- R253: A0 at reset. -/
theorem test_a0 : State.reset.dev.a0 = 925696 := by decide +kernel

/-- R254: ten queues of rank 0 with 2,000 units each, twelve of rank 3 and eight of rank 7 with 2,000 each; 10,848 units are missing. -/
theorem test_reduced_minima :
    let q := fun (k r n : Nat) => (List.range n).map fun i => (k + i, (2000 : Nat), r)
    let m := (reduceMin 8 0 10848 (q 0 0 10 ++ q 100 3 12 ++ q 200 7 8)).1
    (mget (fun _ => 0) m 0, mget (fun _ => 0) m 100, mget (fun _ => 0) m 207, (m.map (·.2)).sum) = (915, 2000, 2000, 49150) := by decide +kernel

/-- R77, R561: the bounds of the bins of supply crossings and of temperatures. -/
theorem test_bins : ([9999, 10000, 99999999, 100000000].map crossBin, [-161, -160, 439, 440].map tjBin) = ([0, 1, 4, 5], [0, 1, 30, 31]) := by
  decide

/-- R124: the offset of TILE_PORT_CFG of lane 300. -/
theorem test_port_offset : Reg.TILE_PORT_CFG (tileOf 300) (laneIn 300) = 0x00A50110 := by decide

/-- R105: an 8-lane port that resolves to code 3 has no rate; a port of one lane keeps code 1. -/
theorem test_allowed_rate : (rowBelow 8 3, rowBelow 1 1) = (none, some 1) := by decide

/-- The lanes of R87's worked example. -/
def r87 : Device :=
  let d := ({} : Device)
  let d := d.onBoot fun b => { b with policy := [[0, 0, 0xFF, 1, 1, 5, 0, 10]] }
  let lane := fun (d : Device) (l il abil : Nat) (ex : Bool) =>
    (((d.set (Reg.SRV_LANE_LO_STATE l) 1).set (Reg.SRV_LANE_LO_IL_NYQ l) il).set (Reg.SRV_LANE_HI_PARTNER_ABIL l) abil).put
      (Reg.SRV_LANE_LO_EXTRAP l) ex
  let d := d.each (List.range 8) fun d i => lane d (80 + i) 364 0x3F false
  let d := d.each (List.range 4) fun d i => lane d (88 + i) 392 0x1F false
  let d := d.each (List.range 4) fun d i => lane d (92 + i) 516 0x3F false
  let d := lane d 96 715 0x03 true
  d.set (Reg.SRV_LANE_LO_STATE 97) 2

/-- R87: the resolved rates of ports 80, 88, 92, 96 and 97. -/
theorem test_rate_resolution :
    (r87.resolveRates (fun _ => []) [(80, 8), (88, 4), (92, 4), (96, 1), (97, 1)]).map (·.2.2)
      = [.rate 5, .rate 4, .rate 3, .rate 1, .waits] := by decide +kernel

/-- The meter of R238's worked example: trTCM, both buckets full. -/
def r238 : Meter :=
  { cir := 12500, eir := 25000, cbs := 10000, ebs := 20000, c := 10000 * tokenUnits, e := 20000 * tokenUnits }

/-- A frame of 1,500 metered bytes every 200 ticks: the colours of the first `n` frames, and the meter after them. -/
def r238Run : Nat → Meter → List Nat × Meter
  | 0, x => ([], x)
  | n + 1, x =>
    let (c, x) := x.colour 1 (1500 * tokenUnits) 0
    let (cs, x) := r238Run n (if n = 0 then x else x.fill 1 200)
    (c :: cs, x)

/-- R238: six green frames, seven yellow, one red, and the buckets after frame 14. -/
theorem test_meter : r238Run 14 r238 = ([0, 0, 0, 0, 0, 0, 1, 1, 1, 1, 1, 1, 1, 2], { r238 with c := 232500000, e := 165000000 }) := by
  decide +kernel

/-- Queue 5 of port 300 is released to this unit with G of 500 ns, as in R385's worked example; the listed CRC is that of `[1]`. -/
def r385 : Device :=
  ({} : Device).onUnit fun u => { u with bind := { u.bind with
    side := 2, guard := 5, rel := [(qIdx 300 5, some ⟨100000000, [crc32c [1]]⟩)] } }

/-- R385: which held frames the new active discards: below the band, in the band and listed on either side of CUT, not listed, above. -/
theorem test_bind_judge :
    [(99999300, 0), (99999620, 1), (99999880, 0), (100000300, 1), (100000700, 0)].map
      (fun x => r385.bindJudge (qIdx 300 5) { tsNs := x.1 } [BitVec.ofNat 8 x.2]) = [true, true, false, true, false] := by decide +kernel

/-- GLB_LOCK is set, and a first half of the release pair waits for PF0. -/
def r468 : State :=
  wit fun d => ((ready d).put Reg.GLB_LOCK_LOCKED true).setPend 0 (some ⟨Reg.GLB_LOCK_REL, 1, .pf0 0⟩)

/-- R468: a write of another requester to the block rejects the pair under INTERLEAVED. -/
theorem test_interleaved :
    let e := (exec (.registerWrite (.gaffer 0) (BitVec.ofNat 28 Reg.GLB_SCRATCH) 4 true 7) r468)
    (match e with
      | .next t => (t.dev.get Reg.GLB_CPW_STATUS_REASON, t.dev.get Reg.GLB_CPW_ADDR_OFFSET, t.dev.rd Reg.GLB_SCRATCH,
          t.dev.flag Reg.GLB_LOCK_LOCKED, t.dev.pend 0)
      | _ => (0, 0, 0, false, none)) = (2, 0x118, 7, true, none) := by decide +kernel

/-- R468: a second half with no pair pending is rejected under ORPHAN, and LOCKED stays; one 64-bit write is a completed pair. -/
theorem test_orphan :
    (r468.dev.setPend 0 none).busWriteR (.gaffer 0) false 0x11C 4 true 0xFFFFFFFE |>.2.get Reg.GLB_CPW_STATUS_REASON = 4 := by
  decide +kernel

theorem test_pair64 : ((r468.dev.busWriteR (.gaffer 0) false 0x118 8 true 0xFFFFFFFE00000001).2.flag Reg.GLB_LOCK_LOCKED) = false := by
  decide +kernel

/-- R469: bit 5 of GLB_SCRATCH is the word at 0x0010_0214 of the alias region. -/
theorem test_bit_alias : 0x100000 + 32 * Reg.GLB_SCRATCH + 4 * 5 = 0x00100214 ∧ bitWord 0x00100214 = (Reg.GLB_SCRATCH, 5) := by decide

/-- Port 504 of R121's worked example: 8 lanes at rate code 5, shedding in use, `n` lanes active, `mbit` Mbit sent in the window. -/
def r121 (n mbit : Nat) : Device :=
  let d := (ready {}).wr (Reg.TILE_PORT_CFG 63 0) (2 ^ 31 + 8 * 2 ^ 24 + 5 * 2 ^ 20 + 2 ^ 13 + 2 ^ 11)
  let d := (d.put (Reg.TILE_PORT_STATUS_LINK 63 0) true).set (Reg.TILE_SHED_STATUS_TX_LANES 63 0) n
  d.updPort 504 fun x => { x with peerShed := true, sentShed := true, firstWindow := false, shedCfg := 0x50280A00, windowBits := mbit * 1000000 }

/-- R121: windows 2 to 5: to 4 lanes, stay at 4, to 2 lanes, back to full width. -/
theorem test_shed :
    [(8, 2500), (4, 2400), (4, 1200), (2, 3500)].map
      (fun x => let e := ((r121 x.1 x.2).shedWindowEnd 504).port 504; (e.pending, e.restoring))
      = [(some 4, false), (none, false), (some 2, false), (none, true)] := by decide +kernel

/-- The COPY of R516's worked example on channel 31, with `k` bytes moved. -/
def r516 (k : Nat) : Device :=
  let bs := [1] ++ zeros 7 ++ leBytes 8 0x0000000800000FF0 ++ leBytes 8 0x0000000900001F20 ++ leBytes 4 5000 ++ zeros 36
  let o : HostOp := { id := 9, sq := 511, idx := 0, bno := 0, bytes := bs }
  { (ready {}).wr (Reg.DMA_CHAN 31) 0x800001FF with host := { bme := [(0, true)] }, dma := { desc := [(31, some { op := o, done := k })] } }

/-- R516: the three bursts. -/
theorem test_bursts :
    [0, 224, 4320].map (fun n => (r516 n).descBurst 31) = [some 224, some 4096, some 680] := by decide +kernel

/-- The worked example of R599 and R600: the balls of lane 300 and of SERDES_REFCLK_9. -/
theorem test_lane_300_balls : ballName (laneBall 300 true true) = "EF61" ∧ ballName (laneBall 300 true false) = "EF60" ∧
    ballName (laneBall 300 false true) = "ED61" ∧ ballName (laneBall 300 false false) = "ED60" ∧
    ballName (serdesRefBall 9 true) = "EF89" ∧ ballName (serdesRefBall 9 false) = "EF88" := by decide

/-- R598: row 20 is AA, row 39 is BA, row 106 is EL; R605: a ball of the centre's edge. -/
theorem test_ball_rows : rowName 20 = "AA" ∧ rowName 39 = "BA" ∧ rowName 106 = "EL" ∧ signalAt 101 61 = .lane 300 true true ∧
    rail 17 18 = "VDDT_SDS_N" := by decide

/-! ### Well-formedness -/

/-- An ill-formed term for each check: a list that is not as long as the spec makes it. -/
theorem test_ill_formed :
    [.firmwareReady [], .railSample [], .tempSample [], .moduleSurveyDone 0 (List.replicate 9 none), .moduleSurveyDone 0 [some [1]],
     .modulePresencePoll 0 (some [1, 2]), .rxAddressComplete 0 [], .rxGatherBlock 0 ⟨zeros 257, []⟩, .rxFrameEnd 0 (zeros 257) false ⟨false, []⟩,
     .insert (.host 0) ⟨[1], []⟩, .delete (.host 0) ⟨[1], []⟩, .search (.host 0) ⟨[1], []⟩ false, .next (.host 0) ⟨[1], []⟩ false,
     .flushPort (.host 0) ⟨[1], []⟩, .bulk (.host 0) ⟨[1], []⟩ none, .bulk (.host 0) ⟨zeros 64, []⟩ (some [1]), .heartbeatReceived 0 [], .digestReceived [1],
     .digestReceived (zeros 2040), .healthReceived [], .sqFetch [some [1]], .mepCreate 0 (some [1]), .ccmReceive 0 [] 0 0 0 false,
     .serviceFrameSend [], .checkpoint (some [(1, 0)]), .checkpoint (some [(0x15000, 0)])].all (fun i => !Instr.wellFormed i) = true := by
  decide +kernel

/-- Terms that pass the same checks. -/
theorem test_well_formed :
    [.firmwareReady (List.replicate 16 0), .railSample (List.replicate 32 0), .moduleSurveyDone 0 [none, some [], some (zeros 5)],
     .rxAddressComplete 0 (zeros 14), .rxGatherBlock 0 ⟨zeros 256, []⟩, .insert (.host 0) ⟨zeros 64, []⟩, .digestReceived (zeros 2016),
     .sqFetch [none, some (zeros 64)], .checkpoint (some [(0x14FF8, 0)])].all Instr.wellFormed = true := by decide +kernel

/-- The table gives no row any bits: no word spells a command. -/
theorem test_no_word : ∀ n w, decodeTableWord n w = none := fun _ _ => rfl

/-! ### Hypotheses that are met

One theorem for each obligation with hypotheses: for each clause, a state and operands that meet all of the clause's hypotheses. -/

/-- Slice 15 holds a captured frame. -/
def adm (f : Frame) (g : Path → Path) : State := wit fun d => d.onPath fun p => g { p with pipe := [(15, { captured := [f] })], flight := [(15, 1)] }

/-- A multicast frame. -/
def arpM : Frame := { arp with hdr := { dtype := 1, dest := 65535, queue := 15 } }

/-- Slice 15 holds one, whose group has a member in tile 63. -/
def admM (u : Nat) : State := wit fun d => ((ready d).set (Reg.BUF_MC_USED_STITCHES 15) u).onPath fun p => { p with pipe := [(15, { captured := [arpM] })], flight := [(15, 1)], grp := [(262141, 2 ^ 31)] }

/-- A copy. -/
def arpC : Frame := { arp with isCopy := true }

/-- A frame waits in slice 15 for queue 15 of port 511. -/
def yoke : State := wit fun d => d.onPath fun p => { p with voq := [(voqKey 15 8191, { on := [{ arp with id := 7, hdr := { dest := 511, queue := 15 } }] })] }

/-- A stitch of a frame is under way on plane 3 to tile 63. -/
def arr : State := wit fun d => d.onPath fun p => { p with transit := [(255, [⟨{ arp with id := 7, hdr := { dest := 511, queue := 15 } }, 0, false⟩])], dep := [(63, [{ frame := { arp with id := 7, hdr := { dest := 511, queue := 15 } }, mc := false, total := 1 }])] }

/-- A copy of a multicast frame that tile 63 expands. -/
def mcx : DepFrame := { frame := { arp with hdr := { dtype := 1, dest := 65535, queue := 15 } }, mc := true, total := 1, arrived := [0] }

/-- Tile 63 holds a multicast frame with two members in its list. -/
def mc : State := wit fun d => d.onPath fun p => { p with dep := [(63, [mcx])], lists := [(131072 * 63 + 131070, 2)], members := [(16384 * 63, 511 * 2 ^ 20 + 3 * 2 ^ 17)] }

/-- The shaper of queue 20 of port 511 has a rate and a burst. -/
def shp : State := wit fun d => d.wr64 (Reg.SHP_RATE 511 20) (2^31 + 5) |>.set (Reg.SHP_BURST_BURST 511 20) 1

/-- Port 511 is up and queue 15 of it holds a complete frame. -/
def seln : State := wit fun d => (portOn 511 d).onPath fun p => { p with egr := [(8191, [entry])], dep := [(63, [{frame := {arp with id := 7}, mc := false, total := 1, arrived := [0] }])] }

/-- The frame of `seln`, selected. -/
def sel : Selected := { entry := entry, q := 8191 }

/-- The frame of `seln` in the departure store. -/
def df : DepFrame := {frame := {arp with id := 7}, mc := false, total := 1, arrived := [0] }

/-- The home bucket of the key of `mac1`. -/
def h : Nat := 4 * ((ready {}).home mac1.key)

/-- The table holds the entry of `mac1`. -/
def occ : State := wit fun d => (ready d).onMrv fun m => { m with tab := [(h, some mac1)] }

/-- Port 511 with a configuration, in a STATE, its link up or down. -/
def portAt (cfg state : Nat) (up : Bool) (d : Device) : Device :=
  (((ready d).wr (Reg.TILE_PORT_CFG 63 7) cfg).set (Reg.TILE_PORT_STATUS_STATE 63 7) state).put (Reg.TILE_PORT_STATUS_LINK 63 7) up

/-- Port 504 is a Jarlis port of which `w` lanes are active. -/
def jar (w : Nat) (f : Port → Port) : State := wit fun d => ((portAt (0x80332C01 + w * 2^24) 4 true d).set (Reg.TILE_SHED_STATUS_TX_LANES 63 0) w).updPort 504 fun x => f { x with peerShed := true, sentShed := true }

/-- Port 504 is a Jarlis port with `w` lanes, in STATE 4. -/
def jarP (w : Nat) (f : Port → Port) : State := wit fun d => (((ready d).wr (Reg.TILE_PORT_CFG 63 0) (0x80332C01 + w * 2^24)).put (Reg.TILE_PORT_STATUS_LINK 63 0) true).set (Reg.TILE_SHED_STATUS_TX_LANES 63 0) w |>.set (Reg.TILE_PORT_STATUS_STATE 63 0) 4 |>.updPort 504 fun x => f { x with peerShed := true, sentShed := true }

/-- Trunk 255 is enabled in phase 1 and context 4095 is as given. -/
def cx (c : Ctx) : State := wit fun d => { (ready d).wr (Reg.JFL_TRUNK_CFG 255) 0xF8000000 with jarlis := { ctx := [(4095, c)], trunk := [(255, { phase := 1 })], attach := [(511, (256, false))], awaiting := [{ bytes := [0x18] ++ zeros 63, src := 511 }] } }

/-- A management frame of type 0x14. -/
def mgf : Frame := { bytes := [0x14] ++ zeros 15 ++ [1, 1] ++ zeros 22, src := 511 }

/-- A frame of the deep store. -/
def dfr (st : Nat) : DeepFrame := { frame := { arp with arrival := 0 }, slots := [0xFFFFFFF], state := st }

/-- Queue 15 of port 511 holds such a frame, and stack 3 serves. -/
def dp (st : Nat) (f : Path → Path) : State := wit fun d => ((ready d).set (Reg.DST_STACK_STATE 3) 2).onPath fun p => f { p with voq := [(voqKey 15 8191, { deep := [dfr st] })], wstage := 1, rstage := 1, qcnt := [(8191, { spill := true })] }

/-- A frame that is read back to be discarded. -/
def dpd : State := wit fun d => (dp 2 id).dev.onPath fun p => { p with voq := [(voqKey 15 8191, { deep := [{ dfr 2 with drop := some 24 }] })] }

/-- A row of bank 63 of PC 31 of stack 3 is open. -/
def op : State := wit fun d => ((ready d).set (Reg.DST_STACK_STATE 3) 2).onDst fun x => { x with openRow := [(64*127+63, some 5)] }

/-- Time is locked and an edge has come. -/
def tm (f : Device → Device) : State := wit fun d => f { (ready d).set Reg.TIM_STATUS_STATE 2 with time := { avg := 5, edge := some 7 }, tod := 12345, ft := 6789 }

/-- A unit of a pair in a role, with what the peer shows. -/
def un (role : Nat) (f : Sys2Proof.Machine.Unit → Sys2Proof.Machine.Unit) (g : Device → Device := id) : State := wit fun d =>
  g ((((((ready d).put Reg.UNT_STATUS_PAIR true).put Reg.UNT_STATUS_PUNTY_UP true).put Reg.UNT_STATUS_SYNCED true).set Reg.UNT_STATUS_ROLE role).onUnit fun u => f { u with released := true })

/-- Port 511 is the working member of group 4095. -/
def gr (d : Device) : Device := (portOn 511 d).wr (Reg.PRT_GRP_CFG 4095) 0xDFF7F800 |>.put (Reg.PRT_GRP_STATE_W_OK 4095) true

/-- The body of a heartbeat. -/
def hb : List Byte := [0x28, 0, 0, 0, 0, 0, 0, 9] ++ zeros 8

/-- A replication record of a register write. -/
def rec1 : List Byte := replRecord 1 0 (macReg 511) (beBytes 4 64 ++ beBytes 4 0)

/-- A management request of one operation. -/
def mreq : List Byte := [1, 1, 0, 0, 0, 0, 0, 7] ++ [1, 0, 0, 0] ++ beBytes 4 (macReg 511) ++ zeros 8

/-- A unit that serves management requests, one of which waits. -/
def mgs : State := un 1 id fun d => { (d.put Reg.JFL_MGMT_CFG_EN true).put Reg.JFL_MGMT_CFG_ANY_SRC true with jarlis := { mgmt := [(5, mreq)] } }

/-- A management response. -/
def mgr : Frame := { bytes := [0x14] ++ zeros 15 ++ [2, 1] ++ zeros 22, src := 511 }

/-- A unit that tests tension, with a record of port 511. -/
def tn (role : Nat) (f : Device → Device) : State := un role (fun u => { u with peerRole := some 2, peerSynced := true, tens := [(tensKey 511 3999, {count := 1, bytes := 64, sum := 7 })] }) fun d => f (portOn 511 d)

/-- A digest record of group 4095. -/
def dg (b : List Byte) : List Byte := [1, 0xFF, 0x0F, 0x9F] ++ b ++ zeros (20 - b.length)

/-- Core 15 has opened a pair in a block. -/
def pnd (a v b : Nat) : State := wit fun d => { (ready d).put Reg.GLB_LOCK_LOCKED true with bus := { d.bus with cpw := [(b, some ⟨a, v, .gaffer 15⟩)] } }

/-- Queues 511 are enabled, with WIDX 3. -/
def sqx : State := wit fun d => (((ready d).wr (Reg.HQ_CQ_CFG 511) 0x88000000).wr (Reg.HQ_SQ_CFG 511) (2 ^ 31 + 4 * 2 ^ 23 + 511)) |>.set (Reg.HQ_CQ_STATUS_WIDX 511) 3 |>.set (Reg.HQ_CQ_STATUS_PHASE 511) 1

/-- Queue 511 is enabled with a TYPE on completion queue 511, both of 16 entries, of PF0, which may send. -/
def hqs (typ : Nat) (f : HostQ → HostQ) (g : Device → Device := id) : State := wit fun d =>
  let d := (ready d).wr (Reg.HQ_CQ_CFG 511) 0x88000000 |>.wr64 (Reg.HQ_CQ_BASE 511) 0x10000
  let d := d.wr (Reg.HQ_SQ_CFG 511) (2 ^ 31 + typ * 2 ^ 28 + 4 * 2 ^ 23 + 511)
  g { d with host := f { bme := [(0, true)], mse := [(0, true)] } }

/-- Line `l` is enabled on channel 0, which is a line channel. -/
def opn (l : Nat) (d : Device) : Device := (d.put (Reg.DMA_LINE_EN l) true).set (Reg.DMA_LINE_CHAN l) 0 |>.put (Reg.DMA_CHAN_EN 0) true |>.put (Reg.DMA_CHAN_MODE 0) true

/-- A completion. -/
def cq : Cqe := { tag := 5, res := zeros 8, status := 0, detail := 0, sq := 511 }

/-- An INJECT operation. -/
def inj (op len dest : Nat) : HostOp := { id := 9, sq := 511, idx := 0, bno := 0, bytes := leBytes 1 op ++ zeros 7 ++ leBytes 8 0x1000 ++ leBytes 2 len ++ leBytes 2 dest ++ zeros 44 }

/-- A POST operation. -/
def pst : HostOp := { id := 9, sq := 511, idx := 0, bno := 0, bytes := leBytes 1 1 ++ zeros 7 ++ leBytes 8 0x1000 ++ leBytes 4 4096 ++ zeros 44 }

/-- A POST of a buffer of length 0. -/
def pstB : HostOp := { pst with bytes := leBytes 1 1 ++ zeros 7 ++ leBytes 8 0x1000 ++ leBytes 4 0 ++ zeros 44 }

/-- The buffer that it posts. -/
def pb : PostBuf := { op := pst, addr := 0x1000, len := 4096 }

/-- A stamp record. -/
def stp : StampRec := { port := 5, pq := 511, tag := 6, stamp := zeros 12 }

/-- A PUNT record. -/
def pr : PuntRec := { port := 512, sel := { entry := { entry with tile := 0 }, q := 8192 }, pq := 511, buf := 9 }

/-- A DMA operation of 16 bytes. -/
def dsc (op : Nat) : HostOp := { id := 9, sq := 511, idx := 0, bno := 0, bytes := leBytes 1 op ++ [0, 0x00] ++ zeros 5 ++ leBytes 8 0x1000 ++ leBytes 8 0x2000 ++ leBytes 4 16 ++ zeros 36 }

/-- Channel 31 serves queue 511. -/
def ch (d : Device) : Device := d.wr (Reg.DMA_CHAN 31) 0x800001FF

/-- Channel 31 has a descriptor. -/
def bst (f : DmaEng → DmaEng) : State := hqs 6 (fun h => { h with ops := [dsc 1] }) fun d => { ch d with dma := f { desc := [(31, some { op := dsc 1 })] } }

/-- A mailbox command: OPCODE, LEN and arguments. -/
def mb (op len : Nat) (args : List Byte) : HostOp := { id := 9, sq := 511, idx := 0, bno := 0, bytes := leBytes 1 op ++ zeros 7 ++ leBytes 8 0x1000 ++ leBytes 4 len ++ args ++ zeros (44 - args.length) }

/-- Queue 511 of TYPE 5 holds a mailbox command, and the firmware is ready. -/
def mbs (o : HostOp) (g : Device → Device := id) : State := wit fun d =>
  let d := (ready d).wr (Reg.HQ_CQ_CFG 511) 0x88000000 |>.wr64 (Reg.HQ_CQ_BASE 511) 0x10000
  let d := d.wr (Reg.HQ_SQ_CFG 511) (2 ^ 31 + 5 * 2 ^ 28 + 4 * 2 ^ 23 + 511)
  let d := ((d.put Reg.SVC_STATUS_READY true).set (Reg.SVC_CORE_STATE 0) 1).set (Reg.SVC_CORE_ROLE 0) 0xFF
  g { d with host := { bme := [(0, true)], mse := [(0, true)], ops := [o] } }

/-- The arguments of MEP_CREATE at the ends of their ranges. -/
def mepA : List Byte := [0xFF, 0x3F, 0xFF, 1, 0xFF, 0x0F, 7, 7, 0xFF, 0x1F, 0xFF, 0x1F, 0xFF, 0xCF]

/-- An end point at the ends of its fields. -/
def m0 : Mep := { port := 511, vid := 5, level := 7, up := false, period := 7, pcp := 7, mepid := 8191, rmepid := 8191, bind := true, side := true, group := 4095, meg := zeros 48, loc := true, rx := 5 }

/-- End point 16383 exists. -/
def hm (d : Device) : Device := d.onGaf fun g => { g with mep := [(16383, some m0)] }

/-- Core 15 runs, and end point 16383 exists. -/
def gs : State := wit fun d => hm ((ready d).set (Reg.SVC_CORE_STATE 15) 1)

/-- A service frame descriptor. -/
def sfr : List Byte := [1] ++ zeros 7 ++ leBytes 8 0 ++ leBytes 2 60 ++ zeros 46

/-- An audit record waits for the AUDIT queue 511. -/
def aud : State := hqs 4 (fun h => { h with bufs := [(511, [pb])] }) fun d => { ((opn 34 d).put Reg.HQ_GLB_CFG_AUDIT_QV true).set Reg.HQ_GLB_CFG_AUDIT_Q 511 |>.wr Reg.AUD_WP 1 |>.put Reg.AUD_CFG_STREAM true with audit := { ring := [(0, leBytes 32 77)] } }

/-- The ledger is open. -/
def led (f : Ledger → Ledger) : State := wit fun d => { ready d with ledger := f { isOpen := true } }

/-- Telemetry set 3 is enabled with 256 records. -/
def tel : State := wit fun d => (ready d).wr (Reg.PMC_TEL_CFG 3) 0x80000001 |>.set (Reg.PMC_TEL_CFG_LOG2_N 3) 8 |>.put (Reg.PMC_TEL_CFG_EN 3) true

/-- The fuses are being programmed. -/
def fus (c slot : Nat) : State := wit fun d => { ready d with fuses := { d.fuses with busy := some (c, slot), stage := (List.range 128).map (BitVec.ofNat 8) } }

/-- A device in the middle of things. -/
def busy : State := wit fun d => { (ready d).wr Reg.GLB_SCRATCH 7 with pool := {}, ports := [(5, {})], boot := { run := true } , unit := {released := true} }

/-- Cast-On runs at the step that STATE shows. -/
def boot (st : Nat) (f : Boot → Boot := id) (g : Device → Device := id) : State := wit fun d => g { (ready d).set Reg.GLB_BOOT_STATUS_STATE st with boot := f { run := true } }

/-- The first 252 bytes of a header of slot G. -/
def hd : List Byte := leBytes 4 0x53524749 ++ [1, 0, 2, 0] ++ leBytes 4 592 ++ leBytes 4 0 ++ leBytes 2 0x7512 ++ [0xA0, 1] ++ leBytes 4 256 ++ leBytes 4 336 ++ zeros 224

/-- An image of slot G whose signature nothing vouches for. -/
def img : List Byte := hd ++ leBytes 4 (crc32c hd) ++ ([1, 0, 0, 0] ++ leBytes 4 288 ++ leBytes 4 48 ++ zeros 20) ++ zeros 48 ++ zeros 256

/-- It lies in slot G, and Cast-On is at step 4. -/
def flashed : State := wit fun d => { boot 3 (fun b => { b with slot := 2 }) |>.dev with flash := { mem := img.zipIdx.map fun x => (2 * 16777216 + x.2, x.1) } }

/-- An image whose configuration section holds one record and END. -/
def cfg (type : Nat) (v : List Byte) : List Byte :=
  zeros 20 ++ leBytes 4 32 ++ zeros 8 ++ ([2, 0, 0, 0] ++ leBytes 4 64 ++ leBytes 4 (16 + v.length) ++ zeros 20)
    ++ (leBytes 2 type ++ zeros 2 ++ leBytes 4 v.length ++ v) ++ (leBytes 4 0xFFFF ++ zeros 4)

/-- Step 10 runs on such an image. -/
def app (type : Nat) (v : List Byte) : State := boot 9 fun b => { b with image := cfg type v }

/-- A WAIT_FIELD whose field does not have its value. -/
def wf : List Byte := leBytes 4 Reg.GLB_SCRATCH ++ leBytes 4 1 ++ leBytes 4 1 ++ leBytes 4 100

/-- A register write. -/
def rg : List Byte := leBytes 4 Reg.GLB_SCRATCH ++ leBytes 4 0xFFFFFFFF

/-- A complement pair. -/
def rg2 : List Byte := leBytes 4 Reg.MRV_SEED ++ leBytes 4 0xFFFFFFFF

/-- A WAIT_FIELD whose field has its value. -/
def wf0 : List Byte := leBytes 4 Reg.GLB_SCRATCH ++ leBytes 4 1 ++ leBytes 4 0 ++ leBytes 4 100

/-- A ready device with what power holds beside its registers. -/
def pw (f : Power → Power) (g : Device → Device := id) : State := wit fun d => g { ready d with power := f {} }

/-- Readings of 32 rails. -/
def mvs : List (BitVec 16) := (List.range 32).map fun n => BitVec.ofNat 16 (1499 + 100 * n)

/-- Readings of 64 temperature sensors. -/
def ts (x : Nat) : List (BitVec 16) := (List.range 64).map fun n => BitVec.ofNat 16 (if n = 63 then x else 65536 - n)

/-- WARN_C is 100 and SHUT_C is 110. -/
def th (g : Device → Device) : State := pw id fun d => g ((d.set Reg.PWR_THERM_WARN_C 100).set Reg.PWR_THERM_SHUT_C 110)

/-- The fused voltage is 790 mV and the last target 805 mV. -/
def av (f : Power → Power) : State := pw f fun d => (d.set Reg.PWR_AVS_FUSED_MV 790).set Reg.PWR_AVS_TARGET_MV 805

/-- A ready device with what the Survey holds. -/
def sv (f : Survey → Survey) (g : Device → Device := id) : State := wit fun d => g { ready d with survey := f {} }

/-- The reads of a master's channels. -/
def chs : List (Option (List Byte)) := [none, some [], some [0x18, 0x40, 0x80, 0, 0], some [0x18, 0x40, 0x00, 0xE0, 0x20]]

/-- The register SRV_RAIL_LIM 31. -/
def rl := (regAt (Reg.SRV_RAIL_LIM 31)).getD (⟨0,[],false,0,0,0,0,0,0,0,.core,fun _ _ _ => 0⟩, [], false)

/-- An option that has a value is that value. -/
theorem some_getD {α : Type} (o : Option α) (x : α) (h : o.isSome = true) : o = some (o.getD x) := by
  cases o with
  | none => cases h
  | some y => rfl

/-- A register at an offset of which a test holds. -/
theorem reg_has (off : Nat) (P : RegRow → Bool) (h : (regAt off).any (fun x => P x.1) = true) {Q : RegRow → Prop}
    (hQ : ∀ r, P r = true → Q r) : ∃ r is up, regAt off = some (r, is, up) ∧ Q r := by
  cases e : regAt off with
  | none => rw [e] at h; cases h
  | some x => rw [e] at h; exact ⟨x.1, x.2.1, x.2.2, rfl, hQ _ h⟩

/-- The register of a rail's limits. -/
theorem railLim31 : regAt (BitVec.ofNat 28 (Reg.SRV_RAIL_LIM 31)).toNat = some (rl.1, rl.2.1, false) :=
  (some_getD _ (⟨0,[],false,0,0,0,0,0,0,0,.core,fun _ _ _ => 0⟩, [], false) (by decide +kernel)).trans
    (congrArg some (Prod.ext rfl (Prod.ext rfl (by decide +kernel : rl.2.2 = false))))

/-- Hypotheses of ReceptionAdvances. -/
theorem wit_ReceptionAdvances :
    ∃ (s : State) (p : Fin 512), s.dev.rxOf ↑p = none :=
    ⟨wit (portOn 511), 511, by decide +kernel⟩

/-- Hypotheses of FlowControlActs. -/
theorem wit_FlowControlActs :
    ∃ (s : State) (p : Fin 512), s.dev.txXoff ↑p = 0 :=
    ⟨wit fun d => ((portOn 511 d).set (Reg.MAC_CFG_FC_MODE 63 7) 1), 511, by decide +kernel⟩

/-- Hypotheses of FlowControlFrame. -/
theorem wit_FlowControlFrame :
    ∃ (p : Fin 512) (i : Fin 8) (c : Instr), c ∈ [Instr.pauseTimerExpire p i, Instr.pauseWdTrip p i, Instr.pauseWdBreakEnd p i,
      Instr.rxPauseFrame p, Instr.rxPfcFrame p, Instr.xoffAssert p, Instr.xoffRelease p, Instr.xoffRefresh p] :=
    ⟨511, 7, .xoffRefresh 511, by decide +kernel⟩

/-- Hypotheses of PipelineStages. -/
theorem wit_PipelineStages :
    (∃ (s : State) (n : Fin 16) (f : Frame), (∀ (r : Nat), r < 5 → (s.dev.offered (↑n) r).snd = if r = 0 then [f] else []) ∧ nget
      s.dev.path.pptr ↑n = 0 ∧ mget (fun x => none) s.dev.path.starved ↑n = none ∧ f.need ≤ s.dev.physFree ∧ s.dev.flight ↑n + f.need ≤
      1024) ∧
    (∃ (s : State) (n : Fin 16) (f : Frame) (rest : List Frame), (s.dev.pipe ↑n).taken = f :: rest ∧ f.fixed = false ∧
      (({ bs := f.bytes, tpidX := s.dev.get (Reg.PRS_CFG_TPID_X ↑n), vxlan2 := s.dev.get (Reg.PRS_CFG_VXLAN_PORT2 ↑n) } : ParseIn).run
      f.jh).jarlis = none ∧
      (({ bs := f.bytes, tpidX := s.dev.get (Reg.PRS_CFG_TPID_X ↑n), vxlan2 := s.dev.get (Reg.PRS_CFG_VXLAN_PORT2 ↑n) } : ParseIn).run
      f.jh).outcome = 0) ∧
    (∃ (s : State) (n : Fin 16) (f : Frame) (rest : List Frame) (p : Nat), (s.dev.pipe ↑n).parsed = f :: rest ∧ f.fixed = false ∧ f.trapCode
      ≠ 0 ∧ f.dec.dest = Dest.port p) ∧
    (∃ (s : State) (n : Fin 16) (f : Frame) (rest : List Frame), (s.dev.pipe ↑n).looked = f :: rest ∧ f.fixed = false ∧ f.trapCode < 240 ∧
      f.dec.meter = none) ∧
    (∃ (s : State) (n : Fin 16) (f : Frame) (rest : List Frame), (s.dev.pipe ↑n).metered = f :: rest ∧ f.parse.jarlis = none ∧
      (s.dev.editBytes f).fst.length + 4 ≤ 16383 ∧ stitchCount ((s.dev.editBytes f).fst.length + 4) = f.n ∧ f.stitches.length = f.n) ∧
    (∃ (s : State) (n : Fin 16) (f : Frame) (rest : List Frame), (s.dev.pipe ↑n).edited = f :: rest ∧ f.dec.copyHost = none ∧ f.dec.copySvc
      = none ∧ f.dec.mir = none) :=
  ⟨⟨wit fun d => d.onPath fun p => { p with ready := [(60, [arp])] }, 15, arp, by decide +kernel⟩,
   ⟨pipe15 { taken := [arp] }, 15, arp, [], by decide +kernel⟩,
   ⟨pipe15 { parsed := [{ arp with trapCode := 1, dec := { dest := .port 515 }}] }, 15,
     { arp with trapCode := 1, dec := { dest := .port 515 }}, [], 515, by decide +kernel⟩,
   ⟨pipe15 { looked := [arp] }, 15, arp, [], by decide +kernel⟩,
   ⟨pipe15 { metered := [arp] }, 15, arp, [], by decide +kernel⟩,
   ⟨pipe15 { edited := [arp] }, 15, arp, [], by decide +kernel⟩⟩

/-- Hypotheses of AdmissionDecides. -/
theorem wit_AdmissionDecides :
    (∃ (s : State) (n : Fin 16) (f : Frame) (rest : List Frame) (c : Charge) (sp : Bool), (s.dev.pipe ↑n).captured = f :: rest ∧ f.isCopy =
      false ∧ f.ctx = none ∧ f.inj = none ∧ f.ckind ≠ 4 ∧ f.src < 516 ∧ f.hdr.dtype ≠ 1 ∧ f.hdr.dest < 516 ∧ s.dev.flag
      (Reg.MIR_PORT_EGR_EN f.hdr.dest) = false ∧ ((s.dev.onPipe ↑n fun p =>
      { taken := p.taken, parsed := p.parsed, looked := p.looked, metered := p.metered, edited := p.edited, captured := rest }).flightSub
      (↑n) f.n).admitTest (qIdx f.hdr.dest f.hdr.queue) f.n f.hdr.colour f.control = (Admit.onDie c, sp)) ∧
    (∃ (s : State) (n : Fin 16) (f : Frame) (rest : List Frame) (c : Charge) (sp : Bool), (s.dev.pipe ↑n).captured = f :: rest ∧ f.isCopy =
      false ∧ f.ctx = none ∧ f.inj = none ∧ f.ckind ≠ 4 ∧ f.src < 516 ∧ f.hdr.dtype ≠ 1 ∧ f.hdr.dest < 516 ∧ s.dev.flag
      (Reg.MIR_PORT_EGR_EN f.hdr.dest) = false ∧ ((s.dev.onPipe ↑n fun p =>
      { taken := p.taken, parsed := p.parsed, looked := p.looked, metered := p.metered, edited := p.edited, captured := rest }).flightSub
      (↑n) f.n).admitTest (qIdx f.hdr.dest f.hdr.queue) f.n f.hdr.colour f.control = (Admit.deep c, sp)) ∧
    (∃ (s : State) (n : Fin 16) (f : Frame) (rest : List Frame) (r : Nat) (sp : Bool), (s.dev.pipe ↑n).captured = f :: rest ∧ f.isCopy =
      false ∧ f.ctx = none ∧ f.inj = none ∧ f.ckind ≠ 4 ∧ f.src < 516 ∧ f.hdr.dtype ≠ 1 ∧ f.hdr.dest < 516 ∧ s.dev.flag
      (Reg.MIR_PORT_EGR_EN f.hdr.dest) = false ∧ ((s.dev.onPipe ↑n fun p =>
      { taken := p.taken, parsed := p.parsed, looked := p.looked, metered := p.metered, edited := p.edited, captured := rest }).flightSub
      (↑n) f.n).admitTest (qIdx f.hdr.dest f.hdr.queue) f.n f.hdr.colour f.control = (Admit.refused r, sp)) ∧
    (∃ (s : State) (n : Fin 16) (f : Frame) (rest : List Frame), (s.dev.pipe ↑n).captured = f :: rest ∧ f.isCopy = false ∧ f.ctx = none ∧
      f.inj = none ∧ f.ckind ≠ 4 ∧ f.src < 516 ∧ f.hdr.dtype = 1 ∧ ((s.dev.onPipe ↑n fun p =>
      { taken := p.taken, parsed := p.parsed, looked := p.looked, metered := p.metered, edited := p.edited, captured := rest }).flightSub
      (↑n) f.n).get (Reg.BUF_MC_USED_STITCHES ↑n) + f.n ≤ admThreshold (((s.dev.onPipe ↑n fun p =>
      { taken := p.taken, parsed := p.parsed, looked := p.looked, metered := p.metered, edited := p.edited, captured := rest }).flightSub
      (↑n) f.n).get Reg.BUF_MC_CFG_ALPHA) 0 ((s.dev.onPipe ↑n fun p =>
      { taken := p.taken, parsed := p.parsed, looked := p.looked, metered := p.metered, edited := p.edited, captured := rest }).flightSub
      (↑n) f.n).f0) ∧
    (∃ (s : State) (n : Fin 16) (f : Frame) (rest : List Frame), (s.dev.pipe ↑n).captured = f :: rest ∧ f.isCopy = false ∧ f.ctx = none ∧
      f.inj = none ∧ f.ckind ≠ 4 ∧ f.src < 516 ∧ f.hdr.dtype = 1 ∧ ¬((s.dev.onPipe ↑n fun p =>
      { taken := p.taken, parsed := p.parsed, looked := p.looked, metered := p.metered, edited := p.edited, captured := rest }).flightSub
      (↑n) f.n).get (Reg.BUF_MC_USED_STITCHES ↑n) + f.n ≤ admThreshold (((s.dev.onPipe ↑n fun p =>
      { taken := p.taken, parsed := p.parsed, looked := p.looked, metered := p.metered, edited := p.edited, captured := rest }).flightSub
      (↑n) f.n).get Reg.BUF_MC_CFG_ALPHA) 0 ((s.dev.onPipe ↑n fun p =>
      { taken := p.taken, parsed := p.parsed, looked := p.looked, metered := p.metered, edited := p.edited, captured := rest }).flightSub
      (↑n) f.n).f0) ∧
    (∃ (s : State) (n : Fin 16) (f : Frame) (rest : List Frame) (c : Charge) (sp : Bool), (s.dev.pipe ↑n).captured = f :: rest ∧ f.isCopy =
      true ∧ f.ckind ≠ 4 ∧ f.hdr.dest < 516 ∧ (s.dev.onPipe ↑n fun p =>
      { taken := p.taken, parsed := p.parsed, looked := p.looked, metered := p.metered, edited := p.edited, captured := rest }).admitTest
      (qIdx f.hdr.dest f.hdr.queue) f.n f.hdr.colour f.control = (Admit.onDie c, sp)) ∧
    (∃ (s : State) (n : Fin 16) (f : Frame) (rest : List Frame) (c : Charge) (sp : Bool), (s.dev.pipe ↑n).captured = f :: rest ∧ f.isCopy =
      true ∧ f.ckind ≠ 4 ∧ f.hdr.dest < 516 ∧ (s.dev.onPipe ↑n fun p =>
      { taken := p.taken, parsed := p.parsed, looked := p.looked, metered := p.metered, edited := p.edited, captured := rest }).admitTest
      (qIdx f.hdr.dest f.hdr.queue) f.n f.hdr.colour f.control = (Admit.deep c, sp)) ∧
    (∃ (s : State) (n : Fin 16) (f : Frame) (rest : List Frame) (r : Nat) (sp : Bool), (s.dev.pipe ↑n).captured = f :: rest ∧ f.isCopy =
      true ∧ f.ckind ≠ 4 ∧ f.hdr.dest < 516 ∧ (s.dev.onPipe ↑n fun p =>
      { taken := p.taken, parsed := p.parsed, looked := p.looked, metered := p.metered, edited := p.edited, captured := rest }).admitTest
      (qIdx f.hdr.dest f.hdr.queue) f.n f.hdr.colour f.control = (Admit.refused r, sp) ∧ f.mirror = none) :=
  ⟨⟨adm arp fun p => { p with qcnt := [(15, {resvEff := 1})] }, 15, arp, [], .ru 15, false, by decide +kernel⟩,
   ⟨adm arp fun p => { p with qcnt := [(15, {spill := true, deepEff := 1})] }, 15, arp, [], .dru 15, false, by decide +kernel⟩,
   ⟨adm arp fun p => { p with qcnt := [(15, {su := 800000})] }, 15, arp, [], 17, false, by decide +kernel⟩,
   ⟨admM 0, 15, arpM, [], by decide +kernel⟩,
   ⟨admM 900000, 15, arpM, [], by decide +kernel⟩,
   ⟨adm arpC fun p => { p with qcnt := [(15, {resvEff := 1})] }, 15, arpC, [], .ru 15, false, by decide +kernel⟩,
   ⟨adm arpC fun p => { p with qcnt := [(15, {spill := true, deepEff := 1})] }, 15, arpC, [], .dru 15, false, by decide +kernel⟩,
   ⟨adm arpC fun p => { p with qcnt := [(15, {su := 800000})] }, 15, arpC, [], 17, false, by decide +kernel⟩⟩

/-- Hypotheses of YokeMoves. -/
theorem wit_YokeMoves :
    (∃ (s : State) (r : Req) (st : Start), s.dev.requests = [r] ∧ r.cont = false ∧ r.start = some st ∧ r.u < 64 ∧ r.o < 64 ∧ st.u = r.u ∧
      st.o = r.o ∧ r.count ≤ s.dev.depFree r.o) ∧
    (∃ (s : State) (plane : Fin 4) (tile : Fin 64) (err : BitVec 128) (x : Transit) (rest : List Transit) (f : DepFrame), lget
      s.dev.path.transit (4 * ↑tile + ↑plane) = x :: rest ∧ s.dev.depFrame (↑tile) x.frame.id = some f ∧ f.dead = false ∧ f.bad = false
      ∧ x.idx = 0 ∧ x.mc = false ∧ headerOk (leBytes 16 (leNat (x.frame.hdr.stitch x.idx f.total) ^^^ err.toNat)) = true ∧ s.dev.stale
      x.frame.hdr.dest (unicastEntry (↑tile) x.frame) = false) ∧
    (∃ (s : State) (tile : Fin 64) (x : DepFrame) (c : Charge), s.dev.expandable ↑tile = some x ∧ x.recIdx + 1 < (s.dev.groupList (↑tile)
      x.frame.hdr.dest x.frame.hdr.gver).snd ∧ bit (s.dev.member (↑tile) ((s.dev.groupList (↑tile) x.frame.hdr.dest
      x.frame.hdr.gver).fst + x.recIdx)) 19 = false ∧ x.frame.hops0 = false ∧ copyLen x.frame.hdr.len (bits (s.dev.member (↑tile)
      ((s.dev.groupList (↑tile) x.frame.hdr.dest x.frame.hdr.gver).fst + x.recIdx)) 18 17) x.frame.parse.jarlis.isSome (s.dev.jarlisPort
      (bits (s.dev.member (↑tile) ((s.dev.groupList (↑tile) x.frame.hdr.dest x.frame.hdr.gver).fst + x.recIdx)) 29 20)) ≤ 16383 ∧
      s.dev.admitTest (qIdx (bits (s.dev.member (↑tile) ((s.dev.groupList (↑tile) x.frame.hdr.dest x.frame.hdr.gver).fst + x.recIdx)) 29
      20) x.frame.hdr.queue) (stitchCount (copyLen x.frame.hdr.len (bits (s.dev.member (↑tile) ((s.dev.groupList (↑tile)
      x.frame.hdr.dest x.frame.hdr.gver).fst + x.recIdx)) 18 17) x.frame.parse.jarlis.isSome (s.dev.jarlisPort (bits (s.dev.member
      (↑tile) ((s.dev.groupList (↑tile) x.frame.hdr.dest x.frame.hdr.gver).fst + x.recIdx)) 29 20)))) x.frame.hdr.colour x.frame.control
      = (Admit.onDie c, false)) :=
  ⟨⟨yoke, yoke.dev.requests.headD ⟨0,0,false,0,none⟩, (yoke.dev.requests.headD ⟨0,0,false,0,none⟩).start.getD ⟨0,0,0,0,false,{}⟩,
     by decide +kernel⟩,
   ⟨arr, 3, 63, 0, ⟨{ arp with id := 7, hdr := { dest := 511, queue := 15 } }, 0, false⟩, [],
     { frame := { arp with id := 7, hdr := { dest := 511, queue := 15 } }, mc := false, total := 1 }, by decide +kernel⟩,
   ⟨mc, 63, mcx, .su 8191, by decide +kernel⟩⟩

/-- Hypotheses of EgressSends. -/
theorem wit_EgressSends :
    (∃ (s : State) (l : Nat) (n : Nat), s.dev.shapers = [(l, n)] ∧ mget (fun x => false) s.dev.path.shpFill (21 * l + n) = false) ∧
    (∃ (s : State) (x : Fin 512) (e : EgrEntry) (es : List EgrEntry) (y : Fin 516) (l : Nat) (g : Nat) (i : Nat), y.val = x.val ∧
      (s.dev.each (↑x :: s.dev.mapped ↑x) fun d l => d.purge l) = s.dev ∧ s.dev.canAccept ↑x = true ∧ s.dev.mapped ↑x = [l] ∧
      s.dev.candidate (↑x) l = true ∧ (s.dev.pickGroup (↑x) l (s.dev.topLevel (↑x) l)).fst = some g ∧ (s.dev.pickQueue (↑x) l g).fst =
      some i ∧ s.dev.egr (qIdx l (4 * g + i)) = e :: es ∧ s.dev.selCheck (↑x) l (4 * g + i) e = none ∧ s.dev.mutedAt (↑x) (qIdx l (4 * g
      + i)) = false ∧ s.dev.trunkOf l = none ∧ s.dev.tensionOn = false ∧ s.dev.isJarlis ↑x = false) ∧
    (∃ (s : State) (x : Fin 512) (u : Selected) (rest : List Selected), s.dev.txOf ↑x = none ∧ lget s.dev.path.sel ↑x = u :: rest ∧
      s.dev.startable u.entry = true ∧ (s.dev.unit.muted && s.dev.mutedAt (↑x) u.q) = true) ∧
    (∃ (s : State) (x : Fin 512) (u : Selected) (rest : List Selected), s.dev.txOf ↑x = none ∧ lget s.dev.path.sel ↑x = u :: rest ∧
      s.dev.startable u.entry = true ∧ (s.dev.unit.muted && s.dev.mutedAt (↑x) u.q) = false ∧ s.dev.rxPaused (↑x) (u.q % 16) = true) ∧
    (∃ (s : State) (x : Fin 512) (u : Selected) (rest : List Selected) (f : DepFrame), s.dev.txOf ↑x = none ∧ lget s.dev.path.sel ↑x = u ::
      rest ∧ s.dev.startable u.entry = true ∧ (s.dev.unit.muted && s.dev.mutedAt (↑x) u.q) = false ∧ s.dev.rxPaused (↑x) (u.q % 16) =
      false ∧ s.dev.depFrame u.entry.tile u.entry.id = some f ∧ f.dead = false ∧ f.bad = false ∧ u.entry.hdr.ptp = 0 ∧ u.entry.seq =
      none) ∧
    (∃ (s : State) (x : Fin 512) (f : DepFrame) (w : TxFrame), s.dev.txOf ↑x = some w ∧ s.dev.depFrame w.entry.tile w.entry.id = some f ∧
      f.dead = false ∧ f.bad = false ∧ f.total ≤ f.arrived.length) :=
  ⟨⟨shp, 511, 20, by decide +kernel⟩,
   ⟨seln, 511, entry, [], 511, 511, 3, 3, by decide +kernel⟩,
   ⟨wit fun d => ((portOn 511 d).onUnit fun u => { u with muted := true }).onPath fun p => { p with sel := [(511, [sel])], dep := [(63, [df])] },
     511, sel, [], by decide +kernel⟩,
   ⟨wit fun d => (((portOn 511 d).set (Reg.MAC_CFG_FC_MODE 63 7) 1).set (Reg.MAC_FC_STATUS_RX_PAUSED 63 7) 255).onPath fun p => { p with sel := [(511, [sel])], dep := [(63, [df])] },
     511, sel, [], by decide +kernel⟩,
   ⟨wit fun d => (portOn 511 d).onPath fun p => { p with sel := [(511, [sel])], dep := [(63, [df])] }, 511, sel, [], df, by decide +kernel⟩,
   ⟨wit fun d => (portOn 511 d).onPath fun p => { p with tx := [(511, some ⟨entry, arp.bytes, false⟩)], dep := [(63, [df])] }, 511, df,
     ⟨entry, arp.bytes, false⟩, by decide +kernel⟩⟩

/-- Hypotheses of PlainWritesStore. -/
theorem wit_PlainWritesStore :
    (∃ (s : State) (rq : Requester) (p : Fin 512) (len : BitVec 14), performs s.dev rq (macReg ↑p) 4 (withBits (s.dev.rd (macReg ↑p)) 13 0
      len.toNat)) ∧
    (∃ (s : State) (rq : Requester) (p : Fin 512) (data : BitVec 32) (prio : Fin 8), performs s.dev rq (Reg.MAC_PFC_MAP (tileOf ↑p) (laneIn
      ↑p) ↑prio) 4 data.toNat) ∧
    (∃ (s : State) (rq : Requester) (n : Fin 16) (data : BitVec 32) (w : Fin 32), performs s.dev rq (Reg.MIR_SESSION_W0 ↑n + 4 * ↑w) 4
      data.toNat) ∧
    (∃ (s : State) (rq : Requester) (data : BitVec 32) (l : Fin 516) (w : Fin 256), performs s.dev rq (Reg.EGR_PORT_CFG ↑l + 4 * ↑w) 4
      data.toNat) ∧
    (∃ (s : State) (rq : Requester) (p : Fin 512) (data : BitVec 32), performs s.dev rq (Reg.HQ_OWNER ↑p) 4 data.toNat) ∧
    (∃ (s : State) (rq : Requester) (p : Fin 512) (data : BitVec 32), performs s.dev rq (Reg.HQ_CQ_CFG ↑p) 4 (withBits data.toNat 31 31 1)) ∧
    (∃ (s : State) (rq : Requester) (p : Fin 512) (data : BitVec 32), performs s.dev rq (Reg.HQ_SQ_CFG ↑p) 4 (withBits data.toNat 31 31 1)) ∧
    (∃ (s : State) (rq : Requester) (stream : Bool), performs s.dev rq Reg.AUD_CFG 4 (2 ^ 31 * b2n stream)) ∧
    (∃ (s : State) (rq : Requester) (data : BitVec 32) (i : Fin 256), performs s.dev rq (Reg.PMC_SEL ↑i) 4 data.toNat) ∧
    (∃ (s : State) (rq : Requester) (data : BitVec 32) (k : Fin 4) (w : Fin 256), performs s.dev rq (Reg.DST_DLY_CH (↑k) 0 + 4 * ↑w) 4
      data.toNat) ∧
    (∃ (s : State) (rq : Requester) (data : BitVec 32) (off : BitVec 28), 12582912 ≤ off.toNat ∧ off.toNat < 13631488 ∧ off.toNat % 65536 <
      20480 ∧ winAt off.toNat = none ∧ performs s.dev rq off.toNat 4 data.toNat) :=
  ⟨⟨wit ready, .gaffer 15, 511, 9600, by decide +kernel⟩,
   ⟨wit ready, .gaffer 15, 511, 0xFFFFFFFF, 7, by decide +kernel⟩,
   ⟨wit ready, .gaffer 15, 15, 0x80000003, 0, by decide +kernel⟩,
   ⟨wit ready, .gaffer 15, 0x5, 515, 0, by decide +kernel⟩,
   ⟨wit ready, .gaffer 15, 511, 3, by decide +kernel⟩,
   ⟨wit fun d => (ready d).wr64 (Reg.HQ_CQ_BASE 511) 0x10000, .gaffer 15, 511, 4 * 2^25, by decide +kernel⟩,
   ⟨wit fun d => (ready d).wr (Reg.HQ_CQ_CFG 511) 0x88000000, .gaffer 15, 511, 4 * 2 ^ 23 + 511, by decide +kernel⟩,
   ⟨wit fun d => (ready d), .gaffer 15, true, by decide +kernel⟩,
   ⟨wit fun d => (ready d), .gaffer 15, 0x80000000 + 2^22, 255, by decide +kernel⟩,
   ⟨wit fun d => (ready d), .gaffer 15, 0x3F3F, 3, 0, by decide +kernel⟩,
   ⟨wit fun d => (ready d), .gaffer 15, 0xFFFFFFFF, 0xCF0000, by decide +kernel⟩⟩

/-- Hypotheses of BlockWritesStore. -/
theorem wit_BlockWritesStore :
    (∃ (s : State) (rq : Requester) (tile : Fin 64) (data : BitVec 32), s.dev.portsOfTile ↑tile = [] ∧ performs s.dev rq (Reg.TILE_TXMAP
      ↑tile) 4 data.toNat) ∧
    (∃ (s : State) (rq : Requester) (p : Fin 512) (data : BitVec 32), s.dev.portOfLane ↑p = none ∧ performs s.dev rq (Reg.LANE_CTRL (tileOf
      ↑p) (laneIn ↑p)) 4 data.toNat) ∧
    (∃ (s : State) (rq : Requester) (p : Fin 512) (mode : BitVec 2), performs s.dev rq (macReg ↑p) 4 (withBits (s.dev.rd (macReg ↑p)) 31 30
      mode.toNat) ∧ s.dev.get (Reg.MAC_CFG_FC_MODE (tileOf ↑p) (laneIn ↑p)) ≠ mode.toNat) ∧
    (∃ (s : State) (rq : Requester) (dom : BitVec 12) (dev : BitVec 12), (∀ (q : Nat), q < 512 → (s.dev.portEn q && s.dev.isJarlis q) =
      false) ∧ performs s.dev rq Reg.JFL_CFG 4 (withBits (s.dev.rd Reg.JFL_CFG) 23 0 (4096 * dom.toNat + dev.toNat))) ∧
    (∃ (s : State) (rq : Requester) (k : Fin 256) (m : BitVec 32), s.dev.trunkEn ↑k = false ∧ performs s.dev rq (Reg.JFL_TRUNK_MEMBERS ↑k) 4
      m.toNat) ∧
    (∃ (s : State) (rq : Requester) (p : Fin 512) (data : BitVec 32), s.dev.path.sel = [] ∧ performs s.dev rq (Reg.PRT_BIND ↑p) 4
      data.toNat) ∧
    (∃ (s : State) (rq : Requester) (data : BitVec 32) (g : Fin 4096), s.dev.path.sel = [] ∧ performs s.dev rq (Reg.PRT_GRP_CFG ↑g) 4
      data.toNat) ∧
    (∃ (s : State) (rq : Requester) (p : Fin 512) (policy : Bool) (shed : Bool) (sleep : Bool) (probe : BitVec 8), s.dev.portEn ↑p = true ∧
      performs s.dev rq (portReg ↑p) 4 (withBits (withBits (s.dev.portCfg ↑p) 12 10 (4 * b2n policy + 2 * b2n shed + b2n sleep)) 7 0
      probe.toNat) ∧ cfgFec (s.dev.portCfg ↑p) ≠ 15) ∧
    (∃ (s : State) (rq : Requester) (p : Fin 512) (data : BitVec 32), s.dev.portEn ↑p = false ∧ bit data.toNat 31 = false ∧ performs s.dev
      rq (portReg ↑p) 4 data.toNat) ∧
    (∃ (s : State) (rq : Requester) (data : BitVec 32) (w : Fin 8192) (b : Fin 32), performs s.dev rq (1048576 + 128 * ↑w + 4 * ↑b) 4
      data.toNat ∧ 4 * ↑w = Reg.GLB_SCRATCH) :=
  ⟨⟨wit ready, .gaffer 15, 63, 0xFAC688, by decide +kernel⟩,
   ⟨wit ready, .gaffer 15, 511, 0x31, by decide +kernel⟩,
   ⟨wit ready, .gaffer 15, 511, 2, by decide +kernel⟩,
   ⟨wit ready, .gaffer 15, 4095, 4095, by decide +kernel⟩,
   ⟨wit fun d => (portOn 511 (ready d)).wr (Reg.JFL_TRUNK_CFG 255) 0x78000000 |>.put (Reg.TILE_PORT_CFG_KIND 63 7) true, .gaffer 15, 255,
     0x80000000, by decide +kernel⟩,
   ⟨wit ready, .gaffer 15, 511, 0x3FFFFFFF, by decide +kernel⟩,
   ⟨wit fun d => portOn 511 (portOn 510 (ready d)), .gaffer 15, 0x9FF7F801, 4095, by decide +kernel⟩,
   ⟨wit fun d => portOn 511 (ready d), .gaffer 15, 511, true, false, false, 255, by decide +kernel⟩,
   ⟨wit ready, .gaffer 15, 511, 0x0F000000, by decide +kernel⟩,
   ⟨wit ready, .gaffer 15, 1, ⟨Reg.GLB_SCRATCH / 4, by decide⟩, 31, by decide +kernel⟩⟩

/-- Hypotheses of PairsAct. -/
theorem wit_PairsAct :
    (∃ (s : State) (rq : Requester), performsPair s.dev rq Reg.GLB_LOCK_REL 1) ∧
    (∃ (s : State) (rq : Requester), performs s.dev rq Reg.GLB_LOCK 4 1) ∧
    (∃ (s : State) (rq : Requester) (a : Bool) (b : Bool), performsPair s.dev rq Reg.GLB_FLASH_WE (b2n a + 2 * b2n b)) ∧
    (∃ (s : State) (rq : Requester) (slot : Fin 4) (clr : Bool), performsPair s.dev rq Reg.GLB_BOOT_CTRL (3 + 16 * ↑slot + 256 * b2n clr)) ∧
    (∃ (s : State) (rq : Requester) (slot : Fin 4) (clr : Bool), performsPair s.dev rq Reg.GLB_BOOT_CTRL (1 + 16 * ↑slot + 256 * b2n clr) ∧
      s.dev.envCause = none) ∧
    (∃ (s : State) (rq : Requester) (slot : Fin 4) (clr : Bool), performsPair s.dev rq Reg.GLB_BOOT_CTRL (1 + 16 * ↑slot + 256 * b2n clr)) ∧
    (∃ (s : State) (rq : Requester) (clr : Bool), performsPair s.dev rq Reg.GLB_BOOT_CTRL (2 + 256 * b2n clr)) ∧
    (∃ (s : State) (rq : Requester) (v : BitVec 32), performsPair s.dev rq Reg.MRV_SEED v.toNat) ∧
    (∃ (s : State) (rq : Requester) (hw : Bool) (g : Fin 4096), s.dev.path.sel = [] ∧ performsPair s.dev rq Reg.PRT_GRP_CMD (65536 * ↑g + 0)
      hw) ∧
    (∃ (s : State) (rq : Requester) (hw : Bool) (g : Fin 4096), s.dev.path.sel = [] ∧ performsPair s.dev rq Reg.PRT_GRP_CMD (65536 * ↑g + 1)
      hw) ∧
    (∃ (s : State) (rq : Requester) (hw : Bool) (g : Fin 4096), s.dev.path.sel = [] ∧ performsPair s.dev rq Reg.PRT_GRP_CMD (65536 * ↑g + 2)
      hw) ∧
    (∃ (s : State) (rq : Requester) (hw : Bool) (g : Fin 4096), s.dev.path.sel = [] ∧ performsPair s.dev rq Reg.PRT_GRP_CMD (65536 * ↑g + 3)
      hw) ∧
    (∃ (s : State) (rq : Requester) (hw : Bool) (g : Fin 4096), s.dev.path.sel = [] ∧ performsPair s.dev rq Reg.PRT_GRP_CMD (65536 * ↑g + 4)
      hw) ∧
    (∃ (s : State) (rq : Requester) (hw : Bool) (g : Fin 4096), s.dev.path.sel = [] ∧ performsPair s.dev rq Reg.PRT_GRP_CMD (65536 * ↑g + 5)
      hw) ∧
    (∃ (s : State) (rq : Requester) (hw : Bool) (g : Fin 4096), s.dev.path.sel = [] ∧ performsPair s.dev rq Reg.PRT_GRP_CMD (65536 * ↑g + 6)
      hw) ∧
    (∃ (s : State) (rq : Requester) (hw : Bool) (g : Fin 4096), s.dev.path.sel = [] ∧ performsPair s.dev rq Reg.PRT_GRP_CMD (65536 * ↑g + 7)
      hw) ∧
    (∃ (s : State) (rq : Requester), performsPair s.dev rq Reg.GLB_RST_CTRL 1) ∧
    (∃ (s : State) (rq : Requester) (v : BitVec 32), performsPair s.dev rq Reg.LDG_ERASE v.toNat) ∧
    (∃ (s : State) (rq : Requester) (fuse : Fin 2), performsPair s.dev rq Reg.AUD_FUSE_PROG (1 + 32 * ↑fuse)) ∧
    (∃ (s : State) (rq : Requester) (fuse : Fin 2), performsPair s.dev rq Reg.AUD_FUSE_PROG (2 + 32 * ↑fuse)) ∧
    (∃ (s : State) (rq : Requester) (fuse : Fin 2), performsPair s.dev rq Reg.AUD_FUSE_PROG (3 + 32 * ↑fuse)) :=
  ⟨⟨wit fun d => (ready d).put Reg.GLB_LOCK_LOCKED true, .gaffer 15, by decide +kernel⟩,
   ⟨wit fun d => (ready d), .gaffer 15, by decide +kernel⟩,
   ⟨wit fun d => (ready d), .gaffer 15, true, false, by decide +kernel⟩,
   ⟨wit fun d => (ready d), .gaffer 15, 2, true, by decide +kernel⟩,
   ⟨wit fun d => (ready d), .gaffer 15, 2, true, by decide +kernel⟩,
   ⟨wit fun d => (ready d).put (Reg.SRV_RAIL_LIVE_OUT 31) true, .gaffer 15, 0, false, by decide +kernel⟩,
   ⟨wit fun d => (ready d), .gaffer 15, true, by decide +kernel⟩,
   ⟨wit fun d => (ready d), .gaffer 15, 0xFFFFFFFF, by decide +kernel⟩,
   ⟨wit fun d => (ready d), .gaffer 15, false, 4095, by decide +kernel⟩,
   ⟨wit fun d => (ready d), .gaffer 15, false, 4095, by decide +kernel⟩,
   ⟨wit fun d => (ready d).wr (Reg.PRT_GRP_CFG 4095) 0x9FF7F801, .gaffer 15, false, 4095, by decide +kernel⟩,
   ⟨wit fun d => (ready d).wr (Reg.PRT_GRP_CFG 4095) 0x9FF7F801, .gaffer 15, false, 4095, by decide +kernel⟩,
   ⟨wit fun d => (ready d).wr (Reg.PRT_GRP_CFG 4095) 0x9FF7F801, .gaffer 15, false, 4095, by decide +kernel⟩,
   ⟨wit fun d => (ready d).wr (Reg.PRT_GRP_CFG 4095) 0x9FF7F801, .gaffer 15, false, 4095, by decide +kernel⟩,
   ⟨wit fun d => (ready d).wr (Reg.PRT_GRP_CFG 4095) 0x9FF7F801, .gaffer 15, false, 4095, by decide +kernel⟩,
   ⟨wit fun d => (ready d).wr (Reg.PRT_GRP_CFG 4095) 0x9FF7F801, .gaffer 15, false, 4095, by decide +kernel⟩,
   ⟨wit fun d => (ready d).wr (Reg.PRT_GRP_CFG 4095) 0x9FF7F801, .gaffer 15, by decide +kernel⟩,
   ⟨wit fun d => (ready d), .gaffer 15, 0x4C454852, by decide +kernel⟩,
   ⟨wit fun d => (ready d), .gaffer 15, 1, by decide +kernel⟩,
   ⟨wit fun d => (ready d), .gaffer 15, 1, by decide +kernel⟩,
   ⟨wit fun d => (ready d), .gaffer 15, 1, by decide +kernel⟩⟩

/-- Hypotheses of WindowWritesStore. -/
theorem wit_WindowWritesStore :
    (∃ (s : State) (rq : Requester) (sl : Fin 16) (r : Fin 65536) (data : BitVec 32) (w : Fin 44), performsWin s.dev rq (Win.cls ↑sl) (64 *
      ↑r + ↑w) data.toNat) ∧
    (∃ (s : State) (rq : Requester) (sl : Fin 16) (r : Fin 65536), performsWin s.dev rq (Win.cls ↑sl) (64 * ↑r + 63) 1) ∧
    (∃ (s : State) (rq : Requester) (sl : Fin 16) (r : Fin 65536), performsWin s.dev rq (Win.cls ↑sl) (64 * ↑r + 63) 0) ∧
    (∃ (s : State) (rq : Requester) (sl : Fin 16) (m : Fin 16384) (data : BitVec 32) (w : Fin 3), performsWin s.dev rq (Win.mtr ↑sl) (32 *
      ↑m + ↑w) data.toNat) ∧
    (∃ (s : State) (rq : Requester) (sl : Fin 16) (m : Fin 16384) (data : BitVec 32), performsWin s.dev rq (Win.mtr ↑sl) (32 * ↑m + 3)
      data.toNat) ∧
    (∃ (s : State) (rq : Requester) (sl : Fin 16) (m : Fin 16384) (data : BitVec 32) (w : Fin 32), performsWin s.dev rq (Win.mtr ↑sl) (32 *
      ↑m + ↑w) data.toNat ∧ ↑w = 8) ∧
    (∃ (s : State) (rq : Requester) (sl : Fin 16) (m : Fin 16384) (data : BitVec 32) (w : Fin 32), performsWin s.dev rq (Win.mtr ↑sl) (32 *
      ↑m + ↑w) data.toNat ∧ ↑w = 5) ∧
    (∃ (s : State) (rq : Requester) (sl : Fin 16) (m : Fin 16384) (data : BitVec 32) (w : Fin 32), performsWin s.dev rq (Win.mtr ↑sl) (32 *
      ↑m + ↑w) data.toNat ∧ ↑w = 7) ∧
    (∃ (s : State) (rq : Requester) (sl : Fin 16) (m : Fin 16384) (data : BitVec 32) (w : Fin 32), performsWin s.dev rq (Win.mtr ↑sl) (32 *
      ↑m + ↑w) data.toNat ∧ ↑w = 4) ∧
    (∃ (s : State) (rq : Requester) (sl : Fin 16) (m : Fin 16384) (data : BitVec 32) (w : Fin 32), performsWin s.dev rq (Win.mtr ↑sl) (32 *
      ↑m + ↑w) data.toNat) ∧
    (∃ (s : State) (sl : Fin 16) (m : Fin 16384), (s.dev.meter ↑sl ↑m).bad = false) ∧
    (∃ (s : State) (rq : Requester) (data : BitVec 32) (q : Fin 8256) (w : Fin 16), performsWin s.dev rq Win.buf (16 * ↑q + ↑w) data.toNat ∧
      ↑w < 5) ∧
    (∃ (s : State) (rq : Requester) (sl : Fin 16) (data : BitVec 32) (a : BitVec 20), performsWin s.dev rq (Win.rep ↑sl) a.toNat data.toNat
      ∧ a.toNat < 262144) ∧
    (∃ (s : State) (rq : Requester) (sl : Fin 16) (data : BitVec 32) (a : BitVec 20), performsWin s.dev rq (Win.rep ↑sl) a.toNat data.toNat
      ∧ 262144 ≤ a.toNat ∧ a.toNat < 786432) ∧
    (∃ (s : State) (rq : Requester) (sl : Fin 16) (data : BitVec 32) (a : BitVec 20), performsWin s.dev rq (Win.rep ↑sl) a.toNat data.toNat
      ∧ 262144 ≤ a.toNat ∧ 786432 ≤ a.toNat ∧ a.toNat < 851968) ∧
    (∃ (s : State) (rq : Requester) (sl : Fin 16) (g : Fin 65536), performs s.dev rq (Reg.REP_GRP_CMD ↑sl) 4 (2 ^ 31 + ↑g)) ∧
    (∃ (s : State) (rq : Requester) (data : BitVec 32) (slot : BitVec 28) (w : Fin 64), s.dev.stackState (slotStack slot.toNat) = 4 ∧
      performsWin s.dev rq Win.dst (64 * slot.toNat + ↑w) data.toNat ∧ ↑w = 63) :=
  ⟨⟨wit fun d => (ready d).onRules fun r => { r with valid := [(65535, 0xFFFF)] }, .gaffer 15, 15, 65535, 0xFFFFFFFF, 43,
     by decide +kernel⟩,
   ⟨wit ready, .gaffer 15, 15, 65535, by decide +kernel⟩,
   ⟨wit fun d => (ready d).onRules fun r => { r with valid := [(65535, 0xFFFF)] }, .gaffer 15, 15, 65535, by decide +kernel⟩,
   ⟨wit ready, .gaffer 15, 15, 16383, 0xFFFFFFFF, 2, by decide +kernel⟩,
   ⟨wit fun d => (ready d).onMeters fun x => {x with stage := [(15, [5,6,7,8])]}, .gaffer 15, 15, 16383, 0xFFFFFFFF, by decide +kernel⟩,
   ⟨wit ready, .gaffer 15, 15, 16383, 0xFFFFFFFF, 8, by decide +kernel⟩,
   ⟨wit fun d => (ready d).onMeters fun x => {x with even := [(32*15+4, 5)]}, .gaffer 15, 15, 16383, 0xFFFFFFFF, 5, by decide +kernel⟩,
   ⟨wit ready, .gaffer 15, 15, 16383, 0xFFFFFFFF, 7, by decide +kernel⟩,
   ⟨wit ready, .gaffer 15, 15, 16383, 0xFFFFFFFF, 4, by decide +kernel⟩,
   ⟨wit ready, .gaffer 15, 15, 16383, 0xFFFFFFFF, 31, by decide +kernel⟩,
   ⟨wit ready, 15, 16383, by decide +kernel⟩,
   ⟨wit ready, .gaffer 15, 0xFFFFFFFF, 8255, 4, by decide +kernel⟩,
   ⟨wit ready, .gaffer 15, 15, 0xFFFFFFFF, 0x3FFFF, by decide +kernel⟩,
   ⟨wit ready, .gaffer 15, 15, 0x5, 0xBFFFF, by decide +kernel⟩,
   ⟨wit ready, .gaffer 15, 15, 511 * 2^20 + 0x1F, 0xCFFFF, by decide +kernel⟩,
   ⟨wit ready, .gaffer 15, 15, 65535, by decide +kernel⟩,
   ⟨wit fun d => (ready d).set (Reg.DST_STACK_STATE 3) 4, .gaffer 15, 0x12345678, 0xC000000, 63, by decide +kernel⟩⟩

/-- Hypotheses of RegisterCommandsAct. -/
theorem wit_RegisterCommandsAct :
    (∃ (s : State) (rq : Requester) (p : Fin 512) (data : BitVec 32), performs s.dev rq (portReg ↑p) 4 (withBits data.toNat 31 31 1)) ∧
    (∃ (s : State) (rq : Requester) (p : Fin 512) (data : BitVec 32), performs s.dev rq (portReg ↑p) 4 (withBits data.toNat 31 31 0) ∧
      s.dev.portEn ↑p = true) ∧
    (∃ (s : State) (rq : Requester) (n : Fin 256) (sl : Fin 16) (w : BitVec 11), performs s.dev rq (Reg.JFL_TRUNK_CFG ↑n) 4 (2 ^ 31 + 2 ^ 27
      * ↑sl + w.toNat)) ∧
    (∃ (s : State) (rq : Requester) (n : Fin 256), performs s.dev rq (Reg.JFL_TRUNK_CFG ↑n) 4 (s.dev.rd (Reg.JFL_TRUNK_CFG ↑n) % 2 ^ 31) ∧
      s.dev.trunkEn ↑n = true) ∧
    (∃ (s : State) (rq : Requester) (sec : BitVec 64) (ns : BitVec 30) (frac : BitVec 16), performsSeq s.dev rq [(Reg.TIM_SET_W0,
      frac.toNat), (Reg.TIM_SET_W1, ns.toNat), (Reg.TIM_SET_W2, sec.toNat % 2 ^ 32), (Reg.TIM_SET_W3, sec.toNat / 2 ^ 32)]) ∧
    (∃ (s : State) (rq : Requester) (off : BitVec 48), performs s.dev rq Reg.TIM_OFFSET 8 off.toNat ∧ (s.dev.get Reg.TIM_LOCK_STEP_US ≠ 0 ∧
      s.dev.get Reg.TIM_LOCK_STEP_US * 1000 * 65536 ≤ (signed 48 off.toNat).natAbs)) ∧
    (∃ (s : State) (rq : Requester) (off : BitVec 48), performs s.dev rq Reg.TIM_OFFSET 8 off.toNat ∧ ¬(s.dev.get Reg.TIM_LOCK_STEP_US ≠ 0 ∧
      s.dev.get Reg.TIM_LOCK_STEP_US * 1000 * 65536 ≤ (signed 48 off.toNat).natAbs)) ∧
    (∃ (s : State) (rq : Requester), performs s.dev rq Reg.TIM_CTRL 4 (2 ^ 31) ∧ (s.dev.servoState = 1 ∨ s.dev.servoState = 2)) ∧
    (∃ (s : State) (rq : Requester), performs s.dev rq Reg.TIM_CTRL 4 (2 ^ 30) ∧ (s.dev.servoState = 2 ∨ s.dev.servoState = 3)) ∧
    (∃ (s : State) (rq : Requester) (k : Fin 4), s.dev.stackState ↑k = 2 ∧ performs s.dev rq Reg.DST_STACK_CMD 4 (16 * ↑k + 1)) ∧
    (∃ (s : State) (rq : Requester) (k : Fin 4), (s.dev.stackState ↑k = 0 ∨ s.dev.stackState ↑k = 3) ∧ performs s.dev rq Reg.DST_STACK_CMD 4
      (16 * ↑k + 2)) ∧
    (∃ (s : State) (rq : Requester) (k : Fin 4), (s.dev.stackState ↑k = 0 ∨ s.dev.stackState ↑k = 3 ∨ s.dev.stackState ↑k = 4) ∧ performs
      s.dev rq Reg.DST_STACK_CMD 4 (16 * ↑k + 3)) ∧
    (∃ (s : State) (rq : Requester) (k : Fin 4), (s.dev.stackState ↑k = 3 ∨ s.dev.stackState ↑k = 4) ∧ performs s.dev rq Reg.DST_STACK_CMD 4
      (16 * ↑k + 4)) ∧
    (∃ (s : State) (rq : Requester) (sets : BitVec 8), performs s.dev rq Reg.GLB_SNAP_CMD 4 sets.toNat ∧ sets.toNat % 64 ≠ 0 ∧ s.dev.flag
      Reg.GLB_SNAP_EPOCH_BUSY = false) ∧
    (∃ (s : State) (rq : Requester) (n : Fin 64), performsPair s.dev rq Reg.GLB_BLK_RST (2 ^ 31 + ↑n)) ∧
    (∃ (s : State) (rq : Requester) (n : Fin 16), performsPair s.dev rq Reg.GLB_BLK_RST (2 ^ 31 + 64 + ↑n) ∧ s.dev.get (Reg.SVC_CORE_STATE
      ↑n) ≠ 0) ∧
    (∃ (s : State) (rq : Requester), performsPair s.dev rq Reg.GLB_BLK_RST (2 ^ 31 + 80)) ∧
    (∃ (s : State) (rq : Requester) (p : Fin 512) (q : Fin 512) (auto : Bool) (res : Bool), performs s.dev rq Reg.SRV_CTRL 4 (2 ^ 31 + 2 ^
      30 * b2n auto + 2 ^ 29 * b2n res + 2 ^ 9 * ↑q + ↑p) ∧ ↑p ≤ ↑q ∧ s.dev.flag Reg.SRV_STATUS_BUSY = false ∧ s.dev.inSelvedge = false) ∧
    (∃ (s : State) (rq : Requester), performs s.dev rq Reg.SRV_CTRL 4 (withBits (withBits (s.dev.rd Reg.SRV_CTRL) 25 24 1) 31 31 1) ∧
      s.dev.flag Reg.SRV_STATUS_BUSY = false ∧ s.dev.inSelvedge = false) ∧
    (∃ (s : State) (rq : Requester) (o : Fin 80) (size : BitVec 15), performs s.dev rq (Reg.POOL_ALLOC ↑o) 4 size.toNat ∧ size.toNat = 0) ∧
    (∃ (s : State) (rq : Requester) (o : Fin 80) (size : BitVec 15) (i : Nat), performs s.dev rq (Reg.POOL_ALLOC ↑o) 4 size.toNat ∧ 1 ≤
      size.toNat ∧ size.toNat ≤ 256 ∧ s.dev.poolHeld (↑o) 0 < s.dev.poolResv (↑o) 0 ∧ s.dev.poolLowest 0 = some i) ∧
    (∃ (s : State) (rq : Requester) (o : Fin 80) (data : BitVec 32), performs s.dev rq (Reg.POOL_FREE ↑o) 4 data.toNat ∧ handleOk data.toNat
      = true ∧ (s.dev.pbuf (handleClass data.toNat) (handleIndex data.toNat)).owner = some ↑o ∧ (s.dev.pbuf (handleClass data.toNat)
      (handleIndex data.toNat)).gen = handleGen data.toNat) :=
  ⟨⟨wit ready, .gaffer 15, 511, 0x01330000, by decide +kernel⟩,
   ⟨wit fun d => portOn 511 (ready d), .gaffer 15, 511, 0, by decide +kernel⟩,
   ⟨wit fun d => (portOn 511 (ready d)).wr (Reg.TILE_PORT_CFG 63 7) 0x81332000 |>.wr (Reg.JFL_TRUNK_MEMBERS 255) 0x80000000, .gaffer 15,
     255, 15, 2047, by decide +kernel⟩,
   ⟨wit fun d => ((portOn 511 (ready d)).wr (Reg.TILE_PORT_CFG 63 7) 0x81332000 |>.wr (Reg.JFL_TRUNK_MEMBERS 255) 0x80000000).wr (Reg.JFL_TRUNK_CFG 255) 0xF8000000,
     .gaffer 15, 255, by decide +kernel⟩,
   ⟨wit ready, .gaffer 15, 0x1234567890123456, 0x3FFFFFFF, 0xFFFF, by simp only [performsSeq]; decide +kernel⟩,
   ⟨wit fun d => (ready d).set Reg.TIM_LOCK_STEP_US 1, .gaffer 15, 65536000, by decide +kernel⟩,
   ⟨wit fun d => (ready d).set Reg.TIM_LOCK_STEP_US 1, .gaffer 15, 65535999, by decide +kernel⟩,
   ⟨wit fun d => ({ready d with time := {avg := 5}}).set Reg.TIM_STATUS_STATE 2, .gaffer 15, by decide +kernel⟩,
   ⟨wit fun d => ({ready d with time := {avg := 5}}).set Reg.TIM_STATUS_STATE 3, .gaffer 15, by decide +kernel⟩,
   ⟨wit fun d => (ready d).set (Reg.DST_STACK_STATE 3) 2, .gaffer 15, 3, by decide +kernel⟩,
   ⟨wit fun d => (ready d).set (Reg.DST_STACK_STATE 3) 3, .gaffer 15, 3, by decide +kernel⟩,
   ⟨wit fun d => (ready d).set (Reg.DST_STACK_STATE 3) 4, .gaffer 15, 3, by decide +kernel⟩,
   ⟨wit fun d => (ready d).set (Reg.DST_STACK_STATE 3) 4, .gaffer 15, 3, by decide +kernel⟩,
   ⟨wit fun d => (ready d), .gaffer 15, 0x3F, by decide +kernel⟩,
   ⟨wit fun d => portOn 511 (ready d), .gaffer 15, 63, by decide +kernel⟩,
   ⟨wit fun d => (ready d).set (Reg.SVC_CORE_STATE 15) 2, .gaffer 0, 15, by decide +kernel⟩,
   ⟨wit fun d => (ready d).wr 0x50000 0x80400000, .gaffer 0, by decide +kernel⟩,
   ⟨wit fun d => (ready d), .gaffer 0, 0, 511, true, true, by decide +kernel⟩,
   ⟨wit fun d => (ready d), .gaffer 0, by decide +kernel⟩,
   ⟨wit fun d => (ready d), .gaffer 15, 79, 0, by decide +kernel⟩,
   ⟨wit fun d => (ready d).set (Reg.POOL_RESV_RESV 79 0) 1, .gaffer 15, 79, 256, 0, by decide +kernel⟩,
   ⟨wit fun d => (ready d).onPool fun p => {p with buf := [(0, {owner := some 79, gen := 5})]}, .gaffer 15, 79, 0x05000000,
     by decide +kernel⟩⟩

/-- Hypotheses of TableCommands. -/
theorem wit_TableCommands :
    (∃ (s : State) (entry : List Byte) (i : Nat) (ecc : List (Bool × Fin 1056768)), (ecc.all fun x => !x.fst) = true ∧ s.dev.tableServes
      (slice entry 0 64) ∧ cmdCheck (slice entry 0 64) = 0 ∧ byteAt (slice entry 0 64) 0 = 1 ∧ s.dev.findKey (cmdKey (slice entry 0 64))
      = none ∧ (s.dev.mrv.placeBucket (s.dev.home (cmdKey (slice entry 0 64))) (s.dev.entryOf (slice entry 0 64)).wide).fst = some i) ∧
    (∃ (s : State) (entry : List Byte) (i : Nat) (x : MrvEntry) (ecc : List (Bool × Fin 1056768)), (ecc.all fun x => !x.fst) = true ∧
      s.dev.tableServes (slice entry 0 64) ∧ cmdCheck (slice entry 0 64) = 0 ∧ byteAt (slice entry 0 64) 0 = 2 ∧ s.dev.findKey (cmdKey
      (slice entry 0 64)) = some i ∧ s.dev.mrv.at i = some x ∧ cmdFlag (slice entry 0 64) 1 = false ∧ s.dev.mrv.ovf = []) ∧
    (∃ (s : State) (entry : List Byte) (i : Nat) (x : MrvEntry) (ecc : List (Bool × Fin 1056768)), (ecc.all fun x => !x.fst) = true ∧
      s.dev.tableServes (slice entry 0 64) ∧ cmdCheck (slice entry 0 64) = 0 ∧ byteAt (slice entry 0 64) 0 = 3 ∧ s.dev.findKey (cmdKey
      (slice entry 0 64)) = some i ∧ s.dev.mrv.at i = some x ∧ (fun n => cmdAddr (slice entry 0 64) ≠ 0 ∧ cmdAddr (slice entry 0 64) + n
      ≤ 16777216 ∧ ∀ (j : Nat), j < n → ¬(s.dev.gaffer.code.fst ≤ cmdAddr (slice entry 0 64) + j ∧ cmdAddr (slice entry 0 64) + j <
      s.dev.gaffer.code.snd)) (max 32 x.bytes.length)) ∧
    (∃ (s : State) (entry : List Byte) (i : Nat) (x : MrvEntry) (ecc : List (Bool × Fin 1056768)), (ecc.all fun x => !x.fst) = true ∧
      s.dev.tableServes (slice entry 0 64) ∧ cmdCheck (slice entry 0 64) = 0 ∧ byteAt (slice entry 0 64) 0 = 4 ∧ s.dev.mrv.at i = some x
      ∧ cmdAux (slice entry 0 64) ≤ walkPos i ∧ walkPos i < cmdAux (slice entry 0 64) + 65536 ∧ (∀ (y : Nat × Option MrvEntry), y ∈
      s.dev.mrv.tab → y.snd ≠ none → y.fst ≠ i → walkPos y.fst < cmdAux (slice entry 0 64) ∨ walkPos i < walkPos y.fst) ∧ (fun n =>
      cmdAddr (slice entry 0 64) ≠ 0 ∧ cmdAddr (slice entry 0 64) + n ≤ 16777216 ∧ ∀ (j : Nat), j < n → ¬(s.dev.gaffer.code.fst ≤
      cmdAddr (slice entry 0 64) + j ∧ cmdAddr (slice entry 0 64) + j < s.dev.gaffer.code.snd)) (max 32 x.bytes.length)) ∧
    (∃ (s : State) (entry : List Byte) (i : Nat) (x : MrvEntry) (ecc : List (Bool × Fin 1056768)), (ecc.all fun x => !x.fst) = true ∧
      s.dev.tableServes (slice entry 0 64) ∧ cmdCheck (slice entry 0 64) = 0 ∧ byteAt (slice entry 0 64) 0 = 5 ∧ s.dev.mrv.tab = [(i,
      some x)] ∧ s.dev.findKey x.key = some i ∧ keyType x.key = 1 ∧ x.static = false ∧ x.result = cmdResult (slice entry 0 64) ∧ cmdFlag
      (slice entry 0 64) 3 = false) ∧
    (∃ (s : State) (entry : List Byte) (i : Nat) (ecc : List (Bool × Fin 1056768)), (ecc.all fun x => !x.fst) = true ∧ s.dev.tableServes
      (slice entry 0 64) ∧ cmdCheck (slice entry 0 64) = 0 ∧ byteAt (slice entry 0 64) 0 = 6 ∧ cmdAddr (slice entry 0 64) ≠ 0 ∧ cmdAddr
      (slice entry 0 64) + 64 ≤ 16777216 ∧ cmdAux (slice entry 0 64) % 65536 = 0 ∧ byteAt (s.dev.sramRead (cmdAddr (slice entry 0 64))
      64) 0 = 1 ∧ cmdCheck (s.dev.sramRead (cmdAddr (slice entry 0 64)) 64) = 0 ∧ s.dev.tblHeld (s.dev.sramRead (cmdAddr (slice entry 0
      64)) 64) = false ∧ s.dev.findKey (cmdKey (s.dev.sramRead (cmdAddr (slice entry 0 64)) 64)) = none ∧ (s.dev.mrv.placeBucket
      (s.dev.home (cmdKey (s.dev.sramRead (cmdAddr (slice entry 0 64)) 64))) (s.dev.entryOf (s.dev.sramRead (cmdAddr (slice entry 0 64))
      64)).wide).fst = some i) ∧
    (∃ (s : State) (entry : List Byte) (ecc : List (Bool × Fin 1056768)), (ecc.all fun x => !x.fst) = true ∧ s.dev.tableServes (slice entry
      0 64) ∧ cmdCheck (slice entry 0 64) = 0 ∧ byteAt (slice entry 0 64) 0 = 3) :=
  ⟨⟨wit ready, cmd 1 0 1 0 0, h, [(false, 1056767)], by simp only [Device.tableServes]; decide +kernel⟩,
   ⟨occ, cmd 2 0 1 0 0, h, mac1, [(false, 1056767)], by simp only [Device.tableServes]; decide +kernel⟩,
   ⟨occ, cmd 3 0 1 0 0xFFFFC0, h, mac1, [(false, 1056767)], by simp only [Device.tableServes]; decide +kernel⟩,
   ⟨occ, cmd 4 0 1 (walkPos h) 0xFFFFC0, h, mac1, [(false, 1056767)], by simp only [Device.tableServes]; decide +kernel⟩,
   ⟨occ, cmd 5 0 1 0 0, h, mac1, [(false, 1056767)], by simp only [Device.tableServes]; decide +kernel⟩,
   ⟨wit fun d => (ready d).sramWrite 64 (cmd 1 0 1 0 0), cmd 6 0 1 0 64, h, [(false, 1056767)],
     by simp only [Device.tableServes]; decide +kernel⟩,
   ⟨occ, cmd 3 0 1 0 0xFFFFC0, [], by simp only [Device.tableServes]; decide +kernel⟩⟩

/-- Hypotheses of TableUpkeep. -/
theorem wit_TableUpkeep :
    (∃ (s : State), s.dev.flag Reg.MRV_STATUS_SEED_BUSY = true) ∧
    (∃ (s : State) (i : Nat) (k : Nat) (x : MrvEntry) (rest : Map (Option MrvEntry)), s.dev.mrv.sweep = some k ∧ s.dev.mrv.behind = [] ∧
      s.dev.mrv.tab = (i, some x) :: rest ∧ k ≤ i ∧ keyType x.key = 1 ∧ x.static = false ∧ (x.wide = true → s.dev.mrv.at (i + 1) = none)
      ∧ s.dev.mrv.sweepFirst = true) ∧
    (∃ (s : State) (i : Nat) (k : Nat) (x : MrvEntry) (rest : Map (Option MrvEntry)), s.dev.mrv.sweep = some k ∧ s.dev.mrv.behind = [] ∧
      s.dev.mrv.tab = (i, some x) :: rest ∧ k ≤ i ∧ keyType x.key = 1 ∧ x.static = false ∧ (x.wide = true → s.dev.mrv.at (i + 1) = none)
      ∧ s.dev.mrv.sweepFirst = false ∧ s.dev.mrv.sweepLim ≠ 0 ∧ s.dev.mrv.sweepLim ≤ (s.dev.get Reg.MRV_AGE_NOW_NOW + 65536 - x.age) %
      65536 ∧ s.dev.role ≠ roleStandby ∧ s.dev.mrv.sweepDef = false ∧ s.dev.canDefer = true ∧ s.dev.replRoom = true ∧ s.dev.mrvHeld
      x.key = false ∧ s.dev.flag Reg.MRV_STATUS_SEED_BUSY = false ∧ s.dev.flag Reg.MRV_STATUS_FLUSH_BUSY = false ∧ s.dev.mrv.bulk = none
      ∧ s.dev.mrv.ovf = []) ∧
    (∃ (s : State) (n : LearnNote) (notes : List LearnNote) (core : Nat), s.dev.mrv.fifo = n :: notes ∧ s.dev.learnDest = 2 ∧ n.kind ≤ 2 ∧
      s.dev.serviceCore 3 = some core) ∧
    (∃ (s : State), s.dev.flag Reg.MRV_SCRUB_EN = true ∧ s.dev.mrv.scrub = none) ∧
    (∃ (s : State) (r : Nat) (dig : Nat) (ts : Nat), s.dev.mrv.scrub = some (r, dig, ts) ∧ r < 64 ∧ dig < 2 ^ 32 ∧ ts < 2 ^ 32) ∧
    (∃ (s : State) (c : Fin 16), s.dev.mrv.bulk = none ∧ (s.dev.engineReady = false ∨ s.dev.role = roleStandby ∨ s.dev.tblTurn
      (TblSrc.firmware c) = false ∧ (s.dev.host.ops.all fun o => !(s.dev.tblHead o && o.tblCommon != 0)) = true)) :=
  ⟨⟨wit fun d => (occ.dev).put Reg.MRV_STATUS_SEED_BUSY true, by decide +kernel⟩,
   ⟨wit fun d => occ.dev.onMrv fun m => { m with sweep := some h, sweepFirst := true }, h, h, mac1, [], by decide +kernel⟩,
   ⟨wit fun d => (occ.dev.onMrv fun m => { m with sweep := some 0, sweepLim := 1 })|>.set Reg.MRV_AGE_NOW_NOW 1, h, 0, mac1, [],
     by decide +kernel⟩,
   ⟨wit fun d => ((ready d).onMrv fun m => { m with fifo := [⟨1, 5, false, 0, 7, mac1.key, 0⟩] }).set Reg.MRV_LEARN_CFG_DEST 2 |>.set (Reg.SVC_CORE_ROLE 15) 8 |>.set (Reg.SVC_CORE_STATE 15) 2,
     ⟨1, 5, false, 0, 7, mac1.key, 0⟩, [], 15, by decide +kernel⟩,
   ⟨wit fun d => ((ready d).put Reg.MRV_SCRUB_EN true), by decide +kernel⟩,
   ⟨wit fun d => ((ready d).onMrv fun m => { m with scrub := some (63, 5, 6)}), 63, 5, 6, by decide +kernel⟩,
   ⟨wit fun d => ((ready d).put Reg.MRV_STATUS_FLUSH_BUSY true), 15, by decide +kernel⟩⟩

/-- Hypotheses of LinksComeAndGo. -/
theorem wit_LinksComeAndGo :
    (∃ (s : State) (p : Fin 512), s.dev.staleCount ↑p = 0) ∧
    (∃ (s : State) (t : Fin 64) (j : Fin 2), s.dev.pllOn ↑t ↑j = true ∧ s.dev.pllMay ↑t = true ∧ s.dev.pllLocked ↑t ↑j = false) ∧
    (∃ (n : Fin 144), ↑n < 16) ∧
    (∃ (s : State) (n : Fin 144), 16 ≤ ↑n ∧ s.dev.pllOn ((↑n - 16) / 2) (↑n % 2) = true) ∧
    (∃ (s : State) (p : Fin 512), s.dev.portEn ↑p = true ∧ s.dev.portState ↑p = 2 ∧ cfgAn (s.dev.portCfg ↑p) = 1) ∧
    (∃ (s : State) (p : Fin 512), s.dev.portEn ↑p = true ∧ s.dev.portState ↑p = 2 ∧ cfgAn (s.dev.portCfg ↑p) = 1 ∧ cfgRate (s.dev.portCfg
      ↑p) ≤ 1 ∧ s.dev.prbsOn ↑p = false) ∧
    (∃ (s : State) (p : Fin 512), s.dev.portState ↑p = 3 ∧ s.dev.isJarlis ↑p = false ∧ s.dev.prbsOn ↑p = false) ∧
    (∃ (s : State) (p : Fin 512) (dev : BitVec 12), s.dev.portState ↑p = 2 ∧ cfgAn (s.dev.portCfg ↑p) = 2 ∧ dev.toNat ≠ s.dev.get
      Reg.JFL_CFG_DEVID) ∧
    (∃ (s : State) (p : Fin 512), s.dev.portState ↑p = 9) ∧
    (∃ (s : State) (p : Fin 512), s.dev.portState ↑p = 9) ∧
    (∃ (s : State) (p : Fin 512) (cause : LinkCause) (k : Fin 8), s.dev.portUp ↑p = true ∧ s.dev.faultOn (↑p) (↑k) cause = true) ∧
    (∃ (s : State) (p : Fin 512), s.dev.portState ↑p = 5 ∧ s.dev.prbsOn ↑p = false) ∧
    (∃ (s : State) (p : Fin 512), s.dev.portState ↑p = 5) :=
  ⟨⟨wit fun d => (ready d).put (Reg.TILE_PORT_STATUS_STALE_WAIT 63 7) true, 511, by decide +kernel⟩,
   ⟨wit fun d => (portAt 0x81330000 1 false d).put (Reg.TILE_PLL_STATUS_PLL1_ON 63) true, 63, 1, by decide +kernel⟩,
   ⟨0, by decide +kernel⟩,
   ⟨wit fun d => (ready d).put (Reg.TILE_PLL_STATUS_PLL1_ON 63) true, 143, by decide +kernel⟩,
   ⟨wit (portAt 0x81324000 2 false), 511, by decide +kernel⟩,
   ⟨wit (portAt 0x81104000 2 false), 511, by decide +kernel⟩,
   ⟨wit (portAt 0x81330000 3 false), 511, by decide +kernel⟩,
   ⟨wit (portAt 0x8133A000 2 false), 511, 4095, by decide +kernel⟩,
   ⟨wit (portAt 0x8133A000 9 false), 511, by decide +kernel⟩,
   ⟨wit (portAt 0x8133A000 9 false), 511, by decide +kernel⟩,
   ⟨wit (portAt 0x81330000 4 true), 511, .signal, 0, by decide +kernel⟩,
   ⟨wit (portAt 0x81330000 5 false), 511, by decide +kernel⟩,
   ⟨wit (portAt 0x81330000 5 false), 511, by decide +kernel⟩⟩

/-- Hypotheses of LanesShedAndSleep. -/
theorem wit_LanesShedAndSleep :
    (∃ (s : State) (p : Fin 512), s.dev.trunkOfMember ↑p = none ∧ s.dev.shedAllowed ↑p = true ∧ (s.dev.port ↑p).firstWindow = false ∧
      (s.dev.port ↑p).pending = none ∧ (s.dev.port ↑p).restoring = false ∧ s.dev.txLanes ↑p ≤ s.dev.width ↑p ∧ 2 ≤ s.dev.txLanes ↑p ∧
      s.dev.shedMin ↑p ≤ s.dev.txLanes ↑p / 2 ∧ (s.dev.txLanes ↑p < s.dev.width ↑p → (s.dev.port ↑p).windowBits * 100 ≤ s.dev.shedHi ↑p
      * (fun k => k * rateGb (cfgRate (s.dev.portCfg ↑p)) * s.dev.shedWindow ↑p * 1000000) (s.dev.txLanes ↑p)) ∧ (s.dev.port
      ↑p).windowBits * 100 ≤ s.dev.shedLo ↑p * (fun k => k * rateGb (cfgRate (s.dev.portCfg ↑p)) * s.dev.shedWindow ↑p * 1000000)
      (s.dev.txLanes ↑p / 2) ∧ s.dev.portUp ↑p = true) ∧
    (∃ (s : State) (p : Fin 512), s.dev.trunkOfMember ↑p = none ∧ s.dev.shedAllowed ↑p = true ∧ (s.dev.port ↑p).firstWindow = false ∧
      (s.dev.port ↑p).pending = none ∧ (s.dev.port ↑p).restoring = false ∧ s.dev.txLanes ↑p ≤ s.dev.width ↑p ∧ 2 ≤ s.dev.txLanes ↑p ∧
      s.dev.shedMin ↑p ≤ s.dev.txLanes ↑p / 2 ∧ s.dev.portUp ↑p = true ∧ s.dev.txLanes ↑p < s.dev.width ↑p ∧ s.dev.shedHi ↑p * (fun k =>
      k * rateGb (cfgRate (s.dev.portCfg ↑p)) * s.dev.shedWindow ↑p * 1000000) (s.dev.txLanes ↑p) < (s.dev.port ↑p).windowBits * 100) ∧
    (∃ (s : State) (p : Fin 512), s.dev.trunkOfMember ↑p = none ∧ s.dev.get (Reg.TILE_SHED_CFG_WAKE_KST (tileOf ↑p) (laneIn ↑p)) ≠ 0 ∧
      s.dev.txLanes ↑p < s.dev.width ↑p ∧ s.dev.get (Reg.TILE_SHED_CFG_WAKE_KST (tileOf ↑p) (laneIn ↑p)) * 1024 < s.dev.portOccupancy ↑p
      ∧ s.dev.portUp ↑p = true ∧ (s.dev.port ↑p).pending = none) ∧
    (∃ (s : State) (p : Fin 512) (k : Nat), s.dev.trunkOfMember ↑p = none ∧ (s.dev.port ↑p).pending = some k ∧ k < 16 ∧ (s.dev.port
      ↑p).restoreQueued = false) ∧
    (∃ (s : State) (p : Fin 512) (k : BitVec 4), s.dev.trunkOfMember ↑p = none ∧ s.dev.portUp ↑p = true ∧ s.dev.isJarlis ↑p = true ∧ k.toNat
      ∈ [1, 2, 4, 8] ∧ k.toNat ≤ s.dev.width ↑p) ∧
    (∃ (s : State) (p : Fin 512), s.dev.trunkOfMember ↑p = none ∧ s.dev.portUp ↑p = true ∧ s.dev.isJarlis ↑p = true ∧ s.dev.get
      (Reg.TILE_SHED_STATUS_RX_LANES (tileOf ↑p) (laneIn ↑p)) < s.dev.width ↑p) ∧
    (∃ (s : State) (p : Fin 512) (k : BitVec 4), s.dev.trunkOfMember ↑p = none ∧ (s.dev.port ↑p).restoring = true ∧ k.toNat = s.dev.width
      ↑p) ∧
    (∃ (s : State) (p : Fin 512), s.dev.trunkOfMember ↑p = none ∧ (s.dev.port ↑p).restoring = true ∧ (fun d => d.flag
      (Reg.TILE_PORT_STATUS_ASLEEP (tileOf ↑p) (laneIn ↑p))) s.dev = false ∧ (s.dev.port ↑p).wakeFails = 2) ∧
    (∃ (s : State) (p : Fin 512), s.dev.trunkOfMember ↑p = none ∧ s.dev.portEn ↑p = true ∧ s.dev.isJarlis ↑p = false ∧ bit (s.dev.portCfg
      ↑p) 10 = true ∧ s.dev.portUp ↑p = false ∧ (fun d => d.flag (Reg.TILE_PORT_STATUS_ASLEEP (tileOf ↑p) (laneIn ↑p))) s.dev = false) ∧
    (∃ (s : State) (p : Fin 512), s.dev.trunkOfMember ↑p = none ∧ (fun d => d.flag (Reg.TILE_PORT_STATUS_ASLEEP (tileOf ↑p) (laneIn ↑p)))
      s.dev = true) ∧
    (∃ (s : State) (p : Fin 512), s.dev.trunkOfMember ↑p = none ∧ (fun d => d.flag (Reg.TILE_PORT_STATUS_ASLEEP (tileOf ↑p) (laneIn ↑p)))
      s.dev = true ∧ bits (s.dev.portCfg ↑p) 7 0 ≠ 0) ∧
    (∃ (s : State) (p : Fin 512) (energy : Bool), s.dev.trunkOfMember ↑p = none ∧ (s.dev.port ↑p).probing = true ∧ energy = true) ∧
    (∃ (s : State) (p : Fin 512), s.dev.trunkOfMember ↑p = none ∧ (s.dev.port ↑p).probing = true) :=
  ⟨⟨jarP 8 fun x => { x with firstWindow := false }, 504, by decide +kernel⟩,
   ⟨wit fun d => (jarP 8 fun x => { x with firstWindow := false, windowBits := 10^12 }).dev.set (Reg.TILE_SHED_STATUS_TX_LANES 63 0) 4,
     504, by decide +kernel⟩,
   ⟨wit fun d => ((jarP 8 id).dev.set (Reg.TILE_SHED_STATUS_TX_LANES 63 0) 4).set (Reg.TILE_SHED_CFG_WAKE_KST 63 0) 1 |>.onQc (qIdx 504 0) fun c => { c with su := 1025 },
     504, by decide +kernel⟩,
   ⟨jarP 8 fun x => { x with pending := some 4 }, 504, 4, by decide +kernel⟩,
   ⟨jarP 8 id, 504, 8, by decide +kernel⟩,
   ⟨wit fun d => (jarP 8 id).dev.set (Reg.TILE_SHED_STATUS_RX_LANES 63 0) 4, 504, by decide +kernel⟩,
   ⟨jarP 8 fun x => { x with restoring := true }, 504, 8, by decide +kernel⟩,
   ⟨jarP 8 fun x => { x with restoring := true, wakeFails := 2 }, 504, by decide +kernel⟩,
   ⟨wit (portAt 0x81330401 1 false), 511, by decide +kernel⟩,
   ⟨wit fun d => (portAt 0x81330401 6 false d).put (Reg.TILE_PORT_STATUS_ASLEEP 63 7) true, 511, by decide +kernel⟩,
   ⟨wit fun d => (portAt 0x81330401 6 false d).put (Reg.TILE_PORT_STATUS_ASLEEP 63 7) true, 511, by decide +kernel⟩,
   ⟨wit fun d => ((portAt 0x81330401 6 false d).put (Reg.TILE_PORT_STATUS_ASLEEP 63 7) true).updPort 511 fun x => { x with probing := true },
     511, true, by decide +kernel⟩,
   ⟨wit fun d => ((portAt 0x81330401 6 false d).put (Reg.TILE_PORT_STATUS_ASLEEP 63 7) true).updPort 511 fun x => { x with probing := true },
     511, by decide +kernel⟩⟩

/-- Hypotheses of JarlisFabric. -/
theorem wit_JarlisFabric :
    (∃ (s : State) (p : Fin 512), s.dev.isJarlis ↑p = true ∧ s.dev.portUp ↑p = true ∧ s.dev.txOf ↑p = none) ∧
    (∃ (s : State) (p : Fin 512), s.dev.portEn ↑p = true ∧ s.dev.isJarlis ↑p = true ∧ s.dev.portUp ↑p = false ∧ (s.dev.port ↑p).trained =
      false) ∧
    (∃ (s : State) (p : Fin 512) (v : BitVec 20) (jver : Nat) (dom : Nat) (dev : Nat), s.dev.portEn ↑p = true ∧ s.dev.isJarlis ↑p = true ∧
      s.dev.portUp ↑p = true ∧ (s.dev.port ↑p).came = some (jver, dom, dev) ∧ v.toNat % 4096 ≠ dom) ∧
    (∃ (s : State) (p : Fin 512), s.dev.portEn ↑p = true ∧ s.dev.isJarlis ↑p = true) ∧
    (∃ (s : State) (p : Fin 512), s.dev.portEn ↑p = true ∧ s.dev.isJarlis ↑p = true ∧ s.dev.portUp ↑p = false ∧ s.dev.txOf ↑p = none) ∧
    (∃ (s : State) (p : Fin 512), s.dev.isJarlis ↑p = true ∧ s.dev.portUp ↑p = true) ∧
    (∃ (s : State) (sl : Fin 16) (c : Nat) (x : Slot), s.dev.contextsOf ↑sl = [c] ∧ (s.dev.ctx c).slots = [((s.dev.ctx c).next, some x)] ∧
      x.state = 3 ∧ (s.dev.ctx c).skip = [] ∧ (s.dev.ctx c).ending = false) ∧
    (∃ (s : State) (k : Fin 16) (n : Fin 256) (m : Nat), (s.dev.ctx (16 * ↑n + ↑k)).lowest = some m ∧ 0 < m ∧ (s.dev.ctx (16 * ↑n +
      ↑k)).skipped (s.dev.ctx (16 * ↑n + ↑k)).next = false) ∧
    (∃ (s : State) (n : Fin 256), (s.dev.trunk ↑n).phase = 1) ∧
    (∃ (s : State) (n : Fin 256), (s.dev.trunk ↑n).phase = 2 ∧ s.dev.trunkSending ↑n = false) ∧
    (∃ (s : State) (n : Fin 256), (s.dev.trunk ↑n).phase = 3 ∧ (s.dev.trunk ↑n).again = false) ∧
    (∃ (s : State) (p : Fin 512) (n : Fin 256) (f : Frame) (rest : List Frame), s.dev.jarlis.awaiting = f :: rest ∧ f.src = ↑p ∧ (readJHdr
      f.bytes).type = 2 ∧ mget (fun _ => ((0 : Nat), false)) s.dev.jarlis.attach ↑p = (n.val + 1, false)) ∧
    (∃ (s : State) (p : Fin 512) (n : Fin 256), mget (fun _ => ((0 : Nat), false)) s.dev.jarlis.attach ↑p = (n.val + 1, true)) ∧
    (∃ (s : State) (f : Frame), s.dev.mgmtWaiting false = some f ∧ byteAt f.pdu 0 = 1 ∧ pduOk f.pdu = true ∧ s.dev.flag Reg.JFL_MGMT_CFG_EN
      = true ∧ s.dev.flag Reg.JFL_MGMT_CFG_ANY_SRC = true ∧ s.dev.jarlis.mgmt.length < 16) :=
  ⟨⟨wit (portAt 0x81332000 4 true), 511, by decide +kernel⟩,
   ⟨wit (portAt 0x81332000 3 false), 511, by decide +kernel⟩,
   ⟨wit fun d => (portAt 0x81332000 4 true d).updPort 511 fun x => { x with came := some (1, 5, 6) }, 511, 4095, 1, 5, 6,
     by decide +kernel⟩,
   ⟨wit (portAt 0x81332000 4 true), 511, by decide +kernel⟩,
   ⟨wit (portAt 0x81332000 3 false), 511, by decide +kernel⟩,
   ⟨wit fun d => { portAt 0x81332000 4 true d with jarlis := { freed := [(16*511+15, 7)], lastf := [(16*511+15, 65535)] } }, 511,
     by decide +kernel⟩,
   ⟨cx { based := true, next := 16777215, slots := [(16777215, some { state := 3, time := 0 })] }, 15, 4095, { state := 3, time := 0 },
     by decide +kernel⟩,
   ⟨cx { based := true, next := 16777215, slots := [(0, some { state := 3, time := 0 })] }, 15, 255, 1, by decide +kernel⟩,
   ⟨cx {}, 255, by decide +kernel⟩,
   ⟨wit fun d => { (cx {}).dev with jarlis := { trunk := [(255, { phase := 2 })] } }, 255, by decide +kernel⟩,
   ⟨wit fun d => { (cx {}).dev with jarlis := { trunk := [(255, { phase := 3 })] } }, 255, by decide +kernel⟩,
   ⟨cx {}, 511, 255, { bytes := [0x18] ++ zeros 63, src := 511 }, [], by decide +kernel⟩,
   ⟨wit fun d => { (cx {}).dev with jarlis := { attach := [(511, (256, true))] } }, 511, 255, by decide +kernel⟩,
   ⟨wit fun d => { ((ready d).put Reg.JFL_MGMT_CFG_EN true).put Reg.JFL_MGMT_CFG_ANY_SRC true with jarlis := { awaiting := [mgf] } }, mgf,
     by decide +kernel⟩⟩

/-- Hypotheses of DeepStoreMoves. -/
theorem wit_DeepStoreMoves :
    (∃ (s : State) (sl : Fin 16) (q : Fin 8256) (f : DeepFrame) (rest : List DeepFrame), s.dev.inService ≠ [] ∧ (s.dev.voq (voqKey ↑sl
      ↑q)).deep = f :: rest ∧ f.state = 0 ∧ f.slots ≠ []) ∧
    (∃ (s : State) (sl : Fin 16) (q : Fin 8256) (f : DeepFrame) (rest : List DeepFrame), (s.dev.voq (voqKey ↑sl ↑q)).deep = f :: rest ∧
      f.state = 1 ∧ (List.map (fun x => x.n) (s.dev.voq (voqKey ↑sl ↑q)).on).sum < s.dev.get Reg.BUF_SPILL_CFG_RB_LO ∧ s.dev.path.rstage
      + f.frame.n ≤ 16384 ∧ f.frame.n ≤ s.dev.physFree) ∧
    (∃ (s : State) (sl : Fin 16) (q : Fin 8256) (f : DeepFrame) (rest : List DeepFrame), (s.dev.voq (voqKey ↑sl ↑q)).deep = f :: rest ∧
      f.state = 2 ∧ f.drop = none) ∧
    (∃ (s : State) (sl : Fin 16) (q : Fin 8256) (f : DeepFrame) (rest : List DeepFrame) (r : Nat), (s.dev.voq (voqKey ↑sl ↑q)).deep = f ::
      rest ∧ f.state = 2 ∧ f.drop = some r ∧ (r = 24 ∨ r = 23) ∧ ↑q ≠ qIdx 515 0) ∧
    (∃ (s : State) (q : Fin 8256), s.dev.deepWaiting ↑q = false ∧ (∀ (l : Fin 16), (s.dev.voq (voqKey ↑l ↑q)).deep = [])) ∧
    (∃ (s : State) (k : Fin 4), s.dev.stackState ↑k = 1 ∧ s.dev.pwrOn (84 + ↑k) = true) ∧
    (∃ (s : State) (k : Fin 4) (pass : Bool), s.dev.stackState ↑k = 1 ∧ s.dev.pwrOn (84 + ↑k) = true ∧ pass = false) ∧
    (∃ (s : State) (k : Fin 4) (pc : Fin 32) (r : DramReq), s.dev.stackState ↑k = 2 ∧ lget s.dev.spillFeed.deep.req (32 * ↑k + ↑pc) = [r]) ∧
    (∃ (s : State) (k : Fin 4) (cause : Fin 7), s.dev.stackState ↑k = 2 ∧ ↑cause ≠ 0) ∧
    (∃ (s : State) (k : Fin 4), s.dev.stackState ↑k = 3) :=
  ⟨⟨dp 0 id, 15, 8191, dfr 0, [], by decide +kernel⟩,
   ⟨dp 1 id, 15, 8191, dfr 1, [], by decide +kernel⟩,
   ⟨dp 2 id, 15, 8191, dfr 2, [], by decide +kernel⟩,
   ⟨dpd, 15, 8191, { dfr 2 with drop := some 24 }, [], 24, by decide +kernel⟩,
   ⟨dp 2 fun p => { p with voq := [] }, 8191, by decide +kernel⟩,
   ⟨wit fun d => (ready d).set (Reg.DST_STACK_STATE 3) 1, 3, by decide +kernel⟩,
   ⟨wit fun d => (ready d).set (Reg.DST_STACK_STATE 3) 1, 3, false, by decide +kernel⟩,
   ⟨wit fun d => ((ready d).set (Reg.DST_STACK_STATE 3) 2).onDst fun x => { x with req := [(127, [⟨true, 0xFFFFFFF, 0, 0⟩])] }, 3, 31,
     ⟨true, 0xFFFFFFF, 0, 0⟩, by decide +kernel⟩,
   ⟨op, 3, 6, by decide +kernel⟩,
   ⟨wit fun d => op.dev.set (Reg.DST_STACK_STATE 3) 3, 3, by decide +kernel⟩⟩

/-- Hypotheses of TimeUnitActs. -/
theorem wit_TimeUnitActs :
    (∃ (s : State), s.dev.get Reg.TIM_CFG_HOLD_MS ≠ 0 ∧ (s.dev.servoState = 1 ∨ s.dev.servoState = 2)) ∧
    (∃ (s : State), s.dev.flag Reg.TIM_PPS_OUT_EN = true) ∧
    (∃ (s : State), s.dev.flag Reg.TIM_PPS_IN_EN = true ∧ s.dev.get Reg.TIM_CFG_OFFSET_SRC ≠ 1 ∧ (s.dev.flag Reg.TIM_TOD_CFG_RX_APPLY &&
      s.dev.time.rxWait) = false) ∧
    (∃ (s : State) (sec : Nat), s.dev.time.edge = some sec ∧ s.dev.flag Reg.TIM_TOD_CFG_TX_EN = true) ∧
    (∃ (s : State) (bs : List Byte), s.dev.flag Reg.TIM_TOD_CFG_RX_EN = true ∧ bs.length = 16 ∧ crc16 (List.take 14 bs) = be16 bs 14) ∧
    (∃ (s : State) (bs : List Byte), s.dev.flag Reg.TIM_TOD_CFG_RX_EN = true ∧ bs.length = 16 ∧ ¬(bs.length = 16 ∧ crc16 (List.take 14 bs) =
      be16 bs 14)) ∧
    (∃ (s : State) (k : Fin 2), s.dev.get (Reg.TIM_SYNCE_FREQ ↑k) ≠ 0 ∧ s.dev.get (Reg.TIM_SYNCE_FREQ ↑k) ≠ 3 ∧ s.dev.synceLane (s.dev.get
      (Reg.TIM_SYNCE_PRIMARY ↑k)) = false) ∧
    (∃ (s : State) (k : Fin 2), s.dev.get (Reg.TIM_SYNCE_FREQ ↑k) ≠ 0 ∧ s.dev.get (Reg.TIM_SYNCE_FREQ ↑k) ≠ 3 ∧ s.dev.synceLane (s.dev.get
      (Reg.TIM_SYNCE_PRIMARY ↑k)) = true) :=
  ⟨⟨tm id, by decide +kernel⟩,
   ⟨tm fun d => d.put Reg.TIM_PPS_OUT_EN true, by decide +kernel⟩,
   ⟨tm fun d => d.put Reg.TIM_PPS_IN_EN true, by decide +kernel⟩,
   ⟨tm fun d => d.put Reg.TIM_TOD_CFG_TX_EN true, 7, by decide +kernel⟩,
   ⟨tm fun d => d.put Reg.TIM_TOD_CFG_RX_EN true, zeros 14 ++ beBytes 2 (crc16 (zeros 14)), by decide +kernel⟩,
   ⟨tm fun d => d.put Reg.TIM_TOD_CFG_RX_EN true, zeros 16, by decide +kernel⟩,
   ⟨tm fun d => d.set (Reg.TIM_SYNCE_FREQ 1) 1, 1, by decide +kernel⟩,
   ⟨wit fun d => (portOn 0 ((ready d).set (Reg.TIM_SYNCE_FREQ 1) 1)).put (Reg.TIM_SYNCE_SQUELCH 1) true |>.put (Reg.LANE_STATUS_CDR_LOCK 0 0) true,
     1, by decide +kernel⟩⟩

/-- Hypotheses of MembersAndRolesMove. -/
theorem wit_MembersAndRolesMove :
    (∃ (s : State) (g : Fin 4096) (prot : Bool), s.dev.flag (Reg.PRT_GRP_CFG_EN ↑g) = true ∧ s.dev.portUp (s.dev.grpMember (↑g) prot) =
      false) ∧
    (∃ (s : State) (g : Fin 4096), s.dev.flag (Reg.PRT_GRP_CFG_EN ↑g) = true ∧ s.dev.portEn (s.dev.grpMember (↑g) false) = true ∧
      (s.dev.grpFlag ↑g).linkW = false ∧ (s.dev.grpFlag ↑g).cmdW = false ∧ s.dev.flag (Reg.PRT_GRP_STATE_W_OK ↑g) = true ∧ s.dev.flag
      (Reg.PRT_GRP_STATE_WTR_RUN ↑g) = true ∧ s.dev.get (Reg.PRT_GRP_STATE_REQ ↑g) = 0 ∧ s.dev.flag (Reg.PRT_GRP_CFG_REVERT ↑g) = true) ∧
    (∃ (s : State) (p : Fin 512), s.dev.physOf ↑p = []) ∧
    (∃ (s : State), s.dev.unit.roleWait = true ∧ s.dev.role = roleStandby) ∧
    (∃ (s : State) (together : Bool), s.dev.role = roleActive ∧ s.dev.paired = true ∧ ¬(s.dev.unit.bind.side = 1 ∧
      s.dev.unit.bind.donePending = true) ∧ (together = true → s.dev.flag Reg.UNT_STATUS_SLOT = true)) ∧
    (∃ (s : State), s.dev.role = roleStandby ∧ s.dev.paired = true ∧ s.dev.fit = true) ∧
    (∃ (s : State), s.dev.role = roleStandby ∧ s.dev.paired = true ∧ s.dev.fit = false) ∧
    (∃ (s : State), s.dev.unit.guard = true ∧ s.dev.role = roleActive) ∧
    (∃ (s : State), s.dev.role = roleFailed ∧ s.dev.unit.wasActive = true) ∧
    (∃ (s : State) (sl : Fin 16) (cause : BitVec 4) (detail : BitVec 12) (c : Instr), (c = Instr.criticalFault cause detail ∧ 1 ≤
      cause.toNat ∧ cause.toNat ≤ 5 ∨ c = Instr.sliceWatchdog sl) ∧ s.dev.get Reg.UNT_STATUS_CRIT_CAUSE = 0 ∧ s.dev.role = roleActive ∧
      (s.dev.paired = true ∧ s.dev.unit.peerRole = some roleStandby ∧ s.dev.flag Reg.UNT_STATUS_PEER_RELQ = false)) ∧
    (∃ (s : State) (sl : Fin 16) (cause : BitVec 4) (detail : BitVec 12) (c : Instr), (c = Instr.criticalFault cause detail ∧ 1 ≤
      cause.toNat ∧ cause.toNat ≤ 5 ∨ c = Instr.sliceWatchdog sl) ∧ s.dev.get Reg.UNT_STATUS_CRIT_CAUSE = 0 ∧ s.dev.role = roleActive ∧
      ¬(s.dev.paired = true ∧ s.dev.unit.peerRole = some roleStandby ∧ s.dev.flag Reg.UNT_STATUS_PEER_RELQ = false)) ∧
    (∃ (s : State) (sl : Fin 16) (cause : BitVec 4) (detail : BitVec 12) (c : Instr), (c = Instr.criticalFault cause detail ∧ 1 ≤
      cause.toNat ∧ cause.toNat ≤ 5 ∨ c = Instr.sliceWatchdog sl) ∧ s.dev.role = roleStandby) ∧
    (∃ (s : State), s.dev.paired = true ∧ s.dev.unit.released = true ∧ s.dev.unit.roleWait = false ∧ s.dev.unit.hbSeen = true) ∧
    (∃ (s : State), s.dev.paired = true ∧ s.dev.unit.released = true ∧ s.dev.unit.roleWait = false ∧ s.dev.unit.hbSeen = false ∧
      s.dev.unit.missed = 19 ∧ s.dev.role = roleActive) ∧
    (∃ (s : State), s.dev.paired = true ∧ s.dev.unit.released = true ∧ s.dev.unit.roleWait = false ∧ s.dev.unit.hbSeen = false ∧
      s.dev.unit.missed = 19 ∧ s.dev.role = roleStandby ∧ s.dev.fit = true) ∧
    (∃ (s : State), s.dev.paired = true ∧ s.dev.unit.released = true ∧ s.dev.unit.roleWait = false ∧ s.dev.unit.hbSeen = false ∧
      s.dev.unit.missed < 19) :=
  ⟨⟨wit fun d => gr (ready d), 4095, true, by decide +kernel⟩,
   ⟨wit fun d => ((gr (ready d)).put (Reg.PRT_GRP_STATE_WTR_RUN 4095) true).put (Reg.PRT_GRP_STATE_ACT 4095) true, 4095, by decide +kernel⟩,
   ⟨wit fun d => (ready d).wr (Reg.PRT_BIND 511) 0x40000FFF, 511, by decide +kernel⟩,
   ⟨un 2 fun u => { u with roleWait := true, muted := true }, by decide +kernel⟩,
   ⟨un 1 id, false, by decide +kernel⟩,
   ⟨un 2 id, by decide +kernel⟩,
   ⟨un 2 id fun d => d.set Reg.UNT_STATUS_CRIT_CAUSE 1, by decide +kernel⟩,
   ⟨un 1 (fun u => { u with guard := true, muted := true }) fun d => d.wr Reg.UNT_PSEQ_APPLIED 77, by decide +kernel⟩,
   ⟨un 3 (fun u => { u with wasActive := true, muted := true }) fun d => d.set Reg.UNT_STATUS_CRIT_CAUSE 4, by decide +kernel⟩,
   ⟨un 1 (fun u => { u with peerRole := some 2 }), 15, 1, 0xFFF, .sliceWatchdog 15, by decide +kernel⟩,
   ⟨un 1 id, 15, 5, 0xFFF, .criticalFault 5 0xFFF, by decide +kernel⟩,
   ⟨un 2 id fun d => d.set Reg.UNT_STATUS_CRIT_CAUSE 3, 15, 1, 0xFFF, .criticalFault 1 0xFFF, by decide +kernel⟩,
   ⟨un 1 fun u => { u with hbSeen := true, missed := 19 }, by decide +kernel⟩,
   ⟨un 1 fun u => { u with missed := 19 }, by decide +kernel⟩,
   ⟨un 2 fun u => { u with missed := 19 }, by decide +kernel⟩,
   ⟨un 2 fun u => { u with missed := 18 }, by decide +kernel⟩⟩

/-- Hypotheses of PuntyAndReplication. -/
theorem wit_PuntyAndReplication :
    (∃ (s : State), s.dev.flag Reg.UNT_STATUS_PUNTY_UP = true) ∧
    (∃ (s : State) (body : List Byte), s.dev.role = roleActive ∧ s.dev.puntyRoom 16 = true ∧ s.dev.unit.stale = false ∧ byteAt body 0 / 16 =
      roleStandby ∧ bit (byteAt body 0) 3 = true) ∧
    (∃ (s : State) (body : List Byte), s.dev.role = roleActive ∧ s.dev.puntyRoom 16 = true ∧ s.dev.unit.stale = true ∧ byteAt body 0 / 16 =
      roleStandby ∧ bit (byteAt body 0) 3 = true) ∧
    (∃ (s : State), s.dev.paired = true ∧ s.dev.role = roleStandby) ∧
    (∃ (s : State), s.dev.flag Reg.UNT_STATUS_PUNTY_UP = true ∧ s.dev.unit.bind.side ≠ 0) ∧
    (∃ (s : State) (rq : Requester) (data : BitVec 32), performs s.dev rq Reg.UNT_PUNTY_CFG 4 data.toNat) ∧
    (∃ (s : State), s.dev.role = roleActive ∧ s.dev.unit.resync = true ∧ s.dev.puntyRoom 0 = true) ∧
    (∃ (s : State), s.dev.role = roleActive ∧ s.dev.unit.repl = true ∧ s.dev.unit.resync = false ∧ s.dev.flag Reg.UNT_STATUS_PUNTY_UP = true
      ∧ s.dev.puntyRoom 0 = true) ∧
    (∃ (s : State), s.dev.puntyRoom 0 = true) ∧
    (∃ (s : State) (n : BitVec 32) (body : List Byte) (c : Instr) (n' : Nat), (c, n') ∈ [(Instr.heartbeatReceived n body, 16),
      (Instr.nakReceived n, 0), (Instr.takeoverReceived, 0), (Instr.bindReqReceived n, 8), (Instr.bindReadyReceived, 4),
      (Instr.bindReleaseReceived body, body.length + 4), (Instr.bindDoneReceived, 4), (Instr.bindAbortReceived, 4),
      (Instr.digestReceived body, body.length), (Instr.healthReceived body, 32), (Instr.replicateReceived n (PuntyBody.records body),
      body.length), (Instr.syncReceived n body none, body.length)] ∧ s.dev.puntyRoom n' = false) ∧
    (∃ (s : State) (rq : Requester), performsPair s.dev rq Reg.UNT_ROLE_CMD 3 ∧ s.dev.role = roleStandby) ∧
    (∃ (s : State), s.dev.role = roleStandby ∧ s.dev.unit.resync = true ∧ s.dev.unit.syncEnded = true ∧ s.dev.unit.live = [] ∧ s.dev.flag
      Reg.UNT_STATUS_PUNTY_UP = true) ∧
    (∃ (s : State) (n : BitVec 32) (body : List Byte), s.dev.role = roleStandby ∧ s.dev.flag Reg.UNT_STATUS_PUNTY_UP = true ∧
      s.dev.unit.live = [] ∧ s.dev.unit.resync = false ∧ s.dev.puntyRoom body.length = true ∧ n.toNat ≠ (s.dev.rd Reg.UNT_PSEQ_APPLIED +
      1) % 2 ^ 32 ∧ pseqLe ((s.dev.rd Reg.UNT_PSEQ_APPLIED + 1) % 2 ^ 32) n.toNat = true ∧ replRecords body = []) ∧
    (∃ (s : State) (body : List Byte), s.dev.role = roleStandby ∧ s.dev.flag Reg.UNT_STATUS_PUNTY_UP = true ∧ s.dev.unit.live = [] ∧
      s.dev.unit.resync = false ∧ s.dev.puntyRoom body.length = true) ∧
    (∃ (s : State) (n : BitVec 32) (body : List Byte), s.dev.role = roleStandby ∧ s.dev.flag Reg.UNT_STATUS_PUNTY_UP = true ∧
      s.dev.unit.resync = true ∧ s.dev.unit.syncEnded = false ∧ s.dev.unit.live = [] ∧ s.dev.unit.syncQ = [] ∧ s.dev.puntyRoom
      body.length = true ∧ n.toNat = s.dev.unit.syncNext ∧ replRecords body = [] ∧ s.dev.unit.syncStarted = false) ∧
    (∃ (s : State) (rq : Requester), performsPair s.dev rq Reg.UNT_ROLE_CMD 2 ∧ s.dev.role = roleActive) ∧
    (∃ (s : State) (dev : Nat) (pdu : List Byte) (rest : List (Nat × List Byte)) (o : List Byte), s.dev.jarlis.mgmt = (dev, pdu) :: rest ∧
      pduOps pdu = [o] ∧ (s.dev.mgmtOp dev o).snd.jarlis.mgmt = s.dev.jarlis.mgmt) ∧
    (∃ (s : State) (f : Frame), s.dev.mgmtWaiting true = some f ∧ (∀ (x : Nat × Nat), x ∈ s.dev.gaffer.jm → x.snd ≠ be32 f.pdu 4)) ∧
    (∃ (type : BitVec 8), (type = 0 ∨ 8 < type)) :=
  ⟨⟨un 1 (fun u => { u with hbSeq := 65535 }), by decide +kernel⟩,
   ⟨un 1 (fun u => { u with store := [(9, [1]), (10, [2])] }), hb, by decide +kernel⟩,
   ⟨un 1 (fun u => { u with stale := true, store := [(9, [1])] }), hb, by decide +kernel⟩,
   ⟨un 2 id, by decide +kernel⟩,
   ⟨un 1 fun u => { u with bind := { side := 1 }, store := [(9, [1])] }, by decide +kernel⟩,
   ⟨un 1 id, .gaffer 0, 0xA5, by decide +kernel⟩,
   ⟨un 1 fun u => { u with resync := true }, by decide +kernel⟩,
   ⟨un 1 (fun u => { u with repl := true, store := [(9, [1]), (10, [2])] }), by decide +kernel⟩,
   ⟨un 2 id, by decide +kernel⟩,
   ⟨un 2 id fun d => d.set Reg.BUF_CTRL_USED_STITCHES 8192, 5, hb, .takeoverReceived, 0, by decide +kernel⟩,
   ⟨un 2 id, .gaffer 0, by decide +kernel⟩,
   ⟨un 2 fun u => { u with resync := true, syncEnded := true }, by decide +kernel⟩,
   ⟨un 2 id fun d => d.wr Reg.UNT_PSEQ_APPLIED 0xFFFFFFFF, 5, [], by decide +kernel⟩,
   ⟨un 2 id fun d => d.wr Reg.UNT_PSEQ_APPLIED 0xFFFFFFFF, rec1, by decide +kernel⟩,
   ⟨un 2 fun u => { u with resync := true, syncNext := 3}, 3, [], by decide +kernel⟩,
   ⟨un 1 id, .gaffer 0, by decide +kernel⟩,
   ⟨mgs, 5, mreq, [], (pduOps mreq).headD [], by decide +kernel⟩,
   ⟨un 1 id fun d => { d with jarlis := { awaiting := [mgr] } }, mgr, by decide +kernel⟩,
   ⟨9, by decide +kernel⟩⟩

/-- Hypotheses of BindOffHandsOver. -/
theorem wit_BindOffHandsOver :
    (∃ (s : State) (rq : Requester), performsPair s.dev rq Reg.UNT_ROLE_CMD 1 ∧ s.dev.bindResult = 0) ∧
    (∃ (s : State) (rq : Requester), performsPair s.dev rq Reg.UNT_ROLE_CMD 1 ∧ s.dev.bindResult ≠ 0) ∧
    (∃ (s : State), s.dev.role = roleStandby ∧ s.dev.flag Reg.UNT_STATUS_PUNTY_UP = true ∧ s.dev.puntyRoom 8 = true) ∧
    (∃ (s : State), s.dev.unit.bind.side = 1 ∧ s.dev.unit.bind.ready = false ∧ s.dev.puntyRoom 4 = true) ∧
    (∃ (s : State), s.dev.unit.bind.side = 1 ∧ s.dev.unit.bind.ready = true) ∧
    (∃ (s : State) (q : Fin 8192), s.dev.unit.bind.side = 1 ∧ s.dev.get Reg.UNT_BIND_STATE = 3 ∧ s.dev.queueReleased ↑q = false ∧
      s.dev.queueHead ↑q = none) ∧
    (∃ (s : State) (q : Fin 8192), s.dev.unit.bind.side = 1 ∧ s.dev.get Reg.UNT_BIND_STATE = 3 ∧ s.dev.queueReleased ↑q = false) ∧
    (∃ (s : State) (q : Fin 8192) (body : List Byte), s.dev.unit.bind.side = 2 ∧ 16 * be16 body 0 + byteAt body 2 = ↑q ∧ s.dev.bindRel ↑q =
      none ∧ s.dev.puntyRoom (body.length + 4) = true) ∧
    (∃ (s : State), s.dev.unit.bind.side = 1 ∧ s.dev.get Reg.UNT_BIND_STATE = 3 ∧ s.dev.unit.store = [] ∧ s.dev.unit.bind.donePending =
      false) ∧
    (∃ (s : State), s.dev.unit.bind.side = 2 ∧ s.dev.puntyRoom 4 = true) ∧
    (∃ (s : State), s.dev.unit.bind.side ≠ 0 ∧ s.dev.puntyRoom 4 = true) ∧
    (∃ (s : State), s.dev.role = roleActive ∧ s.dev.paired = true ∧ s.dev.unit.bind.side = 1 ∧ s.dev.unit.bind.donePending = true) :=
  ⟨⟨un 1 (fun u => { u with peerRole := some 2, peerSynced := true }), .gaffer 0, by decide +kernel⟩,
   ⟨un 2 id, .gaffer 0, by decide +kernel⟩,
   ⟨un 2 id, by decide +kernel⟩,
   ⟨un 1 fun u => { u with bind := { side := 1 } }, by decide +kernel⟩,
   ⟨un 1 fun u => { u with bind := { side := 1, ready := true } }, by decide +kernel⟩,
   ⟨un 1 (fun u => { u with bind := { side := 1, ready := true } }) fun d => (d.set Reg.UNT_BIND_STATE 3).set Reg.UNT_BIND_QUEUES_LEFT 8192,
     8191, by decide +kernel⟩,
   ⟨un 1 (fun u => { u with bind := { side := 1, ready := true, cut := 10 } }) fun d => ((d.set Reg.UNT_BIND_STATE 3).set Reg.UNT_BIND_QUEUES_LEFT 8192).onPath fun p => { p with egr := [(8191, [entry])] },
     8191, by decide +kernel⟩,
   ⟨un 2 (fun u => { u with bind := { side := 2 } }), 8191, [1, 0xFF, 15, 2, 0, 0, 0, 9] ++ zeros 8, by decide +kernel⟩,
   ⟨un 1 (fun u => { u with bind := { side := 1, ready := true, muted := [(5, true)] } }) fun d => (d.set Reg.UNT_BIND_STATE 3).set Reg.UNT_BIND_QUEUES_LEFT 8192,
     by decide +kernel⟩,
   ⟨un 2 (fun u => { u with muted := true, bind := { side := 2 } }), by decide +kernel⟩,
   ⟨un 2 (fun u => { u with bind := { side := 2 } }), by decide +kernel⟩,
   ⟨un 1 (fun u => { u with bind := { side := 1, donePending := true } }), by decide +kernel⟩⟩

/-- Hypotheses of TensionAndHealth. -/
theorem wit_TensionAndHealth :
    (∃ (s : State) (p : Fin 512), s.dev.role = roleActive ∧ s.dev.tensionOn = true ∧ s.dev.portEn ↑p = true) ∧
    (∃ (s : State) (n : Fin 4000) (p : Fin 512) (body : List Byte), s.dev.role = roleStandby ∧ s.dev.tensionOn = true ∧ body.length = 24 ∧
      s.dev.puntyRoom 24 = true ∧ be16 body 0 = ↑p ∧ be16 body 2 = ↑n ∧ (s.dev.tensRec ↑p ↑n).count = be32 body 4 ∧ (s.dev.tensRec ↑p
      ↑n).bytes % 2 ^ 32 = be32 body 8 ∧ (s.dev.tensRec ↑p ↑n).sum = be32 body 12) ∧
    (∃ (s : State) (n : Fin 4000) (p : Fin 512) (body : List Byte), s.dev.role = roleStandby ∧ s.dev.tensionOn = true ∧ body.length = 24 ∧
      s.dev.puntyRoom 24 = true ∧ be16 body 0 = ↑p ∧ be16 body 2 = ↑n ∧ (s.dev.tensRec ↑p ↑n).count ≠ be32 body 4 ∧ ((s.dev.tensRec ↑p
      ↑n).drift = true ∨ bit (byteAt body 20) 7 = true ∨ bit (byteAt body 20) 6 = true ∨ s.dev.replFlag ↑n = true ∨ (s.dev.tensRec ↑p
      ↑n).guard ≠ be16 body 16 ∨ (s.dev.tensRec ↑p ↑n).late ≠ be16 body 18) ∧ (s.dev.tensRec ↑p ↑n).drift = false ∧ bit (byteAt body 20)
      7 = false ∧ bit (byteAt body 20) 6 = false ∧ s.dev.replFlag ↑n = false) ∧
    (∃ (s : State) (n : Fin 4000) (p : Fin 512) (body : List Byte), s.dev.role = roleStandby ∧ s.dev.tensionOn = true ∧ body.length = 24 ∧
      s.dev.puntyRoom 24 = true ∧ be16 body 0 = ↑p ∧ be16 body 2 = ↑n ∧ (s.dev.tensRec ↑p ↑n).count ≠ be32 body 4 ∧ (s.dev.tensRec ↑p
      ↑n).drift = false ∧ bit (byteAt body 20) 7 = false ∧ bit (byteAt body 20) 6 = false ∧ s.dev.replFlag ↑n = false ∧ (s.dev.tensRec
      ↑p ↑n).guard = be16 body 16 ∧ (s.dev.tensRec ↑p ↑n).late = be16 body 18 ∧ s.dev.flagN ↑n = 1) ∧
    (∃ (s : State), s.dev.flag Reg.UNT_STATUS_PUNTY_UP = true) ∧
    (∃ (s : State), s.dev.puntyRoom 32 = true) ∧
    (∃ (s : State) (kind : Fin 3) (i : Fin 268435456), s.dev.role = roleStandby ∧ s.dev.flag Reg.UNT_CFG_BIST_EN = true ∧ s.dev.bistIdle
      ↑kind ↑i = true ∧ ↑kind = 0) ∧
    (∃ (s : State) (kind : Fin 3) (i : Fin 268435456), s.dev.role = roleStandby ∧ s.dev.flag Reg.UNT_CFG_BIST_EN = true ∧ s.dev.bistIdle
      ↑kind ↑i = true) :=
  ⟨⟨tn 1 id, 511, by decide +kernel⟩,
   ⟨tn 2 id, 3999, 511, dg [0,0,0,1, 0,0,0,64, 0,0,0,7], by decide +kernel⟩,
   ⟨tn 2 id, 3999, 511, dg [0,0,0,2, 0,0,0,64, 0,0,0,7, 0, 1], by decide +kernel⟩,
   ⟨tn 2 fun d => d.set Reg.UNT_TENSION_CFG_FLAG_N 1, 3999, 511, dg [0,0,0,2, 0,0,0,64, 0,0,0,7], by decide +kernel⟩,
   ⟨tn 1 id, by decide +kernel⟩,
   ⟨tn 1 id, by decide +kernel⟩,
   ⟨tn 2 fun d => d.put Reg.UNT_CFG_BIST_EN true, 0, 983039, by decide +kernel⟩,
   ⟨tn 2 fun d => (d.put Reg.UNT_CFG_BIST_EN true).set (Reg.DST_STACK_STATE 0) 2, 2, 0, by decide +kernel⟩⟩

/-- Hypotheses of BusErrorCapture. -/
theorem wit_BusErrorCapture :
    (∃ (d : Device), d.flag Reg.GLB_BUS_ERR_SRC_VALID = false) ∧
    (∃ (d : Device), d.flag Reg.GLB_BUS_ERR_SRC_VALID = true) ∧
    (∃ (s : State) (rq : Requester), performs s.dev rq Reg.GLB_BUS_ERR_SRC 4 (2 ^ 31)) :=
  ⟨⟨ready {}, by decide +kernel⟩,
   ⟨(ready {}).put Reg.GLB_BUS_ERR_SRC_VALID true, by decide +kernel⟩,
   ⟨wit fun d => (ready d).put Reg.GLB_BUS_ERR_SRC_VALID true, .gaffer 15, by decide +kernel⟩⟩

/-- Hypotheses of LockReleasePair. -/
theorem wit_LockReleasePair :
    (∃ (s : State) (rq : Requester), performsPair s.dev rq Reg.GLB_LOCK_REL 1) ∧
    (∃ (s : State) (rq : Requester), s.dev.pend 0 = some { addr := Reg.GLB_LOCK_REL, value := 1, by_ := rq } ∧ performs s.dev rq
      (Reg.GLB_LOCK_REL + 4) 4 4294967294) :=
  ⟨⟨wit fun d => (ready d).put Reg.GLB_LOCK_LOCKED true, .gaffer 15, by decide +kernel⟩,
   ⟨pnd Reg.GLB_LOCK_REL 1 0, .gaffer 15, by decide +kernel⟩⟩

/-- Hypotheses of SeedRegister. -/
theorem wit_SeedRegister :
    ∃ (s : State) (rq : Requester) (v : BitVec 32), performsPair s.dev rq Reg.MRV_SEED v.toNat :=
    ⟨wit ready, .gaffer 15, 0xFFFFFFFF, by decide +kernel⟩

/-- Hypotheses of AccessesAct. -/
theorem wit_AccessesAct :
    (∃ (s : State) (rq : Requester) (off : BitVec 28) (size : BitVec 4) (full : Bool) (o : Nat) (r : BusReason), s.dev.notSeen rq = false ∧
      s.dev.readError rq off.toNat size.toNat full = some (o, r) ∧ s.dev.flag Reg.GLB_BUS_ERR_SRC_VALID = false) ∧
    (∃ (s : State) (rq : Requester) (off : BitVec 28) (w : Win), winAt off.toNat = some w ∧ s.dev.notSeen rq = false ∧ s.dev.readError rq
      off.toNat 4 true = none) ∧
    (∃ (s : State) (rq : Requester) (off : BitVec 28) (v : BitVec 32), performs s.dev rq off.toNat 4 v.toNat ∧ off.toNat % 8 = 0 ∧ (∃ r is
      up, regAt off.toNat = some (r, is, up) ∧ r.cpw ≠ 0)) ∧
    (∃ (s : State) (rq : Requester) (v : BitVec 32), performs s.dev rq (Reg.MRV_SEED + 4) 4 (2 ^ 32 - 1 - v.toNat) ∧ s.dev.pend 20 = some
      { addr := Reg.MRV_SEED, value := v.toNat, by_ := rq }) ∧
    (∃ (s : State) (no : Fin 21) (p : CpwPend), s.dev.pend ↑no = some p) ∧
    (∃ (s : State) (rq : Requester) (v : BitVec 32) (n : Fin 512), performs s.dev rq (Reg.HQ_SQ_TAIL ↑n) 4 v.toNat ∧ s.dev.sqEn ↑n = true ∧
      v.toNat % 65536 < 2 ^ s.dev.get (Reg.HQ_SQ_CFG_LOG2_N ↑n)) ∧
    (∃ (s : State) (rq : Requester) (v : BitVec 32) (n : Fin 512), performs s.dev rq (Reg.HQ_CQ_DB ↑n) 4 v.toNat ∧ s.dev.cqEn ↑n = true ∧
      v.toNat % 65536 < s.dev.cqSize ↑n ∧ s.dev.cqOverclaims (↑n) v.toNat = false) ∧
    (∃ (s : State) (rq : Requester), performs s.dev rq Reg.LDG_CTRL 4 (2 ^ 31) ∧ s.dev.ledger.isOpen = true ∧ s.dev.ledger.erasing = false) :=
  ⟨⟨wit ready, .gaffer 15, 0xFFFFFFE, 4, true, 0xFFFFFFE, .align, by decide +kernel⟩,
   ⟨wit ready, .gaffer 15, BitVec.ofNat 28 Win.mrv.data, .mrv, by decide +kernel⟩,
   ⟨wit ready, .gaffer 15, BitVec.ofNat 28 Reg.MRV_SEED, 0xFFFFFFFF,
     ⟨by decide +kernel, by decide +kernel, reg_has _ (fun r => r.cpw != 0) (by decide +kernel) fun r h => by simpa using h⟩⟩,
   ⟨pnd Reg.MRV_SEED 0xFFFFFFFF 20, .gaffer 15, 0xFFFFFFFF, by decide +kernel⟩,
   ⟨pnd Reg.MRV_SEED 0xFFFFFFFF 20, 20, ⟨Reg.MRV_SEED, 0xFFFFFFFF, .gaffer 15⟩, by decide +kernel⟩,
   ⟨sqx, .gaffer 15, 15, 511, by decide +kernel⟩,
   ⟨sqx, .gaffer 15, 2^31, 511, by decide +kernel⟩,
   ⟨wit fun d => { ready d with ledger := { d.ledger with isOpen := true } }, .gaffer 15, by decide +kernel⟩⟩

set_option maxRecDepth 100000 in
/-- Hypotheses of HostQueuesServe. -/
theorem wit_HostQueuesServe :
    (∃ (s : State) (q : Fin 512), (s.dev.each (List.range 512) fun d i => d.holdCheck i).fetchPick = some ↑q ∧ (s.dev.each (List.range 512)
      fun d i => d.holdCheck i).get (Reg.HQ_SQ_CFG_LOG2_N ↑q) ≤ 16) ∧
    (∃ (s : State) (n : Fin 512) (c : Cqe) (rest : List Cqe), s.dev.due ↑n = c :: rest ∧ s.dev.cqFree ↑n ≠ 0 ∧ s.dev.dmaOk (s.dev.owner ↑n)
      = true ∧ s.dev.cqEn ↑n = true ∧ s.dev.get (Reg.HQ_CQ_CFG_LOG2_N ↑n) ≤ 16) ∧
    (∃ (s : State) (n : Fin 512), s.dev.cqEn ↑n = true ∧ s.dev.flag (Reg.HQ_CQ_CFG_INT_EN ↑n) = true ∧ max 1 (s.dev.get (Reg.HQ_CQ_MOD_COUNT
      ↑n)) ≤ nget s.dev.host.unsig ↑n ∧ s.dev.get (Reg.HQ_CQ_MOD_TIMER_US ↑n) ≠ 0 ∧ mget (fun x => false) s.dev.host.timer ↑n = true) ∧
    (∃ (s : State) (n : Fin 512) (masked : Bool), s.dev.cqEn ↑n = true ∧ s.dev.flag (Reg.HQ_CQ_CFG_INT_EN ↑n) = true ∧ max 1 (s.dev.get
      (Reg.HQ_CQ_MOD_COUNT ↑n)) ≤ nget s.dev.host.unsig ↑n ∧ masked = false ∧ s.dev.get (Reg.HQ_CQ_MOD_TIMER_US ↑n) ≠ 0 ∧ mget (fun x =>
      false) s.dev.host.timer ↑n = true) ∧
    (∃ (s : State) (bs : List Byte) (c : Instr) (op : Nat) (o : HostOp), (c = Instr.injectPipeline (some bs) ∧ op = 1 ∨ c =
      Instr.injectFixed (some bs) ∧ op = 2) ∧ s.dev.injNext = some o ∧ o.byte 0 = op ∧ s.dev.inSelvedge = false ∧ s.dev.injBad o = 0) ∧
    (∃ (s : State) (bs : List Byte) (c : Instr) (op : Nat) (o : HostOp), (c = Instr.injectPipeline (some bs) ∧ op = 1 ∨ c =
      Instr.injectFixed (some bs) ∧ op = 2) ∧ s.dev.injNext = some o ∧ o.byte 0 = op ∧ s.dev.inSelvedge = false ∧ s.dev.injBad o ≠ 0) ∧
    (∃ (s : State) (q : Fin 512) (o : HostOp), s.dev.inFlightSq ↑q = false ∧ List.find? (fun x => x.sq == ↑q) s.dev.host.ops = some o ∧
      postBad (s.dev.get (Reg.HQ_SQ_CFG_TYPE ↑q)) o = 0) ∧
    (∃ (s : State) (q : Fin 512) (o : HostOp), s.dev.inFlightSq ↑q = false ∧ List.find? (fun x => x.sq == ↑q) s.dev.host.ops = some o ∧
      postBad (s.dev.get (Reg.HQ_SQ_CFG_TYPE ↑q)) o ≠ 0 ∧ s.dev.bufsOf ↑q = []) ∧
    (∃ (s : State) (x : StampRec) (b : PostBuf), List.find? (fun y => Option.any (fun b => s.dev.bufTurn y.pq b.op.id) (s.dev.freeBuf y.pq)
      && s.dev.dmaOk (s.dev.owner y.pq) && s.dev.lineOpen 32) s.dev.host.stamps = some x ∧ s.dev.freeBuf x.pq = some b) ∧
    (∃ (s : State) (r : PuntRec) (b : PostBuf), List.find? (fun y => s.dev.bufTurn y.pq y.buf && s.dev.dmaOk (s.dev.owner y.pq) &&
      s.dev.lineOpen y.line) s.dev.host.punt = some r ∧ List.find? (fun y => y.op.id == r.buf) (s.dev.bufsOf r.pq) = some b) ∧
    (∃ (s : State) (q : Fin 512) (b : PostBuf) (rest : List PostBuf), s.dev.bufsOf ↑q = b :: rest ∧ b.recs ≠ 0 ∧ s.dev.get
      (Reg.HQ_SQ_CFG_TYPE ↑q) ≠ 1 ∧ s.dev.dmaOk (s.dev.owner ↑q) = true) ∧
    (∃ (s : State) (x : StampRec), List.find? (fun y => (s.dev.freeBuf y.pq).isNone) s.dev.host.stamps = some x) ∧
    (∃ (s : State) (n : Fin 512) (func : Fin 64), s.dev.pcieUp = true ∧ ↑func ≠ 0 ∧ s.dev.host.vfEn = true ∧ s.dev.owner ↑n = ↑func ∧
      s.dev.inSelvedge = false) :=
  ⟨⟨hqs 0 id fun d => d.set (Reg.HQ_SQ_TAIL_TAIL 511) 2, 511, by decide +kernel⟩,
   ⟨hqs 0 fun h => { h with due := [(511, [cq])] }, 511, cq, [], by decide +kernel⟩,
   ⟨hqs 0 (fun h => { h with unsig := [(511, 1)], timer := [(511, true)] }) fun d => (d.wr (Reg.HQ_CQ_CFG 511) 0xC8000000 |>.put (Reg.HQ_CQ_CFG_INT_EN 511) true).set (Reg.HQ_CQ_MOD_TIMER_US 511) 1,
     511, by decide +kernel⟩,
   ⟨hqs 0 (fun h => { h with unsig := [(511, 1)], timer := [(511, true)] }) fun d => (d.wr (Reg.HQ_CQ_CFG 511) 0xC8000000 |>.put (Reg.HQ_CQ_CFG_INT_EN 511) true).set (Reg.HQ_CQ_MOD_TIMER_US 511) 1,
     511, false, by decide +kernel⟩,
   ⟨hqs 0 fun h => { h with ops := [inj 1 60 0] }, zeros 60, .injectPipeline (some (zeros 60)), 1, inj 1 60 0, by decide +kernel⟩,
   ⟨hqs 0 fun h => { h with ops := [inj 2 60 514] }, zeros 60, .injectFixed (some (zeros 60)), 2, inj 2 60 514, by decide +kernel⟩,
   ⟨hqs 1 fun h => { h with ops := [pst] }, 511, pst, by decide +kernel⟩,
   ⟨hqs 1 fun h => { h with ops := [pstB] }, 511, pstB, by decide +kernel⟩,
   ⟨hqs 1 (fun h => { h with bufs := [(511, [pb])], stamps := [stp] }) (opn 32), stp, pb, by decide +kernel⟩,
   ⟨hqs 1 (fun h => { h with bufs := [(511, [{ pb with claimed := true }])], punt := [pr] }) (fun d => (opn 32 (opn 33 d)).onPath fun p => { p with dep := [(0, [{frame := {arp with id := 7}, mc := false, total := 1, arrived := [0] }])] }),
     pr, { pb with claimed := true }, by decide +kernel⟩,
   ⟨hqs 3 (fun h => { h with bufs := [(511, [{ pb with recs := 1, data := zeros 32 }])] }), 511, { pb with recs := 1, data := zeros 32 },
     [], by decide +kernel⟩,
   ⟨hqs 1 (fun h => { h with stamps := [stp] }), stp, by decide +kernel⟩,
   ⟨hqs 1 (fun h => { h with vfEn := true, ops := [pst], bufs := [(511, [pb])] }) fun d => d.set (Reg.HQ_OWNER_FUNC 511) 63, 511, 63,
     by decide +kernel⟩⟩

/-- Hypotheses of DmaMoves. -/
theorem wit_DmaMoves :
    (∃ (s : State) (c : Fin 32) (o : HostOp) (i : Instr) (op : Nat), (i = Instr.copy c ∧ op = 1 ∨ i = Instr.fill c ∧ op = 2) ∧ (descHeads
      (↑c) s.dev.host.ops.length s.dev).descHead ↑c = some o ∧ o.byte 0 = op ∧ (descHeads (↑c) s.dev.host.ops.length s.dev).dmaOk
      ((descHeads (↑c) s.dev.host.ops.length s.dev).owner o.sq) = true ∧ (descHeads (↑c) s.dev.host.ops.length s.dev).descBad o = 0) ∧
    (∃ (s : State) (c : Fin 32) (o : HostOp) (i : Instr) (op : Nat), (i = Instr.copy c ∧ op = 1 ∨ i = Instr.fill c ∧ op = 2) ∧ (descHeads
      (↑c) s.dev.host.ops.length s.dev).descHead ↑c = some o ∧ o.byte 0 = op ∧ (descHeads (↑c) s.dev.host.ops.length s.dev).dmaOk
      ((descHeads (↑c) s.dev.host.ops.length s.dev).owner o.sq) = true ∧ (descHeads (↑c) s.dev.host.ops.length s.dev).descBad o ≠ 0) ∧
    (∃ (s : State) (c : Fin 32) (line : Option Nat) (n : Nat), (∀ (x : Nat), x < 32 → s.dev.chanPending x = (x == ↑c)) ∧ s.dev.chanNext ↑c =
      some (line, n)) ∧
    (∃ (s : State) (c : Fin 32) (b : Burst) (k : Nat), s.dev.burstOf ↑c = some b ∧ b.line = some k) ∧
    (∃ (s : State) (c : Fin 32) (host : List Byte) (b : Burst) (x : Desc) (w : Nat) (a : Nat), s.dev.burstOf ↑c = some b ∧ b.line = none ∧
      s.dev.descOf ↑c = some x ∧ x.op.byte 0 = 1 ∧ x.op.src.fst = 0 ∧ x.op.dst = (0, false, w, a) ∧ host.length = b.bytes ∧ b.bytes ≠ 0
      ∧ (x.done + b.bytes = x.op.dmaLen ∨ x.gone = true)) ∧
    (∃ (s : State) (c : Fin 32) (host : List Byte) (b : Burst) (x : Desc) (w : Nat) (a : Nat), s.dev.burstOf ↑c = some b ∧ b.line = none ∧
      s.dev.descOf ↑c = some x ∧ x.op.byte 0 = 1 ∧ x.op.src.fst = 0 ∧ x.op.dst = (0, false, w, a) ∧ host.length = b.bytes ∧ b.bytes ≠ 0
      ∧ x.done + b.bytes ≠ x.op.dmaLen ∧ x.gone = false) ∧
    (∃ (s : State) (c : Fin 32) (host : List Byte) (b : Burst) (x : Desc) (w : Nat) (a : Nat), s.dev.burstOf ↑c = some b ∧ b.line = none ∧
      s.dev.descOf ↑c = some x ∧ x.op.byte 0 = 1 ∧ x.op.src.fst = 0 ∧ x.op.dst = (0, false, w, a) ∧ host.length = b.bytes ∧ b.bytes ≠ 0
      ∧ (x.done + b.bytes = x.op.dmaLen ∨ x.gone = true) ∧ x.done + b.bytes ≠ x.op.dmaLen) ∧
    (∃ (s : State) (l : Fin 64), (Option.any (fun x => s.dev.dmaOk x.fst) (s.dev.lineData ↑l) && s.dev.lineOpen ↑l) = false) :=
  ⟨⟨hqs 6 (fun h => { h with ops := [dsc 1] }) ch, 31, dsc 1, .copy 31, 1, by decide +kernel⟩,
   ⟨hqs 6 (fun h => { h with ops := [{ dsc 1 with bytes := [1, 1] ++ (dsc 1).bytes.drop 2 }] }) ch, 31,
     { dsc 1 with bytes := [1, 1] ++ (dsc 1).bytes.drop 2 }, .copy 31, 1, by decide +kernel⟩,
   ⟨bst id, 31, none, 16, by decide +kernel⟩,
   ⟨bst fun x => { x with burst := [(31, some { line := some 39, bytes := 16 })] }, 31, { line := some 39, bytes := 16 }, 39,
     by decide +kernel⟩,
   ⟨bst fun x => { x with burst := [(31, some { bytes := 16 })] }, 31, zeros 16, { bytes := 16 }, { op := dsc 1 }, 4, 0x2000,
     by decide +kernel⟩,
   ⟨bst fun x => { x with burst := [(31, some { bytes := 8 })] }, 31, zeros 8, { bytes := 8 }, { op := dsc 1 }, 4, 0x2000,
     by decide +kernel⟩,
   ⟨bst fun x => { x with desc := [(31, some { op := dsc 1, gone := true })], burst := [(31, some { bytes := 8 })] }, 31, zeros 8,
     { bytes := 8 }, { op := dsc 1, gone := true }, 4, 0x2000, by decide +kernel⟩,
   ⟨bst id, 63, by decide +kernel⟩⟩

/-- Hypotheses of MailboxServes. -/
theorem wit_MailboxServes :
    (∃ (s : State) (q : Fin 512) (o : HostOp), s.dev.flag Reg.SVC_STATUS_READY = true ∧ s.dev.dmaOk (s.dev.owner ↑q) = true ∧
      s.dev.mboxRunning < 64 ∧ s.dev.mboxTurn ↑q = true ∧ (mboxHeads (↑q) s.dev.host.ops.length s.dev).mboxHead ↑q = some o ∧ (mboxHeads
      (↑q) s.dev.host.ops.length s.dev).mboxBlocked o = false ∧ ((mboxHeads (↑q) s.dev.host.ops.length s.dev).onGaf fun g =>
      { mep := g.mep, linear := g.linear, ring := g.ring, ptpClock := g.ptpClock, ptpPort := g.ptpPort, jm := g.jm, mtag := g.mtag, surveyOps := g.surveyOps, flashOp := g.flashOp, expiries := g.expiries, fwVer := g.fwVer, code := g.code, rr := (↑q + 1) % 512 }).mboxBad
      o = none ∧ o.byte 0 = 1 ∧ o.byte 3 = 0) ∧
    (∃ (s : State) (q : Fin 512) (o : HostOp), s.dev.flag Reg.SVC_STATUS_READY = true ∧ s.dev.dmaOk (s.dev.owner ↑q) = true ∧
      s.dev.mboxRunning < 64 ∧ s.dev.mboxTurn ↑q = true ∧ (mboxHeads (↑q) s.dev.host.ops.length s.dev).mboxHead ↑q = some o ∧ (mboxHeads
      (↑q) s.dev.host.ops.length s.dev).mboxBlocked o = false ∧ ((mboxHeads (↑q) s.dev.host.ops.length s.dev).onGaf fun g =>
      { mep := g.mep, linear := g.linear, ring := g.ring, ptpClock := g.ptpClock, ptpPort := g.ptpPort, jm := g.jm, mtag := g.mtag, surveyOps := g.surveyOps, flashOp := g.flashOp, expiries := g.expiries, fwVer := g.fwVer, code := g.code, rr := (↑q + 1) % 512 }).mboxBad
      o = none ∧ o.byte 0 = 16 ∧ o.byte 20 ≤ 2 ∧ o.byte 3 = 0) ∧
    (∃ (s : State) (q : Fin 512) (o : HostOp), s.dev.flag Reg.SVC_STATUS_READY = true ∧ s.dev.dmaOk (s.dev.owner ↑q) = true ∧
      s.dev.mboxRunning < 64 ∧ s.dev.mboxTurn ↑q = true ∧ (mboxHeads (↑q) s.dev.host.ops.length s.dev).mboxHead ↑q = some o ∧ (mboxHeads
      (↑q) s.dev.host.ops.length s.dev).mboxBlocked o = false ∧ ((mboxHeads (↑q) s.dev.host.ops.length s.dev).onGaf fun g =>
      { mep := g.mep, linear := g.linear, ring := g.ring, ptpClock := g.ptpClock, ptpPort := g.ptpPort, jm := g.jm, mtag := g.mtag, surveyOps := g.surveyOps, flashOp := g.flashOp, expiries := g.expiries, fwVer := g.fwVer, code := g.code, rr := (↑q + 1) % 512 }).mboxBad
      o = none ∧ o.byte 0 = 17 ∧ o.field 20 2 < 512 ∧ o.byte 3 = 0) ∧
    (∃ (s : State) (q : Fin 512) (o : HostOp), s.dev.flag Reg.SVC_STATUS_READY = true ∧ s.dev.dmaOk (s.dev.owner ↑q) = true ∧
      s.dev.mboxRunning < 64 ∧ s.dev.mboxTurn ↑q = true ∧ (mboxHeads (↑q) s.dev.host.ops.length s.dev).mboxHead ↑q = some o ∧ (mboxHeads
      (↑q) s.dev.host.ops.length s.dev).mboxBlocked o = false ∧ ((mboxHeads (↑q) s.dev.host.ops.length s.dev).onGaf fun g =>
      { mep := g.mep, linear := g.linear, ring := g.ring, ptpClock := g.ptpClock, ptpPort := g.ptpPort, jm := g.jm, mtag := g.mtag, surveyOps := g.surveyOps, flashOp := g.flashOp, expiries := g.expiries, fwVer := g.fwVer, code := g.code, rr := (↑q + 1) % 512 }).mboxBad
      o = none ∧ o.byte 0 = 18 ∧ o.byte 3 = 0) ∧
    (∃ (s : State) (q : Fin 512) (o : HostOp), s.dev.flag Reg.SVC_STATUS_READY = true ∧ s.dev.dmaOk (s.dev.owner ↑q) = true ∧
      s.dev.mboxRunning < 64 ∧ s.dev.mboxTurn ↑q = true ∧ (mboxHeads (↑q) s.dev.host.ops.length s.dev).mboxHead ↑q = some o ∧ (mboxHeads
      (↑q) s.dev.host.ops.length s.dev).mboxBlocked o = false ∧ ((mboxHeads (↑q) s.dev.host.ops.length s.dev).onGaf fun g =>
      { mep := g.mep, linear := g.linear, ring := g.ring, ptpClock := g.ptpClock, ptpPort := g.ptpPort, jm := g.jm, mtag := g.mtag, surveyOps := g.surveyOps, flashOp := g.flashOp, expiries := g.expiries, fwVer := g.fwVer, code := g.code, rr := (↑q + 1) % 512 }).mboxBad
      o = none ∧ o.byte 0 = 32 ∧ o.field 16 4 = 48 ∧ o.field 20 2 < 16384 ∧ o.field 22 2 < 512 ∧ o.field 24 2 < 4096 ∧ 1 ≤ bits (o.byte
      26) 3 0 ∧ bits (o.byte 26) 3 0 ≤ 7 ∧ o.byte 27 ≤ 7 ∧ 1 ≤ o.field 28 2 ∧ o.field 28 2 ≤ 8191 ∧ o.field 30 2 ≤ 8191 ∧ bits (o.field
      32 2) 13 12 = 0 ∧ ((mboxHeads (↑q) s.dev.host.ops.length s.dev).onGaf fun g =>
      { mep := g.mep, linear := g.linear, ring := g.ring, ptpClock := g.ptpClock, ptpPort := g.ptpPort, jm := g.jm, mtag := g.mtag, surveyOps := g.surveyOps, flashOp := g.flashOp, expiries := g.expiries, fwVer := g.fwVer, code := g.code, rr := (↑q + 1) % 512 }).mep
      (o.field 20 2) = none ∧ o.byte 3 = 0) ∧
    (∃ (s : State) (q : Fin 512) (o : HostOp), s.dev.flag Reg.SVC_STATUS_READY = true ∧ s.dev.dmaOk (s.dev.owner ↑q) = true ∧
      s.dev.mboxRunning < 64 ∧ s.dev.mboxTurn ↑q = true ∧ (mboxHeads (↑q) s.dev.host.ops.length s.dev).mboxHead ↑q = some o ∧ (mboxHeads
      (↑q) s.dev.host.ops.length s.dev).mboxBlocked o = false ∧ ((mboxHeads (↑q) s.dev.host.ops.length s.dev).onGaf fun g =>
      { mep := g.mep, linear := g.linear, ring := g.ring, ptpClock := g.ptpClock, ptpPort := g.ptpPort, jm := g.jm, mtag := g.mtag, surveyOps := g.surveyOps, flashOp := g.flashOp, expiries := g.expiries, fwVer := g.fwVer, code := g.code, rr := (↑q + 1) % 512 }).mboxBad
      o = none ∧ o.byte 0 = 32 ∧ o.field 16 4 = 48 ∧ o.field 20 2 < 16384 ∧ o.field 22 2 < 512 ∧ o.field 24 2 < 4096 ∧ 1 ≤ bits (o.byte
      26) 3 0 ∧ bits (o.byte 26) 3 0 ≤ 7 ∧ o.byte 27 ≤ 7 ∧ 1 ≤ o.field 28 2 ∧ o.field 28 2 ≤ 8191 ∧ o.field 30 2 ≤ 8191 ∧ bits (o.field
      32 2) 13 12 = 0 ∧ ((mboxHeads (↑q) s.dev.host.ops.length s.dev).onGaf fun g =>
      { mep := g.mep, linear := g.linear, ring := g.ring, ptpClock := g.ptpClock, ptpPort := g.ptpPort, jm := g.jm, mtag := g.mtag, surveyOps := g.surveyOps, flashOp := g.flashOp, expiries := g.expiries, fwVer := g.fwVer, code := g.code, rr := (↑q + 1) % 512 }).mep
      (o.field 20 2) ≠ none ∧ o.byte 3 = 0) ∧
    (∃ (s : State) (q : Fin 512) (o : HostOp), s.dev.flag Reg.SVC_STATUS_READY = true ∧ s.dev.dmaOk (s.dev.owner ↑q) = true ∧
      s.dev.mboxRunning < 64 ∧ s.dev.mboxTurn ↑q = true ∧ (mboxHeads (↑q) s.dev.host.ops.length s.dev).mboxHead ↑q = some o ∧ (mboxHeads
      (↑q) s.dev.host.ops.length s.dev).mboxBlocked o = false ∧ ((mboxHeads (↑q) s.dev.host.ops.length s.dev).onGaf fun g =>
      { mep := g.mep, linear := g.linear, ring := g.ring, ptpClock := g.ptpClock, ptpPort := g.ptpPort, jm := g.jm, mtag := g.mtag, surveyOps := g.surveyOps, flashOp := g.flashOp, expiries := g.expiries, fwVer := g.fwVer, code := g.code, rr := (↑q + 1) % 512 }).mboxBad
      o = none ∧ o.byte 0 = 33 ∧ o.field 20 2 < 16384 ∧ o.byte 3 = 0) ∧
    (∃ (s : State) (q : Fin 512) (o : HostOp) (m : Mep), s.dev.flag Reg.SVC_STATUS_READY = true ∧ s.dev.dmaOk (s.dev.owner ↑q) = true ∧
      s.dev.mboxRunning < 64 ∧ s.dev.mboxTurn ↑q = true ∧ (mboxHeads (↑q) s.dev.host.ops.length s.dev).mboxHead ↑q = some o ∧ (mboxHeads
      (↑q) s.dev.host.ops.length s.dev).mboxBlocked o = false ∧ ((mboxHeads (↑q) s.dev.host.ops.length s.dev).onGaf fun g =>
      { mep := g.mep, linear := g.linear, ring := g.ring, ptpClock := g.ptpClock, ptpPort := g.ptpPort, jm := g.jm, mtag := g.mtag, surveyOps := g.surveyOps, flashOp := g.flashOp, expiries := g.expiries, fwVer := g.fwVer, code := g.code, rr := (↑q + 1) % 512 }).mboxBad
      o = none ∧ o.byte 0 = 34 ∧ o.field 20 2 < 16384 ∧ ((mboxHeads (↑q) s.dev.host.ops.length s.dev).onGaf fun g =>
      { mep := g.mep, linear := g.linear, ring := g.ring, ptpClock := g.ptpClock, ptpPort := g.ptpPort, jm := g.jm, mtag := g.mtag, surveyOps := g.surveyOps, flashOp := g.flashOp, expiries := g.expiries, fwVer := g.fwVer, code := g.code, rr := (↑q + 1) % 512 }).mep
      (o.field 20 2) = some m ∧ o.byte 3 = 0) ∧
    (∃ (s : State) (q : Fin 512) (o : HostOp), s.dev.flag Reg.SVC_STATUS_READY = true ∧ s.dev.dmaOk (s.dev.owner ↑q) = true ∧
      s.dev.mboxRunning < 64 ∧ s.dev.mboxTurn ↑q = true ∧ (mboxHeads (↑q) s.dev.host.ops.length s.dev).mboxHead ↑q = some o ∧ (mboxHeads
      (↑q) s.dev.host.ops.length s.dev).mboxBlocked o = false ∧ ((mboxHeads (↑q) s.dev.host.ops.length s.dev).onGaf fun g =>
      { mep := g.mep, linear := g.linear, ring := g.ring, ptpClock := g.ptpClock, ptpPort := g.ptpPort, jm := g.jm, mtag := g.mtag, surveyOps := g.surveyOps, flashOp := g.flashOp, expiries := g.expiries, fwVer := g.fwVer, code := g.code, rr := (↑q + 1) % 512 }).mboxBad
      o = none ∧ o.byte 0 = 48 ∧ o.field 20 2 < 4096 ∧ o.byte 22 ≤ 1 ∧ o.field 24 2 < 16384 ∧ ((mboxHeads (↑q) s.dev.host.ops.length
      s.dev).onGaf fun g =>
      { mep := g.mep, linear := g.linear, ring := g.ring, ptpClock := g.ptpClock, ptpPort := g.ptpPort, jm := g.jm, mtag := g.mtag, surveyOps := g.surveyOps, flashOp := g.flashOp, expiries := g.expiries, fwVer := g.fwVer, code := g.code, rr := (↑q + 1) % 512 }).mep
      (o.field 24 2) ≠ none ∧ o.byte 3 = 0) ∧
    (∃ (s : State) (q : Fin 512) (o : HostOp), s.dev.flag Reg.SVC_STATUS_READY = true ∧ s.dev.dmaOk (s.dev.owner ↑q) = true ∧
      s.dev.mboxRunning < 64 ∧ s.dev.mboxTurn ↑q = true ∧ (mboxHeads (↑q) s.dev.host.ops.length s.dev).mboxHead ↑q = some o ∧ (mboxHeads
      (↑q) s.dev.host.ops.length s.dev).mboxBlocked o = false ∧ ((mboxHeads (↑q) s.dev.host.ops.length s.dev).onGaf fun g =>
      { mep := g.mep, linear := g.linear, ring := g.ring, ptpClock := g.ptpClock, ptpPort := g.ptpPort, jm := g.jm, mtag := g.mtag, surveyOps := g.surveyOps, flashOp := g.flashOp, expiries := g.expiries, fwVer := g.fwVer, code := g.code, rr := (↑q + 1) % 512 }).mboxBad
      o = none ∧ o.byte 0 = 49 ∧ o.byte 3 = 0) ∧
    (∃ (s : State) (q : Fin 512) (o : HostOp), s.dev.flag Reg.SVC_STATUS_READY = true ∧ s.dev.dmaOk (s.dev.owner ↑q) = true ∧
      s.dev.mboxRunning < 64 ∧ s.dev.mboxTurn ↑q = true ∧ (mboxHeads (↑q) s.dev.host.ops.length s.dev).mboxHead ↑q = some o ∧ (mboxHeads
      (↑q) s.dev.host.ops.length s.dev).mboxBlocked o = false ∧ ((mboxHeads (↑q) s.dev.host.ops.length s.dev).onGaf fun g =>
      { mep := g.mep, linear := g.linear, ring := g.ring, ptpClock := g.ptpClock, ptpPort := g.ptpPort, jm := g.jm, mtag := g.mtag, surveyOps := g.surveyOps, flashOp := g.flashOp, expiries := g.expiries, fwVer := g.fwVer, code := g.code, rr := (↑q + 1) % 512 }).mboxBad
      o = none ∧ o.byte 0 = 50 ∧ lget ((mboxHeads (↑q) s.dev.host.ops.length s.dev).onGaf fun g =>
      { mep := g.mep, linear := g.linear, ring := g.ring, ptpClock := g.ptpClock, ptpPort := g.ptpPort, jm := g.jm, mtag := g.mtag, surveyOps := g.surveyOps, flashOp := g.flashOp, expiries := g.expiries, fwVer := g.fwVer, code := g.code, rr := (↑q + 1) % 512 }).gaffer.linear
      (o.field 20 2) ≠ []) ∧
    (∃ (s : State) (q : Fin 512) (o : HostOp), s.dev.flag Reg.SVC_STATUS_READY = true ∧ s.dev.dmaOk (s.dev.owner ↑q) = true ∧
      s.dev.mboxRunning < 64 ∧ s.dev.mboxTurn ↑q = true ∧ (mboxHeads (↑q) s.dev.host.ops.length s.dev).mboxHead ↑q = some o ∧ (mboxHeads
      (↑q) s.dev.host.ops.length s.dev).mboxBlocked o = false ∧ ((mboxHeads (↑q) s.dev.host.ops.length s.dev).onGaf fun g =>
      { mep := g.mep, linear := g.linear, ring := g.ring, ptpClock := g.ptpClock, ptpPort := g.ptpPort, jm := g.jm, mtag := g.mtag, surveyOps := g.surveyOps, flashOp := g.flashOp, expiries := g.expiries, fwVer := g.fwVer, code := g.code, rr := (↑q + 1) % 512 }).mboxBad
      o = none ∧ o.byte 0 = 64 ∧ o.byte 3 = 0) ∧
    (∃ (s : State) (q : Fin 512) (o : HostOp), s.dev.flag Reg.SVC_STATUS_READY = true ∧ s.dev.dmaOk (s.dev.owner ↑q) = true ∧
      s.dev.mboxRunning < 64 ∧ s.dev.mboxTurn ↑q = true ∧ (mboxHeads (↑q) s.dev.host.ops.length s.dev).mboxHead ↑q = some o ∧ (mboxHeads
      (↑q) s.dev.host.ops.length s.dev).mboxBlocked o = false ∧ ((mboxHeads (↑q) s.dev.host.ops.length s.dev).onGaf fun g =>
      { mep := g.mep, linear := g.linear, ring := g.ring, ptpClock := g.ptpClock, ptpPort := g.ptpPort, jm := g.jm, mtag := g.mtag, surveyOps := g.surveyOps, flashOp := g.flashOp, expiries := g.expiries, fwVer := g.fwVer, code := g.code, rr := (↑q + 1) % 512 }).mboxBad
      o = none ∧ o.byte 0 = 80 ∧ o.byte 20 ≤ 1 ∧ o.byte 21 = 0 ∧ o.field 22 2 ≤ o.field 24 2 ∧ o.field 24 2 < 512 ∧ o.byte 26 ≤ 1 ∧
      ((mboxHeads (↑q) s.dev.host.ops.length s.dev).onGaf fun g =>
      { mep := g.mep, linear := g.linear, ring := g.ring, ptpClock := g.ptpClock, ptpPort := g.ptpPort, jm := g.jm, mtag := g.mtag, surveyOps := g.surveyOps, flashOp := g.flashOp, expiries := g.expiries, fwVer := g.fwVer, code := g.code, rr := (↑q + 1) % 512 }).inSelvedge
      = false ∧ (o.byte 26 = 0 ∨ ((mboxHeads (↑q) s.dev.host.ops.length s.dev).onGaf fun g =>
      { mep := g.mep, linear := g.linear, ring := g.ring, ptpClock := g.ptpClock, ptpPort := g.ptpPort, jm := g.jm, mtag := g.mtag, surveyOps := g.surveyOps, flashOp := g.flashOp, expiries := g.expiries, fwVer := g.fwVer, code := g.code, rr := (↑q + 1) % 512 }).role
      ≠ roleStandby) ∧ (((mboxHeads (↑q) s.dev.host.ops.length s.dev).onGaf fun g =>
      { mep := g.mep, linear := g.linear, ring := g.ring, ptpClock := g.ptpClock, ptpPort := g.ptpPort, jm := g.jm, mtag := g.mtag, surveyOps := g.surveyOps, flashOp := g.flashOp, expiries := g.expiries, fwVer := g.fwVer, code := g.code, rr := (↑q + 1) % 512 }).busWriteR
      (((mboxHeads (↑q) s.dev.host.ops.length s.dev).onGaf fun g =>
      { mep := g.mep, linear := g.linear, ring := g.ring, ptpClock := g.ptpClock, ptpPort := g.ptpPort, jm := g.jm, mtag := g.mtag, surveyOps := g.surveyOps, flashOp := g.flashOp, expiries := g.expiries, fwVer := g.fwVer, code := g.code, rr := (↑q + 1) % 512 }).coreBy
      4) false Reg.SRV_CTRL 4 true (2 ^ 31 + 2 ^ 30 * b2n (((mboxHeads (↑q) s.dev.host.ops.length s.dev).onGaf fun g =>
      { mep := g.mep, linear := g.linear, ring := g.ring, ptpClock := g.ptpClock, ptpPort := g.ptpPort, jm := g.jm, mtag := g.mtag, surveyOps := g.surveyOps, flashOp := g.flashOp, expiries := g.expiries, fwVer := g.fwVer, code := g.code, rr := (↑q + 1) % 512 }).flag
      Reg.SRV_CTRL_AUTO_RESURVEY) + 2 ^ 29 * o.byte 26 + 2 ^ 24 * o.byte 20 + 2 ^ 9 * o.field 24 2 + o.field 22 2)).fst = BusResult.ok ∧
      o.byte 20 = 0 ∧ (((mboxHeads (↑q) s.dev.host.ops.length s.dev).onGaf fun g =>
      { mep := g.mep, linear := g.linear, ring := g.ring, ptpClock := g.ptpClock, ptpPort := g.ptpPort, jm := g.jm, mtag := g.mtag, surveyOps := g.surveyOps, flashOp := g.flashOp, expiries := g.expiries, fwVer := g.fwVer, code := g.code, rr := (↑q + 1) % 512 }).busWriteR
      (((mboxHeads (↑q) s.dev.host.ops.length s.dev).onGaf fun g =>
      { mep := g.mep, linear := g.linear, ring := g.ring, ptpClock := g.ptpClock, ptpPort := g.ptpPort, jm := g.jm, mtag := g.mtag, surveyOps := g.surveyOps, flashOp := g.flashOp, expiries := g.expiries, fwVer := g.fwVer, code := g.code, rr := (↑q + 1) % 512 }).coreBy
      4) false Reg.SRV_CTRL 4 true (2 ^ 31 + 2 ^ 30 * b2n (((mboxHeads (↑q) s.dev.host.ops.length s.dev).onGaf fun g =>
      { mep := g.mep, linear := g.linear, ring := g.ring, ptpClock := g.ptpClock, ptpPort := g.ptpPort, jm := g.jm, mtag := g.mtag, surveyOps := g.surveyOps, flashOp := g.flashOp, expiries := g.expiries, fwVer := g.fwVer, code := g.code, rr := (↑q + 1) % 512 }).flag
      Reg.SRV_CTRL_AUTO_RESURVEY) + 2 ^ 29 * o.byte 26 + 2 ^ 24 * o.byte 20 + 2 ^ 9 * o.field 24 2 + o.field 22 2)).snd.flag
      Reg.SRV_STATUS_BUSY = true) ∧
    (∃ (s : State) (q : Fin 512) (o : HostOp), s.dev.flag Reg.SVC_STATUS_READY = true ∧ s.dev.dmaOk (s.dev.owner ↑q) = true ∧
      s.dev.mboxRunning < 64 ∧ s.dev.mboxTurn ↑q = true ∧ (mboxHeads (↑q) s.dev.host.ops.length s.dev).mboxHead ↑q = some o ∧ (mboxHeads
      (↑q) s.dev.host.ops.length s.dev).mboxBlocked o = false ∧ ((mboxHeads (↑q) s.dev.host.ops.length s.dev).onGaf fun g =>
      { mep := g.mep, linear := g.linear, ring := g.ring, ptpClock := g.ptpClock, ptpPort := g.ptpPort, jm := g.jm, mtag := g.mtag, surveyOps := g.surveyOps, flashOp := g.flashOp, expiries := g.expiries, fwVer := g.fwVer, code := g.code, rr := (↑q + 1) % 512 }).mboxBad
      o = none ∧ o.byte 0 = 80 ∧ o.byte 20 ≤ 1 ∧ o.byte 21 = 0 ∧ o.field 22 2 ≤ o.field 24 2 ∧ o.field 24 2 < 512 ∧ o.byte 26 ≤ 1 ∧
      ((mboxHeads (↑q) s.dev.host.ops.length s.dev).onGaf fun g =>
      { mep := g.mep, linear := g.linear, ring := g.ring, ptpClock := g.ptpClock, ptpPort := g.ptpPort, jm := g.jm, mtag := g.mtag, surveyOps := g.surveyOps, flashOp := g.flashOp, expiries := g.expiries, fwVer := g.fwVer, code := g.code, rr := (↑q + 1) % 512 }).inSelvedge
      = true ∧ o.byte 3 = 0) ∧
    (∃ (s : State) (q : Fin 512) (o : HostOp), s.dev.flag Reg.SVC_STATUS_READY = true ∧ s.dev.dmaOk (s.dev.owner ↑q) = true ∧
      s.dev.mboxRunning < 64 ∧ s.dev.mboxTurn ↑q = true ∧ (mboxHeads (↑q) s.dev.host.ops.length s.dev).mboxHead ↑q = some o ∧ (mboxHeads
      (↑q) s.dev.host.ops.length s.dev).mboxBlocked o = false ∧ ((mboxHeads (↑q) s.dev.host.ops.length s.dev).onGaf fun g =>
      { mep := g.mep, linear := g.linear, ring := g.ring, ptpClock := g.ptpClock, ptpPort := g.ptpPort, jm := g.jm, mtag := g.mtag, surveyOps := g.surveyOps, flashOp := g.flashOp, expiries := g.expiries, fwVer := g.fwVer, code := g.code, rr := (↑q + 1) % 512 }).mboxBad
      o = none ∧ o.byte 0 = 81 ∧ i2cOk o = true ∧ o.byte 25 ≤ o.field 16 4 ∧ 1 ≤ o.byte 25 ∧ o.byte 3 = 0) ∧
    (∃ (s : State) (q : Fin 512) (o : HostOp), s.dev.flag Reg.SVC_STATUS_READY = true ∧ s.dev.dmaOk (s.dev.owner ↑q) = true ∧
      s.dev.mboxRunning < 64 ∧ s.dev.mboxTurn ↑q = true ∧ (mboxHeads (↑q) s.dev.host.ops.length s.dev).mboxHead ↑q = some o ∧ (mboxHeads
      (↑q) s.dev.host.ops.length s.dev).mboxBlocked o = false ∧ ((mboxHeads (↑q) s.dev.host.ops.length s.dev).onGaf fun g =>
      { mep := g.mep, linear := g.linear, ring := g.ring, ptpClock := g.ptpClock, ptpPort := g.ptpPort, jm := g.jm, mtag := g.mtag, surveyOps := g.surveyOps, flashOp := g.flashOp, expiries := g.expiries, fwVer := g.fwVer, code := g.code, rr := (↑q + 1) % 512 }).mboxBad
      o = none ∧ o.byte 0 = 82 ∧ i2cOk o = true ∧ o.byte 25 ≤ o.field 16 4 ∧ o.byte 3 = 0) ∧
    (∃ (s : State) (q : Fin 512) (o : HostOp), s.dev.flag Reg.SVC_STATUS_READY = true ∧ s.dev.dmaOk (s.dev.owner ↑q) = true ∧
      s.dev.mboxRunning < 64 ∧ s.dev.mboxTurn ↑q = true ∧ (mboxHeads (↑q) s.dev.host.ops.length s.dev).mboxHead ↑q = some o ∧ (mboxHeads
      (↑q) s.dev.host.ops.length s.dev).mboxBlocked o = false ∧ ((mboxHeads (↑q) s.dev.host.ops.length s.dev).onGaf fun g =>
      { mep := g.mep, linear := g.linear, ring := g.ring, ptpClock := g.ptpClock, ptpPort := g.ptpPort, jm := g.jm, mtag := g.mtag, surveyOps := g.surveyOps, flashOp := g.flashOp, expiries := g.expiries, fwVer := g.fwVer, code := g.code, rr := (↑q + 1) % 512 }).mboxBad
      o = none ∧ o.byte 0 = 96 ∧ o.field 20 4 + o.field 24 4 ≤ 4194304 ∧ o.field 24 4 ≤ o.field 16 4 ∧ 1 ≤ o.field 24 4 ∧ ((mboxHeads
      (↑q) s.dev.host.ops.length s.dev).onGaf fun g =>
      { mep := g.mep, linear := g.linear, ring := g.ring, ptpClock := g.ptpClock, ptpPort := g.ptpPort, jm := g.jm, mtag := g.mtag, surveyOps := g.surveyOps, flashOp := g.flashOp, expiries := g.expiries, fwVer := g.fwVer, code := g.code, rr := (↑q + 1) % 512 }).lineOpen
      35 = true ∧ ((mboxHeads (↑q) s.dev.host.ops.length s.dev).onGaf fun g =>
      { mep := g.mep, linear := g.linear, ring := g.ring, ptpClock := g.ptpClock, ptpPort := g.ptpPort, jm := g.jm, mtag := g.mtag, surveyOps := g.surveyOps, flashOp := g.flashOp, expiries := g.expiries, fwVer := g.fwVer, code := g.code, rr := (↑q + 1) % 512 }).ledger.erasing
      = false ∧ o.byte 3 = 0) ∧
    (∃ (s : State) (q : Fin 512) (o : HostOp), s.dev.flag Reg.SVC_STATUS_READY = true ∧ s.dev.dmaOk (s.dev.owner ↑q) = true ∧
      s.dev.mboxRunning < 64 ∧ s.dev.mboxTurn ↑q = true ∧ (mboxHeads (↑q) s.dev.host.ops.length s.dev).mboxHead ↑q = some o ∧ (mboxHeads
      (↑q) s.dev.host.ops.length s.dev).mboxBlocked o = false ∧ ((mboxHeads (↑q) s.dev.host.ops.length s.dev).onGaf fun g =>
      { mep := g.mep, linear := g.linear, ring := g.ring, ptpClock := g.ptpClock, ptpPort := g.ptpPort, jm := g.jm, mtag := g.mtag, surveyOps := g.surveyOps, flashOp := g.flashOp, expiries := g.expiries, fwVer := g.fwVer, code := g.code, rr := (↑q + 1) % 512 }).mboxBad
      o = none ∧ o.byte 0 = 112 ∧ o.byte 20 ≤ 1 ∧ o.byte 3 = 0) ∧
    (∃ (s : State) (q : Fin 512) (o : HostOp), s.dev.flag Reg.SVC_STATUS_READY = true ∧ s.dev.dmaOk (s.dev.owner ↑q) = true ∧
      s.dev.mboxRunning < 64 ∧ s.dev.mboxTurn ↑q = true ∧ (mboxHeads (↑q) s.dev.host.ops.length s.dev).mboxHead ↑q = some o ∧ (mboxHeads
      (↑q) s.dev.host.ops.length s.dev).mboxBlocked o = false ∧ ((mboxHeads (↑q) s.dev.host.ops.length s.dev).onGaf fun g =>
      { mep := g.mep, linear := g.linear, ring := g.ring, ptpClock := g.ptpClock, ptpPort := g.ptpPort, jm := g.jm, mtag := g.mtag, surveyOps := g.surveyOps, flashOp := g.flashOp, expiries := g.expiries, fwVer := g.fwVer, code := g.code, rr := (↑q + 1) % 512 }).mboxBad
      o = none ∧ o.byte 0 = 113 ∧ ((mboxHeads (↑q) s.dev.host.ops.length s.dev).onGaf fun g =>
      { mep := g.mep, linear := g.linear, ring := g.ring, ptpClock := g.ptpClock, ptpPort := g.ptpPort, jm := g.jm, mtag := g.mtag, surveyOps := g.surveyOps, flashOp := g.flashOp, expiries := g.expiries, fwVer := g.fwVer, code := g.code, rr := (↑q + 1) % 512 }).gaffer.flashOp
      = none ∧ ((mboxHeads (↑q) s.dev.host.ops.length s.dev).onGaf fun g =>
      { mep := g.mep, linear := g.linear, ring := g.ring, ptpClock := g.ptpClock, ptpPort := g.ptpPort, jm := g.jm, mtag := g.mtag, surveyOps := g.surveyOps, flashOp := g.flashOp, expiries := g.expiries, fwVer := g.fwVer, code := g.code, rr := (↑q + 1) % 512 }).flashBad
      (o.byte 20) (o.field 24 4) (o.field 16 4) = none) ∧
    (∃ (s : State) (q : Fin 512) (o : HostOp), s.dev.flag Reg.SVC_STATUS_READY = true ∧ s.dev.dmaOk (s.dev.owner ↑q) = true ∧
      s.dev.mboxRunning < 64 ∧ s.dev.mboxTurn ↑q = true ∧ (mboxHeads (↑q) s.dev.host.ops.length s.dev).mboxHead ↑q = some o ∧ (mboxHeads
      (↑q) s.dev.host.ops.length s.dev).mboxBlocked o = false ∧ ((mboxHeads (↑q) s.dev.host.ops.length s.dev).onGaf fun g =>
      { mep := g.mep, linear := g.linear, ring := g.ring, ptpClock := g.ptpClock, ptpPort := g.ptpPort, jm := g.jm, mtag := g.mtag, surveyOps := g.surveyOps, flashOp := g.flashOp, expiries := g.expiries, fwVer := g.fwVer, code := g.code, rr := (↑q + 1) % 512 }).mboxBad
      o = none ∧ o.byte 0 = 113 ∧ ((mboxHeads (↑q) s.dev.host.ops.length s.dev).onGaf fun g =>
      { mep := g.mep, linear := g.linear, ring := g.ring, ptpClock := g.ptpClock, ptpPort := g.ptpPort, jm := g.jm, mtag := g.mtag, surveyOps := g.surveyOps, flashOp := g.flashOp, expiries := g.expiries, fwVer := g.fwVer, code := g.code, rr := (↑q + 1) % 512 }).gaffer.flashOp
      = none ∧ o.byte 20 = 2 ∧ o.field 24 4 + o.field 16 4 ≤ ((mboxHeads (↑q) s.dev.host.ops.length s.dev).onGaf fun g =>
      { mep := g.mep, linear := g.linear, ring := g.ring, ptpClock := g.ptpClock, ptpPort := g.ptpPort, jm := g.jm, mtag := g.mtag, surveyOps := g.surveyOps, flashOp := g.flashOp, expiries := g.expiries, fwVer := g.fwVer, code := g.code, rr := (↑q + 1) % 512 }).flash.quarter
      ∧ o.byte 3 = 0) ∧
    (∃ (s : State) (q : Fin 512) (o : HostOp), s.dev.flag Reg.SVC_STATUS_READY = true ∧ s.dev.dmaOk (s.dev.owner ↑q) = true ∧
      s.dev.mboxRunning < 64 ∧ s.dev.mboxTurn ↑q = true ∧ (mboxHeads (↑q) s.dev.host.ops.length s.dev).mboxHead ↑q = some o ∧ (mboxHeads
      (↑q) s.dev.host.ops.length s.dev).mboxBlocked o = false ∧ ((mboxHeads (↑q) s.dev.host.ops.length s.dev).onGaf fun g =>
      { mep := g.mep, linear := g.linear, ring := g.ring, ptpClock := g.ptpClock, ptpPort := g.ptpPort, jm := g.jm, mtag := g.mtag, surveyOps := g.surveyOps, flashOp := g.flashOp, expiries := g.expiries, fwVer := g.fwVer, code := g.code, rr := (↑q + 1) % 512 }).mboxBad
      o = none ∧ o.byte 0 = 114 ∧ ((mboxHeads (↑q) s.dev.host.ops.length s.dev).onGaf fun g =>
      { mep := g.mep, linear := g.linear, ring := g.ring, ptpClock := g.ptpClock, ptpPort := g.ptpPort, jm := g.jm, mtag := g.mtag, surveyOps := g.surveyOps, flashOp := g.flashOp, expiries := g.expiries, fwVer := g.fwVer, code := g.code, rr := (↑q + 1) % 512 }).gaffer.flashOp
      = none ∧ ((mboxHeads (↑q) s.dev.host.ops.length s.dev).onGaf fun g =>
      { mep := g.mep, linear := g.linear, ring := g.ring, ptpClock := g.ptpClock, ptpPort := g.ptpPort, jm := g.jm, mtag := g.mtag, surveyOps := g.surveyOps, flashOp := g.flashOp, expiries := g.expiries, fwVer := g.fwVer, code := g.code, rr := (↑q + 1) % 512 }).flashBad
      (o.byte 20) (o.field 24 4) (o.field 28 4) = none ∧ o.field 24 4 % ((mboxHeads (↑q) s.dev.host.ops.length s.dev).onGaf fun g =>
      { mep := g.mep, linear := g.linear, ring := g.ring, ptpClock := g.ptpClock, ptpPort := g.ptpPort, jm := g.jm, mtag := g.mtag, surveyOps := g.surveyOps, flashOp := g.flashOp, expiries := g.expiries, fwVer := g.fwVer, code := g.code, rr := (↑q + 1) % 512 }).flash.erase
      = 0 ∧ o.field 28 4 % ((mboxHeads (↑q) s.dev.host.ops.length s.dev).onGaf fun g =>
      { mep := g.mep, linear := g.linear, ring := g.ring, ptpClock := g.ptpClock, ptpPort := g.ptpPort, jm := g.jm, mtag := g.mtag, surveyOps := g.surveyOps, flashOp := g.flashOp, expiries := g.expiries, fwVer := g.fwVer, code := g.code, rr := (↑q + 1) % 512 }).flash.erase
      = 0) ∧
    (∃ (s : State) (q : Fin 512) (o : HostOp), s.dev.flag Reg.SVC_STATUS_READY = true ∧ s.dev.dmaOk (s.dev.owner ↑q) = true ∧
      s.dev.mboxRunning < 64 ∧ s.dev.mboxTurn ↑q = true ∧ (mboxHeads (↑q) s.dev.host.ops.length s.dev).mboxHead ↑q = some o ∧ (mboxHeads
      (↑q) s.dev.host.ops.length s.dev).mboxBlocked o = false ∧ ((mboxHeads (↑q) s.dev.host.ops.length s.dev).onGaf fun g =>
      { mep := g.mep, linear := g.linear, ring := g.ring, ptpClock := g.ptpClock, ptpPort := g.ptpPort, jm := g.jm, mtag := g.mtag, surveyOps := g.surveyOps, flashOp := g.flashOp, expiries := g.expiries, fwVer := g.fwVer, code := g.code, rr := (↑q + 1) % 512 }).mboxBad
      o = none ∧ o.byte 0 = 128 ∧ o.field 20 2 < 4096 ∧ o.field 20 2 ≠ ((mboxHeads (↑q) s.dev.host.ops.length s.dev).onGaf fun g =>
      { mep := g.mep, linear := g.linear, ring := g.ring, ptpClock := g.ptpClock, ptpPort := g.ptpPort, jm := g.jm, mtag := g.mtag, surveyOps := g.surveyOps, flashOp := g.flashOp, expiries := g.expiries, fwVer := g.fwVer, code := g.code, rr := (↑q + 1) % 512 }).get
      Reg.JFL_CFG_DEVID ∧ 1 ≤ o.byte 22 ∧ o.byte 22 ≤ 32 ∧ o.field 16 4 = 16 * o.byte 22 ∧ ((mboxHeads (↑q) s.dev.host.ops.length
      s.dev).onGaf fun g =>
      { mep := g.mep, linear := g.linear, ring := g.ring, ptpClock := g.ptpClock, ptpPort := g.ptpPort, jm := g.jm, mtag := g.mtag, surveyOps := g.surveyOps, flashOp := g.flashOp, expiries := g.expiries, fwVer := g.fwVer, code := g.code, rr := (↑q + 1) % 512 }).route
      (o.field 20 2) ≠ none ∧ ((mboxHeads (↑q) s.dev.host.ops.length s.dev).onGaf fun g =>
      { mep := g.mep, linear := g.linear, ring := g.ring, ptpClock := g.ptpClock, ptpPort := g.ptpPort, jm := g.jm, mtag := g.mtag, surveyOps := g.surveyOps, flashOp := g.flashOp, expiries := g.expiries, fwVer := g.fwVer, code := g.code, rr := (↑q + 1) % 512 }).gaffer.jm.length
      < 16) :=
  ⟨⟨mbs (mb 0x01 0 []), 511, mb 0x01 0 [], by decide +kernel⟩,
   ⟨mbs (mb 0x10 0 [2, 1, 2, 3, 4]), 511, mb 0x10 0 [2, 1, 2, 3, 4], by decide +kernel⟩,
   ⟨mbs (mb 0x11 0 [0xFF, 1, 2, 3, 4, 5, 6, 7, 8]), 511, mb 0x11 0 [0xFF, 1, 2, 3, 4, 5, 6, 7, 8], by decide +kernel⟩,
   ⟨mbs (mb 0x12 0 []), 511, mb 0x12 0 [], by decide +kernel⟩,
   ⟨mbs (mb 0x20 48 mepA), 511, mb 0x20 48 mepA, by decide +kernel⟩,
   ⟨mbs (mb 0x20 48 mepA) hm, 511, mb 0x20 48 mepA, by decide +kernel⟩,
   ⟨mbs (mb 0x21 0 [0xFF, 0x3F]) hm, 511, mb 0x21 0 [0xFF, 0x3F], by decide +kernel⟩,
   ⟨mbs (mb 0x22 0 [0xFF, 0x3F]) hm, 511, mb 0x22 0 [0xFF, 0x3F], m0, by decide +kernel⟩,
   ⟨mbs (mb 0x30 0 [0xFF, 0x0F, 1, 3, 0xFF, 0x3F]) hm, 511, mb 0x30 0 [0xFF, 0x0F, 1, 3, 0xFF, 0x3F], by decide +kernel⟩,
   ⟨mbs (mb 0x31 0 [0xFF, 0x0F, 1, 3]) hm, 511, mb 0x31 0 [0xFF, 0x0F, 1, 3], by decide +kernel⟩,
   ⟨mbs (mb 0x32 0 [0xFF, 0x0F]) fun d => d.onGaf fun g => { g with linear := [(4095, [1])] }, 511, mb 0x32 0 [0xFF, 0x0F],
     by decide +kernel⟩,
   ⟨mbs (mb 0x40 0 []), 511, mb 0x40 0 [], by decide +kernel⟩,
   ⟨mbs (mb 0x50 0 [0, 0, 0, 0, 0xFF, 1, 1]), 511, mb 0x50 0 [0, 0, 0, 0, 0xFF, 1, 1], by decide +kernel⟩,
   ⟨mbs (mb 0x50 0 [0, 0, 0, 0, 0xFF, 1, 1]) fun d => d.set Reg.GLB_BOOT_STATUS_STATE 0xD, 511, mb 0x50 0 [0, 0, 0, 0, 0xFF, 1, 1],
     by decide +kernel⟩,
   ⟨mbs (mb 0x51 128 [15, 7, 127, 0, 0, 128]), 511, mb 0x51 128 [15, 7, 127, 0, 0, 128], by decide +kernel⟩,
   ⟨mbs (mb 0x52 128 [15, 7, 127, 0, 0, 128]), 511, mb 0x52 128 [15, 7, 127, 0, 0, 128], by decide +kernel⟩,
   ⟨mbs (mb 0x60 16 [0xF0, 0xFF, 0x3F, 0, 16, 0, 0, 0]) (opn 35), 511, mb 0x60 16 [0xF0, 0xFF, 0x3F, 0, 16, 0, 0, 0], by decide +kernel⟩,
   ⟨mbs (mb 0x70 0 [1]), 511, mb 0x70 0 [1], by decide +kernel⟩,
   ⟨mbs (mb 0x71 16 [1, 0, 0, 0, 0, 0x10, 0, 0]) fun d => (d.put Reg.GLB_FLASH_WE_B_EN true), 511, mb 0x71 16 [1, 0, 0, 0, 0, 0x10, 0, 0],
     by decide +kernel⟩,
   ⟨mbs (mb 0x71 16 [2, 0, 0, 0, 0, 0x10, 0, 0]), 511, mb 0x71 16 [2, 0, 0, 0, 0, 0x10, 0, 0], by decide +kernel⟩,
   ⟨mbs (mb 0x72 0 [1, 0, 0, 0, 0, 0x10, 0, 0, 0, 0x10, 0, 0]) fun d => (d.put Reg.GLB_FLASH_WE_B_EN true), 511,
     mb 0x72 0 [1, 0, 0, 0, 0, 0x10, 0, 0, 0, 0x10, 0, 0], by decide +kernel⟩,
   ⟨mbs (mb 0x80 16 [0xFF, 0x0F, 1]) fun d => ((portOn 511 d).put (Reg.TILE_PORT_CFG_KIND 63 7) true).put (Reg.JFL_ROUTE_VALID 4095) true |>.set (Reg.JFL_ROUTE_LPORT 4095) 511,
     511, mb 0x80 16 [0xFF, 0x0F, 1], by decide +kernel⟩⟩

/-- Hypotheses of GafferCoresAct. -/
theorem wit_GafferCoresAct :
    (∃ (s : State) (id : Nat) (tag : Nat) (rest : List (Nat × Nat)) (o : HostOp), s.dev.gaffer.jm = (id, tag) :: rest ∧ s.dev.findOp id =
      some o) ∧
    (∃ (s : State) (n : Fin 16384) (m : Mep), s.dev.mep ↑n = some m ∧ s.dev.unit.muted = false) ∧
    (∃ (s : State) (n : Fin 16384) (m : Mep) (meg : List Byte) (lv : Fin 8) (pd : Fin 8) (mid : Fin 8192), s.dev.mep ↑n = some m ∧ slice meg
      0 48 = m.meg ∧ ↑lv = m.level ∧ ↑mid = m.rmepid ∧ ↑pd = m.period) ∧
    (∃ (s : State) (n : Fin 16384) (m : Mep) (meg : List Byte) (lv : Fin 8) (mid : Fin 8192), s.dev.mep ↑n = some m ∧ slice meg 0 48 = m.meg
      ∧ ↑lv = m.level ∧ ↑mid ≠ m.rmepid) ∧
    (∃ (s : State) (n : Fin 16384) (m : Mep), s.dev.mep ↑n = some m ∧ m.loc = false ∧ 7 * ccmTriple m.period * 65536 ≤ 6 * (s.dev.ft -
      m.lastRx)) ∧
    (∃ (s : State) (n : Fin 16384) (m : Mep), s.dev.mep ↑n = some m ∧ m.loc = false ∧ 6 * (s.dev.ft - m.lastRx) < 7 * ccmTriple m.period *
      65536) ∧
    (∃ (s : State) (e : List Byte), ({ id := 0, sq := 0, idx := 0, bno := 0, bytes := slice e 0 64 } : HostOp).byte 0 = 1 ∧ 60 ≤
      ({ id := 0, sq := 0, idx := 0, bno := 0, bytes := slice e 0 64 } : HostOp).field 16 2 ∧
      ({ id := 0, sq := 0, idx := 0, bno := 0, bytes := slice e 0 64 } : HostOp).field 16 2 ≤ 16379 ∧
      ({ id := 0, sq := 0, idx := 0, bno := 0, bytes := slice e 0 64 } : HostOp).field 8 8 +
      ({ id := 0, sq := 0, idx := 0, bno := 0, bytes := slice e 0 64 } : HostOp).field 16 2 ≤ 16777216 ∧ s.dev.inSelvedge = false ∧
      s.dev.coresRunning ≠ 0) ∧
    (∃ (s : State) (core : Fin 16), s.dev.get (Reg.SVC_CORE_STATE ↑core) = 1) ∧
    (∃ (s : State) (w : FlashWork), s.dev.gaffer.flashOp = some w) :=
  ⟨⟨mbs (mb 0x80 16 [0xFF, 0x0F, 1]) fun d => d.onGaf fun g => { g with jm := [(9, 5)] }, 9, 5, [], mb 0x80 16 [0xFF, 0x0F, 1],
     by decide +kernel⟩,
   ⟨gs, 16383, m0, by decide +kernel⟩,
   ⟨gs, 16383, m0, zeros 48, 7, 7, 8191, by decide +kernel⟩,
   ⟨gs, 16383, m0, zeros 48, 7, 8190, by decide +kernel⟩,
   ⟨wit fun d => { gs.dev with ft := 10 ^ 20 }.onGaf fun g => { g with mep := [(16383, some { m0 with loc := false })] }, 16383,
     { m0 with loc := false }, by decide +kernel⟩,
   ⟨wit fun d => gs.dev.onGaf fun g => { g with mep := [(16383, some { m0 with loc := false })] }, 16383, { m0 with loc := false },
     by decide +kernel⟩,
   ⟨gs, sfr, by decide +kernel⟩,
   ⟨gs, 15, by decide +kernel⟩,
   ⟨mbs (mb 0x72 0 []) fun d => d.onGaf fun g => { g with flashOp := some ⟨9, 1, 0x1000, 0x1000, none⟩ }, ⟨9, 1, 0x1000, 0x1000, none⟩,
     by decide +kernel⟩⟩

/-- Hypotheses of RecordsKept. -/
theorem wit_RecordsKept :
    (∃ (s : State), s.dev.stream = true ∧ s.dev.used ≠ 0 ∧ s.dev.flag Reg.HQ_GLB_CFG_AUDIT_QV = true ∧ s.dev.sqEn (s.dev.get
      Reg.HQ_GLB_CFG_AUDIT_Q) = true ∧ s.dev.dmaOk (s.dev.owner (s.dev.get Reg.HQ_GLB_CFG_AUDIT_Q)) = true ∧ s.dev.lineOpen 34 = true ∧
      (s.dev.bufAppend (s.dev.get Reg.HQ_GLB_CFG_AUDIT_Q) (slice (mget (fun x => []) s.dev.audit.ring (s.dev.rd Reg.AUD_RP % 65536)) 0
      32)).fst = true ∧ s.dev.audit.unlogged = 0) ∧
    (∃ (s : State), s.dev.audit.sumOpen = true ∧ s.dev.sumMayClose = true) ∧
    (∃ (s : State), s.dev.ledger.waitDelta = true) ∧
    (∃ (s : State), s.dev.ledger.waitDelta = true) ∧
    (∃ (s : State), s.dev.ledger.isOpen = true ∧ s.dev.ledger.deferred = true ∧ s.dev.ledger.erasing = false ∧ s.dev.ledger.waitDelta =
      false) ∧
    (∃ (s : State), s.dev.ledger.erasing = true ∧ s.dev.ledger.ckptRun = false ∧ s.dev.ledger.evWait = []) :=
  ⟨⟨aud, by decide +kernel⟩,
   ⟨wit fun d => { ready d with ft := 2 ^ 50, audit := { sumOpen := true }, ledger := { isOpen := true, sumIdx := 4095 } },
     by decide +kernel⟩,
   ⟨led fun l => { l with waitDelta := true, next := 15 }, by decide +kernel⟩,
   ⟨led fun l => { l with waitDelta := true, next := 15 }, by decide +kernel⟩,
   ⟨led fun l => { l with deferred := true, next := 15 }, by decide +kernel⟩,
   ⟨led fun l => { l with erasing := true, next := 15 }, by decide +kernel⟩⟩

/-- Hypotheses of TelemetryAndFuses. -/
theorem wit_TelemetryAndFuses :
    (∃ (s : State) (k : Fin 4), s.dev.flag (Reg.PMC_TEL_CFG_EN ↑k) = true ∧ (s.dev.get (Reg.PMC_TEL_WIDX_WIDX ↑k) + 65536 - s.dev.get
      (Reg.PMC_TEL_RIDX_RIDX ↑k)) % 65536 + (lget s.dev.tel.wait ↑k).length < 2 ^ s.dev.get (Reg.PMC_TEL_CFG_LOG2_N ↑k)) ∧
    (∃ (s : State) (k : Fin 4), s.dev.flag (Reg.PMC_TEL_CFG_EN ↑k) = true ∧ 2 ^ s.dev.get (Reg.PMC_TEL_CFG_LOG2_N ↑k) ≤ (s.dev.get
      (Reg.PMC_TEL_WIDX_WIDX ↑k) + 65536 - s.dev.get (Reg.PMC_TEL_RIDX_RIDX ↑k)) % 65536 + (lget s.dev.tel.wait ↑k).length) ∧
    (∃ (s : State) (cmd : Nat) (slot : Nat), s.dev.fuses.busy = some (cmd, slot) ∧ cmd = 1 ∧ slot = 0) ∧
    (∃ (s : State) (cmd : Nat) (slot : Nat), s.dev.fuses.busy = some (cmd, slot) ∧ cmd = 2) ∧
    (∃ (s : State) (cmd : Nat) (slot : Nat), s.dev.fuses.busy = some (cmd, slot) ∧ cmd = 3) :=
  ⟨⟨tel, 3, by decide +kernel⟩,
   ⟨wit fun d => ((tel.dev.set (Reg.PMC_TEL_WIDX_WIDX 3) 10).set (Reg.PMC_TEL_RIDX_RIDX 3) 65290), 3, by decide +kernel⟩,
   ⟨fus 1 0, 1, 0, by decide +kernel⟩,
   ⟨fus 2 31, 2, 31, by decide +kernel⟩,
   ⟨fus 3 0, 3, 0, by decide +kernel⟩⟩

/-- Hypotheses of SysReset. -/
theorem wit_SysReset :
    (∃ (s : State), s.dev.ledger.ckptRun = false ∧ s.dev.gaffer.flashOp = none ∧ s.dev.fuses.busy = none) ∧
    (∃ (s : State), s.dev.unit.released = false ∧ s.dev.power.out = [] ∧ s.dev.envCause = none) :=
  ⟨⟨busy, by decide +kernel⟩,
   ⟨wit id, by decide +kernel⟩⟩

/-- Hypotheses of CastOnSteps. -/
theorem wit_CastOnSteps :
    (∃ (s : State), s.dev.boot.run = true ∧ s.dev.boot? = 0 ∧ s.dev.power.avsDue = false ∧ s.dev.power.avsWait = false ∧ s.dev.power.avsFail
      = false) ∧
    (∃ (s : State), s.dev.boot.run = true ∧ s.dev.boot? = 2 ∧ s.dev.power.waking = []) ∧
    (∃ (s : State), s.dev.boot.run = true ∧ s.dev.boot? = 3 ∧ s.dev.flashOk = true ∧ s.dev.boot.fails = 0) ∧
    (∃ (s : State), s.dev.boot.run = true ∧ s.dev.boot? = 5 ∧ s.dev.boot.fails = 0) ∧
    (∃ (s : State), s.dev.boot.run = true ∧ s.dev.boot? = 7 ∧ (∀ (k : Nat), k < 4 → s.dev.stackState k ≠ 1)) ∧
    (∃ (s : State), s.dev.boot.run = true ∧ s.dev.boot? = 10 ∧ s.dev.flag Reg.SVC_STATUS_READY = true) ∧
    (∃ (s : State), s.dev.boot.run = true ∧ s.dev.boot? = 11) ∧
    (∃ (s : State), s.dev.boot.run = true ∧ s.dev.boot? = 1) :=
  ⟨⟨wit fun d => { d with boot := { run := true } }, by decide +kernel⟩,
   ⟨boot 2, by decide +kernel⟩,
   ⟨flashed, by decide +kernel⟩,
   ⟨boot 5, by decide +kernel⟩,
   ⟨boot 7, by decide +kernel⟩,
   ⟨boot 10 id fun d => d.put Reg.SVC_STATUS_READY true, by decide +kernel⟩,
   ⟨boot 11, by decide +kernel⟩,
   ⟨boot 1, by decide +kernel⟩⟩

/-- Hypotheses of CastOnTimersAndRecords. -/
theorem wit_CastOnTimersAndRecords :
    (∃ (s : State) (n : Nat), s.dev.boot.left = some n ∧ n < 16 ∧ s.dev.envCause = none) ∧
    (∃ (s : State) (n : Nat), s.dev.boot.left = some n ∧ n < 16 ∧ s.dev.envCause.isSome = true) ∧
    (∃ (s : State), s.dev.boot.run = true ∧ s.dev.boot.watchdog = true ∧ s.dev.boot.fails = 0) ∧
    (∃ (s : State) (r : Rec) (d : Device), s.dev.nextRec = some r ∧ s.dev.applying = true ∧ r.type = 4 ∧ s.dev.recApply r = (RecEnd.waits,
      d) ∧ d.boot.fails = 0) ∧
    (∃ (s : State), s.dev.boot.fwWait = true ∧ s.dev.boot.run = true ∧ s.dev.boot.fails = 0) ∧
    (∃ (s : State) (r : Rec), s.dev.nextRec = some r ∧ s.dev.applying = true ∧ s.dev.canLog = true ∧ (r.type = 1 ∨ r.type = 2 ∨ r.type = 3 ∨
      r.type = 16)) ∧
    (∃ (s : State) (r : Rec), s.dev.nextRec = some r ∧ s.dev.applying = true ∧ s.dev.canLog = true ∧ r.type = 255) ∧
    (∃ (s : State) (r : Rec), s.dev.nextRec = some r ∧ s.dev.applying = true ∧ s.dev.canLog = true ∧ r.type = 4) ∧
    (∃ (s : State), s.dev.boot.fwWait = true ∧ s.dev.boot? = 10) :=
  ⟨⟨boot 3 (fun b => { b with left := some 15 }), 15, by decide +kernel⟩,
   ⟨boot 3 (fun b => { b with left := some 15 }) fun d => d.put (Reg.SRV_RAIL_LIVE_OUT 31) true, 15, by decide +kernel⟩,
   ⟨boot 7 (fun b => { b with watchdog := true }), by decide +kernel⟩,
   ⟨app 4 wf, ⟨4, 0, wf⟩, ((app 4 wf).dev.recApply ⟨4, 0, wf⟩).2, by decide +kernel⟩,
   ⟨boot 10 fun b => { b with fwWait := true }, by decide +kernel⟩,
   ⟨app 1 rg, ⟨1, 0, rg⟩, by decide +kernel⟩,
   ⟨app 0xFF rg2, ⟨0xFF, 0, rg2⟩, by decide +kernel⟩,
   ⟨app 4 wf0, ⟨4, 0, wf0⟩, by decide +kernel⟩,
   ⟨boot 10 (fun b => { b with fwWait := true }), by decide +kernel⟩⟩

/-- Hypotheses of DomainsWakeAndSleep. -/
theorem wit_DomainsWakeAndSleep :
    (∃ (s : State) (n : Fin 116), ↑n ∈ s.dev.power.waking ∧ s.dev.boot.run = false) ∧
    (∃ (s : State) (n : Fin 116), ↑n ∈ s.dev.power.waking ∧ s.dev.boot.run = true) ∧
    (∃ (s : State) (x : Fin 64), s.dev.tileIdle ↑x = true) ∧
    (∃ (s : State), s.dev.power.perst = false) ∧
    (∃ (s : State), s.dev.pwrOn 112 = false) :=
  ⟨⟨pw fun p => { p with waking := [115] }, 115, by decide +kernel⟩,
   ⟨pw (fun p => { p with waking := [0, 115] }) fun d => { d with boot := { run := true } }, 0, by decide +kernel⟩,
   ⟨pw id, 63, by decide +kernel⟩,
   ⟨pw id, by decide +kernel⟩,
   ⟨pw id fun d => d.pwrSet 112 false, by decide +kernel⟩⟩

/-- Hypotheses of SensorsShow. -/
theorem wit_SensorsShow :
    (∃ (s : State), s.dev.boot.run = false) ∧
    (∃ (s : State) (n : Fin 32) (up : Bool), s.dev.flag (Reg.SRV_RAIL_LIVE_OUT ↑n) = false ∧ s.dev.canCross (↑n) up = true ∧ s.dev.boot.run
      = false ∧ s.dev.boot? = 12 ∧ s.dev.get Reg.UNT_STATUS_CRIT_CAUSE = 0) ∧
    (∃ (s : State) (n : Fin 32) (a : Nat) (up : Bool), mget (fun x => none) s.dev.power.out ↑n = some (a, up)) :=
  ⟨⟨pw id, by decide +kernel⟩,
   ⟨pw id fun d => d.set (Reg.SRV_RAIL_LIM_HI_MV 31) 1000, 31, true, by decide +kernel⟩,
   ⟨pw (fun p => { p with out := [(31, some (5, true))] }) fun d => d.put (Reg.SRV_RAIL_LIVE_OUT 31) true, 31, 5, true, by decide +kernel⟩⟩

/-- Hypotheses of HeatAndClocks. -/
theorem wit_HeatAndClocks :
    (∃ (s : State), s.dev.boot.run = false) ∧
    (∃ (s : State), 4 * ↑(s.dev.get Reg.PWR_THERM_SHUT_C) < s.dev.tempMax ∧ s.dev.boot.run = false ∧ s.dev.boot? = 12) ∧
    (∃ (s : State), s.dev.tempMax ≤ 4 * ↑(s.dev.get Reg.PWR_THERM_SHUT_C)) ∧
    (∃ (i : Fin 18), ↑i = 17) ∧
    (∃ (i : Fin 18), ↑i = 16) ∧
    (∃ (i : Fin 18), ↑i < 16) ∧
    (∃ (s : State) (i : Fin 18), s.dev.refUp ↑i = false ∧ ↑i = 17) ∧
    (∃ (s : State) (i : Fin 18), s.dev.refUp ↑i = false ∧ ↑i = 16) ∧
    (∃ (s : State) (i : Fin 18), s.dev.refUp ↑i = false ∧ ↑i < 16) :=
  ⟨⟨th id, by decide +kernel⟩,
   ⟨th fun d => d.set Reg.SRV_TEMP_MAX_TEMP 441, by decide +kernel⟩,
   ⟨th fun d => d.set Reg.SRV_TEMP_MAX_TEMP 440, by decide +kernel⟩,
   ⟨17, by decide +kernel⟩,
   ⟨16, by decide +kernel⟩,
   ⟨15, by decide +kernel⟩,
   ⟨pw (fun p => { p with refDown := [(17, true)] }), 17, by decide +kernel⟩,
   ⟨pw (fun p => { p with refDown := [(16, true)] }), 16, by decide +kernel⟩,
   ⟨pw (fun p => { p with refDown := [(15, true)] }), 15, by decide +kernel⟩⟩

/-- Hypotheses of VoltageScaling. -/
theorem wit_VoltageScaling :
    (∃ (s : State) (n : Nat), n ∈ coreSensors ∧ s.dev.power.avsDue = true ∧ 40 ≤ min s.dev.power.avsOld s.dev.avsTarget ∧ max
      s.dev.power.avsOld s.dev.avsTarget + 40 < 2 ^ 16 ∧ s.dev.avsTarget < 1024) ∧
    (∃ (s : State) (n : Nat), n ∈ coreSensors ∧ s.dev.power.avsWait = true ∧ s.dev.boot.run = false) ∧
    (∃ (s : State) (n : Nat), n ∈ coreSensors ∧ s.dev.power.avsNarrow = true ∧ 40 ≤ s.dev.get Reg.PWR_AVS_TARGET_MV) ∧
    (∃ (s : State) (n : Nat), n ∈ coreSensors ∧ s.dev.power.avsFail = true ∧ s.dev.power.avsWait = false) ∧
    (∃ (s : State) (n : Nat), n ∈ coreSensors ∧ s.dev.ledger.ckptRun = false ∧ s.dev.gaffer.flashOp = none) :=
  ⟨⟨av fun p => { p with avsDue := true }, 22, by decide +kernel⟩,
   ⟨av fun p => { p with avsWait := true }, 22, by decide +kernel⟩,
   ⟨av fun p => { p with avsNarrow := true }, 22, by decide +kernel⟩,
   ⟨av fun p => { p with avsFail := true }, 22, by decide +kernel⟩,
   ⟨av fun p => { p with avsFail := true }, 22, by decide +kernel⟩⟩

/-- Hypotheses of SurveyRecords. -/
theorem wit_SurveyRecords :
    (∃ (s : State) (lane : Fin 512) (state : Fin 3) (an : Bool), ↑lane ∈ s.dev.survey.lanes ∧ (∃ l, l ∈ s.dev.survey.lanes ∧ l ≠ ↑lane) ∧
      state = 0 ∧ an = true ∧ s.dev.surveyPort ↑lane = none ∧ ↑state ≠ 1) ∧
    (∃ (s : State) (lane : Fin 512) (an : Bool), ↑lane ∈ s.dev.survey.lanes ∧ (∃ l, l ∈ s.dev.survey.lanes ∧ l ≠ ↑lane) ∧ an = true ∧
      s.dev.surveyPort ↑lane = none) ∧
    (∃ (s : State) (m : Fin 16), s.dev.survey.masters = [↑m] ∧ s.dev.survey.lanes = [] ∧ s.dev.gaffer.surveyOps = []) ∧
    (∃ (s : State) (c : Fin 128), s.dev.inCastOn = false ∧ s.dev.inSelvedge = false ∧ s.dev.survey.masters.contains (↑c / 8) = false ∧
      s.dev.get (Reg.SRV_MODULE_STATE ↑c) ≠ 0) ∧
    (∃ (s : State) (p : Fin 512), ↑p ∈ s.dev.survey.waiting ∧ s.dev.flag Reg.SRV_CTRL_AUTO_RESURVEY = true ∧ s.dev.flag Reg.SRV_STATUS_BUSY
      = false ∧ s.dev.canDefer = true ∧ s.dev.inCastOn = false ∧ s.dev.inSelvedge = false) :=
  ⟨⟨sv (fun x => { x with lanes := [511, 7] }) (fun d => d.put Reg.SRV_STATUS_BUSY true), 511, 0, true, by decide +kernel⟩,
   ⟨sv (fun x => { x with lanes := [511, 7] }) (fun d => d.put Reg.SRV_STATUS_BUSY true), 7, true, by decide +kernel⟩,
   ⟨sv (fun x => { x with masters := [15] }) (fun d => (d.put Reg.SRV_STATUS_BUSY true).put Reg.SRV_CTRL_START true), 15,
     by decide +kernel⟩,
   ⟨sv id (fun d => d.set (Reg.SRV_MODULE_STATE 127) 1), 127, by decide +kernel⟩,
   ⟨sv (fun x => { x with waiting := [511] }) (fun d => portOn 511 (d.put Reg.SRV_CTRL_AUTO_RESURVEY true)), 511, by decide +kernel⟩⟩

/-- Hypotheses of IdleStep. -/
theorem wit_IdleStep :
    ∃ (s : State), s.pending = [] ∧ (s.dev.unit.snap = none ∧ (s.dev.role ≠ roleStandby ∨ s.dev.unit.live = [] ∧ s.dev.unit.syncQ = [])) ∧
      s.dev.flag Reg.TIM_STATUS_CORE_CLK = false :=
    ⟨wit ready, by decide +kernel⟩

/-- Hypotheses of RefusedWrites. -/
theorem wit_RefusedWrites :
    (∃ (s : State) (rq : Requester) (size : BitVec 4) (full : Bool), s.dev.notSeen rq = false ∧ ¬(full = true ∧ (size = 4 ∨ size = 8)) ∧
      s.dev.flag Reg.GLB_BUS_ERR_SRC_VALID = false) ∧
    (∃ (s : State) (rq : Requester) (off : BitVec 28) (size : BitVec 4) (full : Bool), s.dev.notSeen rq = false ∧ full = true ∧ (size = 4 ∨
      size = 8) ∧ off.toNat % size.toNat ≠ 0 ∧ s.dev.flag Reg.GLB_BUS_ERR_SRC_VALID = false) ∧
    (∃ (s : State) (rq : Requester) (off : BitVec 28) (size : BitVec 4) (full : Bool), s.dev.notSeen rq = false ∧ full = true ∧ (size = 4 ∨
      size = 8) ∧ off.toNat % size.toNat = 0 ∧ (mapRow off.toNat = none ∨ sliceZeroOnly off.toNat = true) ∧ s.dev.flag
      Reg.GLB_BUS_ERR_SRC_VALID = false) ∧
    (∃ (s : State) (rq : Requester) (off : BitVec 28) (size : BitVec 4) (full : Bool) (m : MapRow), s.dev.notSeen rq = false ∧ full = true ∧
      (size = 4 ∨ size = 8) ∧ off.toNat % size.toNat = 0 ∧ mapRow off.toNat = some m ∧ s.dev.answers m = true ∧ sliceZeroOnly off.toNat
      = false ∧ s.dev.mayReach rq off.toNat m = false ∧ s.dev.flag Reg.GLB_BUS_ERR_SRC_VALID = false) ∧
    (∃ (s : State) (rq : Requester) (off : BitVec 28) (size : BitVec 4) (full : Bool), s.dev.notSeen rq = false ∧ (s.dev.accessError rq
      off.toNat size.toNat full = none ∧ inBits off.toNat = false) ∧ regAt off.toNat = none ∧ s.dev.flag Reg.GLB_BUS_ERR_SRC_VALID =
      false) ∧
    (∃ (s : State) (rq : Requester) (off : BitVec 28) (size : BitVec 4) (full : Bool), s.dev.notSeen rq = false ∧ (s.dev.accessError rq
      off.toNat size.toNat full = none ∧ inBits off.toNat = false) ∧ (∃ r, regAt off.toNat = some r) ∧ s.dev.bootBars rq off.toNat =
      true ∧ s.dev.flag Reg.GLB_BUS_ERR_SRC_VALID = false) ∧
    (∃ (s : State) (rq : Requester) (off : BitVec 28) (size : BitVec 4) (full : Bool) (data : BitVec 64) (r : RegRow) (is : List Nat),
      s.dev.notSeen rq = false ∧ (s.dev.accessError rq off.toNat size.toNat full = none ∧ inBits off.toNat = false) ∧ regAt off.toNat =
      some (r, is, false) ∧ r.cpw = 0 ∧ r.w64 = false ∧ winAt off.toNat = none ∧ size = 4 ∧ s.dev.bootBars rq off.toNat = false ∧
      s.dev.flag Reg.GLB_LOCK_LOCKED = true ∧ (s.dev.rd off.toNat ^^^ r.next off.toNat (s.dev.rd off.toNat) (data.toNat % 2 ^ 32) (2 ^
      32 - 1)) &&& r.rwl ≠ 0 ∧ s.dev.flag Reg.GLB_BUS_ERR_SRC_VALID = false) :=
  ⟨⟨wit ready, .gaffer 15, 3, false, by decide +kernel⟩,
   ⟨wit ready, .gaffer 15, 0xFFFFFFE, 4, true, by decide +kernel⟩,
   ⟨wit ready, .gaffer 15, 0xFFFFFFC, 4, true, by decide +kernel⟩,
   ⟨wit fun d => { ready d with host := { vfEn := true, mse := [(63, true)], bme := [(0, true)] } }, .vf 63 9, 0x100, 4, true,
     (mapRow 0x100).getD ⟨0,0,0,true,true⟩,
     ⟨by decide +kernel, rfl, by decide, by decide, some_getD _ _ (by decide +kernel), by decide +kernel, by decide +kernel, by decide +kernel⟩⟩,
   ⟨wit ready, .gaffer 15, 0xFFC, 4, true, by decide +kernel⟩,
   ⟨wit fun d => (ready d).set Reg.GLB_BOOT_STATUS_STATE 3, .gaffer 15, BitVec.ofNat 28 (Reg.PRT_GRP_CFG 7), 4, true,
     ⟨by decide +kernel, by decide +kernel, Option.isSome_iff_exists.mp (by decide +kernel), by decide +kernel, by decide +kernel⟩⟩,
   ⟨wit fun d => (ready d).put Reg.GLB_LOCK_LOCKED true, .gaffer 15, BitVec.ofNat 28 (Reg.SRV_RAIL_LIM 31), 4, true, 0x80000000, rl.1,
     rl.2.1,
     ⟨by decide +kernel, by decide +kernel, railLim31, by decide +kernel, by decide +kernel, by decide +kernel, rfl, by decide +kernel, by decide +kernel, by decide +kernel, by decide +kernel⟩⟩⟩

/-- Hypotheses of ShownAfterEveryStep and MemoryStaysCanonical: a canonical state that steps on. -/
theorem wit_ShownAfterEveryStep : ∃ s t : State, Memory.wf s.dev ∧ step s = .next t :=
  ⟨State.reset, _, by decide +kernel, rfl⟩

end Sys2Proof.Tests
end

section
/-!
PROOF. The rows of the register map keep RW bits apart (R15), and what a 32-bit write that the bus performs does: inversion of the bus
write down to the performed write of one register.
-/
namespace Sys2Proof.Machine

/-! ### The rows of the register map -/

/-- R15: no bit of the register is both RW and W1S or W1C, and a complement-pair register has no RW bit. -/
def RegRow.rwApart (r : RegRow) : Bool := r.rw &&& r.w1s == 0 && r.rw &&& r.w1c == 0 && (r.cpw == 0 || r.rw == 0)

theorem findRow_mem {rs : List RegRow} {off : Nat} {x : RegRow × List Nat × Bool} (h : findRow rs off = some x) : x.1 ∈ rs := by
  induction rs with
  | nil => cases h
  | cons r rs ih =>
    rw [findRow] at h
    split at h
    · cases h; exact List.mem_cons_self ..
    · exact List.mem_cons_of_mem _ (ih h)

theorem rwApart_of_ite {c : Prop} [Decidable c] {a rs : List RegRow} {o : Option (List RegRow)}
    (ha : a.all RegRow.rwApart = true) (ho : o = some rs → rs.all RegRow.rwApart = true)
    (h : (if c then some a else o) = some rs) : rs.all RegRow.rwApart = true := by
  by_cases hc : c
  · rw [if_pos hc] at h; exact Option.some.inj h ▸ ha
  · rw [if_neg hc] at h; exact ho h

/-- Every row of the register map keeps its RW bits apart from the others. -/
theorem blockRows_rwApart {off : Nat} {rs : List RegRow} : blockRows off = some rs → rs.all RegRow.rwApart = true := by
  unfold blockRows
  repeat refine rwApart_of_ite (by decide +kernel) ?_
  exact fun h => nomatch h

theorem regAt_rwApart {off : Nat} {x : RegRow × List Nat × Bool} (h : regAt off = some x) : x.1.rwApart = true := by
  unfold regAt at h
  split at h
  · next rs hb => exact List.all_eq_true.mp (blockRows_rwApart hb) x.1 (findRow_mem h)
  · cases h

/-- No bit is set in two numbers that share none. -/
theorem testBit_apart {a b i : Nat} (h : a &&& b = 0) (ha : a.testBit i = true) : b.testBit i = false := by
  have := congrArg (Nat.testBit · i) h
  simpa [ha] using this

theorem testBit_maskOut (v m i : Nat) : (maskOut v m).testBit i = (v.testBit i && !m.testBit i) := by
  simp only [maskOut, Nat.testBit_xor, Nat.testBit_and]
  cases v.testBit i <;> simp

/-- R15: an RW bit that the write carries takes what was written. -/
theorem RegRow.testBit_next_rw {r : RegRow} {base i t : Nat} (old inc : Nat) (hres : reservedReg base = false)
    (ha : r.rwApart = true) (hrw : r.rw.testBit i = true) (ht : t.testBit i = true) :
    (r.next base old inc t).testBit i = inc.testBit i := by
  simp only [RegRow.rwApart, Bool.and_eq_true, beq_iff_eq] at ha
  obtain ⟨⟨hs, hc⟩, -⟩ := ha
  simp only [RegRow.next, RegRow.data, hres, Bool.false_eq_true, if_false, testBit_maskOut, Nat.testBit_or, Nat.testBit_and,
    testBit_apart hs hrw, testBit_apart hc hrw, hrw, ht]
  simp

/-- The low word after a write of all its bits agrees with the written word in the RW bits. -/
theorem RegRow.next_rw {r : RegRow} {base : Nat} (old data : Nat) (hres : reservedReg base = false)
    (ha : r.rwApart = true) :
    r.next base old (data % 2 ^ 32) (2 ^ 32 - 1) % 2 ^ 32 &&& (r.rw % 2 ^ 32) = data &&& (r.rw % 2 ^ 32) := by
  apply Nat.eq_of_testBit_eq
  intro i
  simp only [Nat.testBit_and, Nat.testBit_mod_two_pow]
  by_cases hi : i < 32
  · cases hrw : r.rw.testBit i
    · simp
    · rw [RegRow.testBit_next_rw old _ hres ha hrw (by rw [Nat.testBit_two_pow_sub_one]; simpa using hi)]
      rw [Nat.testBit_mod_two_pow]; simp [hi]
  · simp [hi]

/-! ### A 32-bit write that nothing refuses -/

/-- The bus performs a 32-bit write to a plain register as a write to that register. -/
theorem Device.busWriteR_ok {d : Device} {rq : Requester} {hw full : Bool} {off data : Nat} {x : RegRow × List Nat × Bool}
    (h : (d.busWriteR rq hw off 4 full data).1 = .ok) (hb : inBits off = false) (hx : regAt off = some x) (hc : x.1.cpw = 0) :
    ∃ e, (d.interleave off).write1 rq hw off 4 data (2 ^ 32 - 1) false = .ok e ∧ (d.busWriteR rq hw off 4 full data).2 = e := by
  obtain ⟨r, is, up⟩ := x
  unfold Device.busWriteR at h ⊢
  split at h
  · cases h
  · next ha =>
    have hc : r.cpw = 0 := hc
    simp only [hb, hx, hc, Bool.false_eq_true, if_false, true_or, if_true, ne_eq, not_true_eq_false] at h ⊢
    split at h
    · cases h
    · next e he => exact ⟨e, he, rfl⟩

/-- A write to the low word of a register that is no window: it is performed with the value that R15 gives. -/
theorem Device.write1_ok {d e : Device} {rq : Requester} {hw via : Bool} {off data : Nat} {r : RegRow} {is : List Nat}
    (h : d.write1 rq hw off 4 data (2 ^ 32 - 1) via = .ok e) (hx : regAt off = some (r, is, false)) (hwin : winAt off = none)
    (hg : isGrpState off = false) :
    ∃ (w : WriteIn) (audited upper : Bool) (old : Nat), w.base = off ∧
      w.new = r.next off old (data % 2 ^ 32) (2 ^ 32 - 1) ∧ e = d.perform w audited via upper r.wo := by
  unfold Device.write1 at h
  simp only [hx, hwin, hg, Bool.false_eq_true, if_false] at h
  generalize (if r.w64 = true then d.rd64 off else d.rd off) = old at h
  split at h
  · cases h
  split at h
  · cases h
  split at h
  · cases h
  split at h
  · cases h
  · cases h
    refine ⟨_, _, _, old, rfl, ?_, rfl⟩
    have hmask : data % 2 ^ (8 * 4) &&& 2 ^ 32 - 1 = data % 2 ^ 32 :=
      (Nat.and_two_pow_sub_one_eq_mod _ 32).trans (Nat.mod_mod data (2 ^ 32))
    exact congrArg (r.next off old · (2 ^ 32 - 1)) hmask

end Sys2Proof.Machine
end

section
/-!
PROOF. What logging and replicating a write leave alone, and that a performed write of a plain word leaves in its RW bits what was
written (R15, R463).
-/
namespace Sys2Proof.Machine

/-! ### What logging a write leaves alone -/

section
variable {k : Nat}

theorem Device.rd_closeSummary (d : Device) (h : ¬ logWord k) : d.closeSummary.rd k = d.rd k := by
  unfold Device.closeSummary
  split
  · simp only [logWord] at h
    refine Device.rd_inc_ne _ _ _ ?_ (.inr ?_) <;> simp only [Reg.AUD_STAT_COUNT, Reg.AUD_STAT] <;> omega
  · rfl

theorem Device.rd_foldSummary (d : Device) (aseq origin : Nat) (rej : Bool) (bs : List Byte) (h : ¬ logWord k) :
    (d.foldSummary aseq origin rej bs).rd k = d.rd k := by
  have closed (c : Prop) [Decidable c] (e : Device) : (if c then e.closeSummary else e).rd k = e.rd k := by
    split
    · exact e.rd_closeSummary h
    · rfl
  exact closed _ _

theorem Device.rd_ringWrite (d : Device) (kind origin oid : Nat) (rej : Bool) (body : List Byte) (h : ¬ logWord k) :
    (d.ringWrite kind origin oid rej body).rd k = d.rd k := by
  have hk : k ≠ Reg.AUD_WP ∧ k ≠ Reg.AUD_RP ∧ k ≠ Reg.AUD_STAT 0 ∧ k ≠ Reg.AUD_STAT 0 + 4 := by
    simp only [logWord] at h
    simp only [Reg.AUD_WP, Reg.AUD_RP, Reg.AUD_STAT]
    omega
  obtain ⟨hwp, hrp, hs, hs4⟩ := hk
  unfold Device.ringWrite
  dsimp only
  rw [Device.rd_foldSummary _ _ _ _ _ h, Device.rd_inc_ne _ _ _ hs (.inr hs4),
    Device.when_keeps (·.rd k) _ _ (fun d => d.rd_wr_ne _ hrp), Device.rd_wr_ne _ _ hwp]
  rfl

/-- An audit record changes no register but those of the log. -/
theorem Device.rd_auditBy (d : Device) (rq : Requester) (kind : Nat) (body : List Byte) (h : ¬ logWord k) :
    (d.auditBy rq kind body).rd k = d.rd k := by
  have ho : d.overflowRecord.rd k = d.rd k := by
    unfold Device.overflowRecord
    dsimp only
    split
    · rfl
    · rw [Device.rd_ringWrite _ _ _ _ _ _ h]; rfl
  unfold Device.auditBy
  split
  · rfl
  · rw [Device.recordBy, Device.record, Device.rd_ringWrite _ _ _ _ _ _ h, ho]

@[simp] theorem Device.rd_punty (d : Device) (type pseq : Nat) (body : List Byte) : (d.punty type pseq body).rd k = d.rd k := by
  unfold Device.punty
  split <;> rfl

@[simp] theorem Device.rd_replMark (d : Device) : d.replMark.rd k = d.rd k := by
  unfold Device.replMark
  dsimp only
  split <;> rfl

/-- Replication changes no register but the last PSEQ and the count of records. -/
theorem Device.rd_replPush (d : Device) (r : List Byte) (hs : k ≠ Reg.UNT_PSEQ_SENT) (hc : ¬ ofReg (Reg.UNT_STAT 4) k) :
    (d.replPush r).rd k = d.rd k := by
  simp only [ofReg, not_or] at hc
  unfold Device.replPush
  split
  · rfl
  split
  · dsimp only
    rw [Device.rd_punty, Device.rd_replMark, Device.rd_inc_ne _ _ _ hc.1 (.inr hc.2), Device.onUnit_rd, Device.rd_wr_ne _ _ hs]
  · rfl

end

/-! ### What a performed write stores -/

theorem Device.rd_storeReg (d : Device) (w : WriteIn) : (d.storeReg w).rd w.base = w.new % 2 ^ 32 := by
  unfold Device.storeReg
  split
  · rw [Device.wr64, Device.rd_wr_ne _ _ (by omega), Device.rd_wr_same]
  · rw [Device.rd_wr_same]

/-- The block at an offset stores a write there as it comes, whatever else it does with it. -/
def storesPlain (off : Nat) : Prop := ∀ (d : Device) (w : WriteIn) (upper : Bool), w.base = off → (d.store w upper).rd off = w.new % 2 ^ 32

/-- A performed write to a register that stores what comes leaves the new value in it. A write that is logged after its effect (a register
at 0x5010 of its 64 KiB, a register of the time unit) must not lie where the log itself writes. -/
theorem Device.rd_perform (d : Device) (w : WriteIn) (audited via upper : Bool) (wo : Nat) (hst : storesPlain w.base)
    (hlate : w.base < 0x60000 ∧ w.base % 0x10000 ≠ 0x5010 ∨ 0x80000 ≤ w.base) :
    (d.perform w audited via upper wo).rd w.base = w.new % 2 ^ 32 := by
  unfold Device.perform
  dsimp only
  split
  · next hl =>
    have hk : ¬ logWord w.base ∧ w.base ≠ Reg.UNT_PSEQ_SENT ∧ ¬ ofReg (Reg.UNT_STAT 4) w.base := by
      simp only [Bool.or_eq_true, Bool.and_eq_true, beq_iff_eq, decide_eq_true_eq] at hl
      simp only [logWord, ofReg, Reg.UNT_PSEQ_SENT, Reg.UNT_STAT]
      omega
    obtain ⟨hlog, hs, hc⟩ := hk
    rw [Device.when_keeps (·.rd w.base) _ _ (fun d => d.rd_replPush _ hs hc),
      Device.when_keeps (·.rd w.base) _ _ (fun d => d.rd_auditBy _ _ _ hlog), hst _ _ _ rfl]
  · exact hst _ _ _ rfl

/-- What makes the word at an offset a plain one on the register bus: no bit word, no window, no word that several windows share, no
reserved register with RW bits, none that follows the state, one that its block stores as it comes, and none that the log of its own
write may reach after its effect. -/
structure PlainWord (off : Nat) : Prop where
  noBit : inBits off = false
  noWin : winAt off = none
  noGrp : isGrpState off = false
  unreserved : reservedReg off = true → ∀ x ∈ regAt off, x.1.rw = 0
  notShown : off ∉ shownRegs
  stores : storesPlain off
  logFirst : off < 0x60000 ∧ off % 0x10000 ≠ 0x5010 ∨ 0x80000 ≤ off

/-- R15, R463: after a performed 32-bit write of a plain word every RW bit of it holds what was written. -/
theorem PlainWord.took {off : Nat} (p : PlainWord off) {d : Device} {rq : Requester} {data : Nat} (h : performs d rq off 4 data) :
    tookWord (d.busWrite rq off 4 data).settle off data := by
  rintro ⟨r, is, up⟩ hx (rfl : up = false)
  have hx : regAt off = some (r, is, false) := hx
  have ha := regAt_rwApart hx
  obtain ⟨hseen, hok⟩ := h
  rw [Device.busWrite, hseen, if_neg Bool.false_ne_true, Device.rd_settle _ p.notShown]
  by_cases hz : r.rw = 0
  · simp only [hz, Nat.zero_mod, Nat.and_zero]
  have hres : reservedReg off = false :=
    Bool.eq_false_iff.mpr fun hr => hz (p.unreserved hr _ hx)
  have hcpw : r.cpw = 0 := by
    simp only [RegRow.rwApart, Bool.and_eq_true, Bool.or_eq_true, beq_iff_eq, hz, or_false] at ha
    exact ha.2
  obtain ⟨e, hw1, he⟩ := Device.busWriteR_ok hok p.noBit hx hcpw
  obtain ⟨w, audited, upper, old, hbase, hnew, hperf⟩ := Device.write1_ok hw1 hx p.noWin p.noGrp
  subst hbase
  rw [he, hperf, Device.rd_perform _ _ _ _ _ _ p.stores p.logFirst, hnew, RegRow.next_rw _ _ hres ha]

end Sys2Proof.Machine
end

section
/-!
PROOF. Which block takes a write, and the blocks that store it as it comes, whatever follows from it elsewhere.
-/
namespace Sys2Proof.Machine

/-! ### What the MAC does at a write of MAC_CFG -/

section
variable {k : Nat}

theorem Device.rd_ctrlSent (d : Device) (p mode : Nat) (prios : List Nat) (hp : ∀ i ∈ prios, i < 8) (hm : ¬ macStatWord p k)
    (hc : ¬ pmcWord k) : (d.ctrlSent p mode prios).rd k = d.rd k := by
  have hmode : (if mode = 1 then 32 else 33) < 128 := by split <;> omega
  have hcount : ((((((d.macStat p 27 64).macStat p 28).macStat p 30).macStat p (if mode = 1 then 32 else 33)).pmc 3 p).rd k) =
      d.rd k := by
    rw [Device.rd_pmc _ _ _ _ hc, Device.rd_macStat _ _ _ _ hmode hm, Device.rd_macStat _ _ _ _ (by omega) hm,
      Device.rd_macStat _ _ _ _ (by omega) hm, Device.rd_macStat _ _ _ _ (by omega) hm]
  unfold Device.ctrlSent
  dsimp only
  split
  · rw [Device.each_keeps (·.rd k) _ _ fun d i hi => d.rd_macStat _ _ _ (by have := hp i hi; omega) hm, hcount]
  · exact hcount

/-- A PAUSE or PFC frame changes no register but the statistics and the performance counters. -/
theorem Device.rd_sendXoff (d : Device) (p mode on off : Nat) (hm : ¬ macStatWord p k) (hc : ¬ pmcWord k) :
    (d.sendXoff p mode on off).rd k = d.rd k := by
  unfold Device.sendXoff
  dsimp only
  split
  · rfl
  split
  · rw [Device.rd_ctrlSent _ _ _ _ (by simp) hm hc, Device.emit_rd]
  · rw [Device.rd_ctrlSent _ _ _ _ (fun i hi => by simpa using (List.mem_filter.mp hi).1) hm hc, Device.emit_rd]

/-- A change of FC_MODE changes of the port's registers its flow-control status and its statistics. -/
theorem Device.rd_fcModeChange (d : Device) (p old : Nat) (hs : k ≠ Reg.MAC_FC_STATUS (tileOf p) (laneIn p)) (hm : ¬ macStatWord p k)
    (hc : ¬ pmcWord k) : (d.fcModeChange p old).rd k = d.rd k := by
  have hx (e : Device) (v : Nat) : (e.setXoff p v).rd k = e.rd k := e.rd_set_ne _ _ hs (.inl (show 23 < 32 by decide))
  have hr (e : Device) : (e.set (Reg.MAC_FC_STATUS_RX_PAUSED (tileOf p) (laneIn p)) 0).rd k = e.rd k :=
    e.rd_set_ne _ _ hs (.inl (show 31 < 32 by decide))
  unfold Device.fcModeChange
  dsimp only
  rw [Device.updPort_rd, hr, hx]
  split
  · rfl
  · exact d.rd_sendXoff _ _ _ _ hm hc

/-- The reserves of a tile's ports show in no register but MAC_GATHER_STATUS. -/
theorem Device.rd_reserveSet (d : Device) (p : Nat) (hs : k ≠ Reg.MAC_GATHER_STATUS (tileOf p)) : (d.reserveSet p).rd k = d.rd k := by
  have hfill (e : Device) (t : Nat) : (e.fillReserves t).rd k = e.rd k := by
    refine Device.each_keeps (·.rd k) _ _ (fun e q _ => ?_) e
    dsimp only
    split <;> rfl
  unfold Device.reserveSet Device.gatherShow
  dsimp only
  rw [Device.rd_set_ne _ _ _ hs (.inl (show 31 < 32 by decide)), Device.rd_set_ne _ _ _ hs (.inl (show 15 < 32 by decide)), hfill]
  rfl

end

/-! ### Which block takes a write (R458) -/

section
variable {w : WriteIn}

theorem Device.store_tile (d : Device) (upper : Bool) (h : 0x800000 ≤ w.base ∧ w.base < 0xC00000) :
    d.store w upper = d.storeTile w := by
  unfold Device.store
  dsimp only
  iterate 6 rw [if_neg (by omega)]
  rw [if_pos (by omega)]

theorem Device.store_xbr (d : Device) (upper : Bool) (h : 0xD00000 ≤ w.base ∧ w.base < 0xD80000) :
    d.store w upper = d.storeXbr w := by
  unfold Device.store
  dsimp only
  iterate 4 rw [if_neg (by omega)]
  rw [if_pos (by omega)]

theorem Device.store_egr (d : Device) (upper : Bool) (h : 0xE00000 ≤ w.base ∧ w.base < 0xF00000) :
    d.store w upper = d.storeEgr w := by
  unfold Device.store
  dsimp only
  iterate 2 rw [if_neg (by omega)]
  rw [if_pos (by omega)]

theorem Device.store_hq (d : Device) (upper : Bool) (h : 0x200000 ≤ w.base ∧ w.base < 0x400000) :
    d.store w upper = d.storeHq w := by
  unfold Device.store
  dsimp only
  iterate 8 rw [if_neg (by omega)]
  rw [if_pos (by omega)]

theorem Device.store_slice (d : Device) (upper : Bool) (h : 0xC00000 ≤ w.base ∧ w.base < 0xD00000) :
    d.store w upper = d.storeSlice w := by
  unfold Device.store
  dsimp only
  iterate 5 rw [if_neg (by omega)]
  rw [if_pos (by omega)]

theorem Device.store_small (d : Device) (upper : Bool)
    (h : w.base < 0x60000 ∨ 0x80000 ≤ w.base ∧ w.base < 0x200000 ∨ 0x400000 ≤ w.base ∧ w.base < 0x410000 ∨
      0x420000 ≤ w.base ∧ w.base < 0x800000) : d.store w upper = d.storeSmall w := by
  unfold Device.store
  dsimp only
  iterate 11 rw [if_neg (by omega)]

end

/-! ### Blocks that store a write as it comes -/

theorem storesPlain_of_eq {off : Nat} (h : ∀ (d : Device) (w : WriteIn) (upper : Bool), w.base = off →
    (d.store w upper).rd off = (d.storeReg w).rd off) : storesPlain off := by
  intro d w upper hw
  rw [h d w upper hw]
  subst hw
  exact d.rd_storeReg w

/-- R145: the words of the MAC of every lane. -/
theorem storesPlain_mac {off : Nat} (h : 0x800000 ≤ off ∧ off < 0xC00000) (ho : 0x4000 ≤ off % 0x10000 ∧ off % 0x10000 < 0xC000) :
    storesPlain off := by
  refine storesPlain_of_eq fun d w upper hw => ?_
  subst hw
  rw [Device.store_tile d upper (by omega), Device.storeTile]
  dsimp only
  rw [if_neg (by omega), if_neg (by omega), if_neg (by omega), if_neg (by omega)]
  by_cases hcfg : w.base % 0x10000 % 0x1000 = 0
  · rw [if_pos ⟨ho.1, ho.2, hcfg⟩]
    generalize hp : 8 * ((w.base - 0x800000) / 0x10000) + (w.base % 0x10000 - 0x4000) / 0x1000 = p
    have hres : ((d.storeReg w).reserveSet p).rd w.base = (d.storeReg w).rd w.base :=
      Device.rd_reserveSet _ _ (by simp only [Reg.MAC_GATHER_STATUS]; omega)
    split
    · rw [Device.rd_fcModeChange, hres]
      · simp only [Reg.MAC_FC_STATUS]; omega
      · simp only [macStatWord]; omega
      · simp only [pmcWord]; omega
    · exact hres
  · rw [if_neg (by omega), if_neg (by omega)]

/-- R290: the words of the mirror sessions and of the rest of the Yoke's block. -/
theorem storesPlain_xbr {off : Nat} (h : 0xD00000 ≤ off ∧ off < 0xD80000) : storesPlain off := by
  refine storesPlain_of_eq fun d w upper hw => ?_
  subst hw
  rw [Device.store_xbr d upper (by omega), Device.storeXbr]
  split
  · rw [Device.onPath_rd]
  · rfl

theorem Device.rd_groupModes (d : Device) (l old new k : Nat) : (d.groupModes l old new).rd k = d.rd k := by
  refine Device.each_keeps (·.rd k) _ _ (fun d g _ => ?_) d
  dsimp only
  split <;> split <;> rfl

/-- R319: the words of the egress queues and shapers of every logical port. -/
theorem storesPlain_egr {off : Nat} (h : 0xE00000 ≤ off ∧ off < 0xF00000) : storesPlain off := by
  refine storesPlain_of_eq fun d w upper hw => ?_
  subst hw
  rw [Device.store_egr d upper (by omega), Device.storeEgr]
  split
  · rfl
  split
  · exact Device.rd_groupModes _ _ _ _ _
  split
  · rw [Device.onPath_rd]
  · rfl

/-- R486, R487: the words of the queue pages but the doorbells. -/
theorem storesPlain_hq {off : Nat} (h : 0x200000 ≤ off ∧ off < 0x400000) (ho : off % 0x1000 ≠ 0x10 ∧ off % 0x1000 ≠ 0x30) :
    storesPlain off := by
  refine storesPlain_of_eq fun d w upper hw => ?_
  subst hw
  rw [Device.store_hq d upper (by omega), Device.storeHq, if_neg ho.1, if_neg ho.2]

/-- The words of the parser, the classifier and the meters. -/
theorem storesPlain_slice {off : Nat} (h : 0xC00000 ≤ off ∧ off < 0xD00000) (ho : off % 0x10000 < 0x5000) : storesPlain off := by
  refine storesPlain_of_eq fun d w upper hw => ?_
  subst hw
  have hgrp : isGrpState w.base = false := by
    simp only [isGrpState, Bool.and_eq_false_iff, beq_eq_false_iff_ne]; omega
  rw [Device.store_slice d upper (by omega), Device.storeSlice, if_neg (by omega), if_neg (by simp [hgrp])]

/-- The words of the audit trail, of the counters' selection and of the deep store's delays: nothing follows from a write of them. -/
theorem storesPlain_small {off : Nat}
    (h : 0x10000 ≤ off ∧ off < 0x20000 ∨ 0x50000 ≤ off ∧ off < 0x52000 ∨ 0x431000 ≤ off ∧ off < 0x440000) : storesPlain off := by
  refine storesPlain_of_eq fun d w upper hw => ?_
  subst hw
  rw [Device.store_small d upper (by omega), Device.storeSmall]
  dsimp only
  rw [if_neg (by simp only [Reg.GLB_SNAP_CMD]; omega), if_neg (by simp only [Reg.SRV_CTRL]; omega), if_neg (by omega),
    if_neg (by simp only [Reg.LDG_CTRL]; omega), if_neg (by omega), if_neg (by omega), if_neg (by simp only [Reg.DST_STACK_CMD]; omega)]

end Sys2Proof.Machine
end

section
/-!
PROOF. The plain words of the register map, their RW fields, and the commands that write them.
-/
namespace Sys2Proof.Machine

/-! ### Plain words of the register bus -/

theorem inBits_of_outside {off : Nat} (h : off < 0x100000 ∨ 0x200000 ≤ off) : inBits off = false := by
  simp only [inBits, Bool.and_eq_false_iff, decide_eq_false_iff_not]
  omega

theorem isGrpState_of_outside {off : Nat} (h : off < 0xC00000 ∨ 0xD00000 ≤ off ∨ off % 0x10000 ≠ 0x5014) :
    isGrpState off = false := by
  simp only [isGrpState, Bool.and_eq_false_iff, decide_eq_false_iff_not, beq_eq_false_iff_ne]
  omega

/-- Outside the slices the six sets of CTRL, ADDR and DATA registers make the only windows. -/
theorem winAt_of_outside {off : Nat} (h : off < 0xC00000 ∨ 0xD00000 ≤ off)
    (hd : off ∉ [Reg.AUD_IND_DATA, Reg.LDG_IND_DATA, Reg.DST_IND_DATA, Reg.BUF_IND_DATA, Reg.JFL_IND_DATA, Reg.MRV_IND_DATA]) :
    winAt off = none := by
  simp only [List.mem_cons, List.not_mem_nil, or_false, not_or] at hd
  obtain ⟨ha, hl, hs, hb, hj, hm⟩ := hd
  rw [winAt, if_neg ha, if_neg hl, if_neg hs, if_neg hb, if_neg hj, if_neg hm, if_neg (by omega)]

/-- R243: of the words of the parser, the classifier and the meters only the last meter counter is reserved. -/
theorem reservedReg_slice {off : Nat} (h : 0xC00000 ≤ off ∧ off < 0xD00000) (hr : reservedReg off = true) :
    ∃ s : Fin 16, off = Reg.MTR_STAT s 7 := by
  simp only [reservedReg, reservedCullet, Bool.or_eq_true, Bool.and_eq_true, decide_eq_true_eq, beq_iff_eq] at hr
  simp only [Reg.DMA_LINE, Reg.PRT_STAT, Reg.EGR_STAT, Reg.XBR_STAT, Reg.BUF_CULLET_SLC, Reg.BUF_CULLET_PORT, Reg.MTR_STAT] at hr
  refine ⟨⟨(off - 0xC00000) / 0x10000, by omega⟩, ?_⟩
  simp only [Reg.MTR_STAT]
  omega

theorem reservedReg_mtrStat (s : Fin 16) : ∀ x ∈ regAt (Reg.MTR_STAT s 7), x.1.rw = 0 := by
  revert s
  decide +kernel

/-- Outside the slices, the counters and the DMA lines no register is reserved. -/
theorem reservedReg_of_outside {off : Nat} (h : off < 0x72100 ∨ 0x200000 ≤ off ∧ off < 0x400000 ∨ 0x430000 ≤ off ∧ off < 0xC00000 ∨
    0xD04000 ≤ off ∧ off < 0xD80000 ∨ 0xE00000 ≤ off ∧ off < 0xEC0000) : reservedReg off = false := by
  simp only [reservedReg, reservedCullet, Bool.or_eq_false_iff, Bool.and_eq_false_iff, decide_eq_false_iff_not, beq_eq_false_iff_ne]
  simp only [Reg.DMA_LINE, Reg.PRT_STAT, Reg.EGR_STAT, Reg.XBR_STAT, Reg.BUF_CULLET_SLC, Reg.BUF_CULLET_PORT, Reg.MTR_STAT]
  omega

/-- A word outside the slices that its block stores as it comes is a plain word, but for the windows' DATA registers and the words that
follow the state. -/
theorem plainWord_of_outside {off : Nat} (hst : storesPlain off)
    (h : off = 0x10000 ∨ 0x50000 ≤ off ∧ off < 0x52000 ∨ 0x200000 ≤ off ∧ off < 0x400000 ∨ 0x431000 ≤ off ∧ off < 0x432000 ∨
      0x800000 ≤ off ∧ off < 0xC00000 ∨ 0xD04000 ≤ off ∧ off < 0xD80000 ∨ 0xE00000 ≤ off ∧ off < 0xEC0000) : PlainWord off where
  noBit := inBits_of_outside (by omega)
  noWin := winAt_of_outside (by omega) (by
    simp only [Reg.AUD_IND_DATA, Reg.LDG_IND_DATA, Reg.DST_IND_DATA, Reg.BUF_IND_DATA, Reg.JFL_IND_DATA, Reg.MRV_IND_DATA,
      List.mem_cons, List.not_mem_nil, or_false]
    omega)
  noGrp := isGrpState_of_outside (by omega)
  unreserved := fun hr => by rw [reservedReg_of_outside (by omega)] at hr; cases hr
  notShown := notShown (by omega)
  stores := hst
  logFirst := by omega

theorem plainWord_mac {off : Nat} (h : 0x800000 ≤ off ∧ off < 0xC00000) (ho : 0x4000 ≤ off % 0x10000 ∧ off % 0x10000 < 0xC000) :
    PlainWord off := plainWord_of_outside (storesPlain_mac h ho) (by omega)

theorem plainWord_mir {off : Nat} (h : 0xD04000 ≤ off ∧ off < 0xD80000) : PlainWord off :=
  plainWord_of_outside (storesPlain_xbr (by omega)) (by omega)

theorem plainWord_egr {off : Nat} (h : 0xE00000 ≤ off ∧ off < 0xEC0000) : PlainWord off :=
  plainWord_of_outside (storesPlain_egr (by omega)) (by omega)

theorem plainWord_hq {off : Nat} (h : 0x200000 ≤ off ∧ off < 0x400000) (ho : off % 0x1000 ≠ 0x10 ∧ off % 0x1000 ≠ 0x30) :
    PlainWord off := plainWord_of_outside (storesPlain_hq h ho) (by omega)

theorem plainWord_macCfg (p : Fin 512) : PlainWord (macReg p) := by
  refine plainWord_mac ?_ ?_ <;> simp only [macReg, Reg.MAC_CFG, tileOf, laneIn] <;> omega

theorem plainWord_pfcMap (p : Fin 512) (prio : Fin 8) : PlainWord (Reg.MAC_PFC_MAP (tileOf p) (laneIn p) prio) := by
  refine plainWord_mac ?_ ?_ <;> simp only [Reg.MAC_PFC_MAP, tileOf, laneIn] <;> omega

theorem plainWord_hqOwner (n : Fin 512) : PlainWord (Reg.HQ_OWNER n) := by
  refine plainWord_hq ?_ ?_ <;> simp only [Reg.HQ_OWNER] <;> omega

theorem plainWord_cqCfg (n : Fin 512) : PlainWord (Reg.HQ_CQ_CFG n) := by
  refine plainWord_hq ?_ ?_ <;> simp only [Reg.HQ_CQ_CFG] <;> omega

theorem plainWord_sqCfg (n : Fin 512) : PlainWord (Reg.HQ_SQ_CFG n) := by
  refine plainWord_hq ?_ ?_ <;> simp only [Reg.HQ_SQ_CFG] <;> omega

theorem plainWord_audCfg : PlainWord Reg.AUD_CFG :=
  plainWord_of_outside (storesPlain_small (.inl (by decide))) (.inl rfl)

theorem plainWord_pmc {off : Nat} (h : 0x50000 ≤ off ∧ off < 0x52000) : PlainWord off :=
  plainWord_of_outside (storesPlain_small (by omega)) (by omega)

theorem plainWord_dstDly {off : Nat} (h : 0x431000 ≤ off ∧ off < 0x432000) : PlainWord off :=
  plainWord_of_outside (storesPlain_small (by omega)) (by omega)

theorem plainWord_slice {off : Nat} (h : 0xC00000 ≤ off ∧ off < 0xD00000) (ho : off % 0x10000 < 0x5000) (hw : winAt off = none) :
    PlainWord off where
  noBit := inBits_of_outside (by omega)
  noWin := hw
  noGrp := isGrpState_of_outside (by omega)
  unreserved := fun hr => by
    obtain ⟨s, rfl⟩ := reservedReg_slice h hr
    exact reservedReg_mtrStat s
  notShown := notShown (by omega)
  stores := storesPlain_slice h ho
  logFirst := by omega

/-! ### RW fields of a plain word -/

/-- The field lies in the low word of its register, and every bit of it is RW (R15). -/
def Field.isRw (f : Field) : Bool :=
  decide (f.hi < 32) && (regAt f.off).any fun x => !x.2.2 && bits x.1.rw f.hi f.lo == 2 ^ (f.hi + 1 - f.lo) - 1

/-- An RW field of a word that took what was written reads as that field of what was written. -/
theorem get_of_tookWord {e : Device} {f : Field} {data : Nat} (hf : f.isRw = true) (h : tookWord e f.off data) :
    e.get f = bits data f.hi f.lo := by
  simp only [Field.isRw, Bool.and_eq_true, decide_eq_true_eq, Option.any_eq_true, Bool.not_eq_true', beq_iff_eq] at hf
  obtain ⟨h32, x, hx, hup, hrw⟩ := hf
  have hw := h x hx hup
  rw [Device.get, if_pos h32]
  apply Nat.eq_of_testBit_eq
  intro i
  rw [testBit_bits, testBit_bits]
  by_cases hi : i < f.hi + 1 - f.lo
  · have hbit := congrArg (Nat.testBit · i) hrw
    have hword := congrArg (Nat.testBit · (f.lo + i)) hw
    simp only [testBit_bits, Nat.testBit_two_pow_sub_one, hi, decide_true, Bool.true_and] at hbit
    simp only [Nat.testBit_and, Nat.testBit_mod_two_pow, hbit, show f.lo + i < 32 by omega, decide_true, Bool.and_true] at hword
    rw [hword]
  · simp [hi]

theorem isRw_maxLen (p : Fin 512) : (Reg.MAC_CFG_MAX_LEN (tileOf p) (laneIn p)).isRw = true := by
  revert p
  decide +kernel

theorem isRw_cqEn (n : Fin 512) : (Reg.HQ_CQ_CFG_EN n).isRw = true := by
  revert n
  decide +kernel

theorem isRw_sqEn (n : Fin 512) : (Reg.HQ_SQ_CFG_EN n).isRw = true := by
  revert n
  decide +kernel

theorem isRw_stream : Reg.AUD_CFG_STREAM.isRw = true := by decide +kernel

/-- An RW field that is written 1 reads as set. -/
theorem flag_of_written_one {e : Device} {f : Field} {v : Nat} (hf : f.isRw = true) (hl : f.lo ≤ f.hi)
    (h : tookWord e f.off (withBits v f.hi f.lo 1)) : e.flag f = true := by
  rw [Device.flag, get_of_tookWord hf h, bits_withBits_same hl, Nat.mod_eq_of_lt (Nat.one_lt_two_pow (by omega))]
  rfl

/-- A command that is a performed write of a plain word goes on to a state in which the word has taken what was written. -/
theorem goes_of_plainWrite {c : Instr} {s : State} {rq : Requester} {off data : Nat} {P : State → Prop}
    (h : performs s.dev rq off 4 data) (p : PlainWord off)
    (hc : exec c s = .next { dev := (s.dev.busWrite rq off 4 data).settle, pending := s.pending })
    (hP : ∀ t : State, tookWord t.dev off data → P t) : Goes (exec c s) P := ⟨_, hc, hP _ (p.took h)⟩

/-- Settles O8: each command is a bus write of a plain word, whose block stores it as it comes. -/
theorem plainWritesStore : Obligations.PlainWritesStore := by
  unfold Obligations.PlainWritesStore
  intro s rq p n data
  refine ⟨fun len h => ?_, fun prio h => ?_, fun w h => ?_, fun l w h => ?_, fun h => ?_, fun h => ?_, fun h => ?_, fun stream h => ?_,
    fun i h => ?_, fun k w h => ?_, fun off hlo hhi ho hwin h => ?_⟩
  · refine goes_of_plainWrite h (plainWord_macCfg p) rfl fun t ht => ?_
    rw [get_of_tookWord (isRw_maxLen p) ht]
    exact (bits_withBits_same (Nat.zero_le 13) _ _).trans (Nat.mod_eq_of_lt len.isLt)
  · exact goes_of_plainWrite h (plainWord_pfcMap p prio) rfl fun _ => id
  · exact goes_of_plainWrite h (plainWord_mir (by simp only [Reg.MIR_SESSION_W0]; omega)) rfl fun _ => id
  · exact goes_of_plainWrite h (plainWord_egr (by simp only [Reg.EGR_PORT_CFG]; omega)) rfl fun _ => id
  · exact goes_of_plainWrite h (plainWord_hqOwner p) rfl fun _ => id
  · exact goes_of_plainWrite h (plainWord_cqCfg p) rfl fun _ ht => ⟨flag_of_written_one (isRw_cqEn p) (Nat.le_refl 31) ht, ht⟩
  · exact goes_of_plainWrite h (plainWord_sqCfg p) rfl fun _ ht => ⟨flag_of_written_one (isRw_sqEn p) (Nat.le_refl 31) ht, ht⟩
  · refine goes_of_plainWrite h plainWord_audCfg rfl fun t ht => ?_
    rw [Device.stream, Device.flag, get_of_tookWord isRw_stream ht]
    cases stream <;> rfl
  · exact goes_of_plainWrite h (plainWord_pmc (by simp only [Reg.PMC_SEL]; omega)) rfl fun _ => id
  · exact goes_of_plainWrite h (plainWord_dstDly (by simp only [Reg.DST_DLY_CH]; omega)) rfl fun _ => id
  · have hdata : (data.setWidth 64).toNat = data.toNat := by
      rw [BitVec.toNat_setWidth, Nat.mod_eq_of_lt (by omega)]
    refine goes_of_plainWrite h (plainWord_slice ⟨hlo, hhi⟩ ho hwin) ?_ fun _ => id
    rw [← hdata]
    rfl

end Sys2Proof.Machine
end

section
/-!
PROOF. The frame of the flow-control commands (R142, R143, R146): what one of them may change of the block is the flow-control status and
the statistics of its port and what the port's MAC holds. Each operation that the commands are made of stays within that, and so do they.
-/
namespace Sys2Proof.Machine

/-! ### Frames sent -/

@[simp] theorem Device.hidden_ctrlSent (d : Device) (p mode : Nat) (prios : List Nat) : (d.ctrlSent p mode prios).hidden = d.hidden := by
  unfold Device.ctrlSent
  dsimp only
  split
  · rw [Device.each_keeps Device.hidden _ _ fun d i _ => d.hidden_macStat p (44 + i) 1]
    simp
  · simp

/-- A PAUSE or PFC frame that is sent changes registers and outputs only. -/
@[simp] theorem Device.hidden_sendXoff (d : Device) (p mode on off : Nat) : (d.sendXoff p mode on off).hidden = d.hidden := by
  unfold Device.sendXoff
  dsimp only
  split
  · rfl
  · split <;> rw [Device.hidden_ctrlSent, Device.hidden_emit]

/-! ### Staying within the MAC of a port -/

/-- From `d` to `e` nothing changes but the flow-control status and the statistics of port `p`, what its MAC holds, the performance
counters, outputs and output pins. -/
structure MacOnly (p : Nat) (d e : Device) : Prop where
  regs : ∀ k, k ≠ Reg.MAC_FC_STATUS (tileOf p) (laneIn p) → ¬ macStatWord p k → ¬ pmcWord k → e.rd k = d.rd k
  ports : ∀ q, q ≠ p → e.port q = d.port q
  rest : { e.hidden with ports := [] } = { d.hidden with ports := [] }

namespace MacOnly

variable {p : Nat} {d e f : Device}

theorem refl (p : Nat) (d : Device) : MacOnly p d d := ⟨fun _ _ _ _ => rfl, fun _ _ => rfl, rfl⟩

theorem trans (h : MacOnly p d e) (g : MacOnly p e f) : MacOnly p d f :=
  ⟨fun k hs hm hc => (g.regs k hs hm hc).trans (h.regs k hs hm hc), fun q hq => (g.ports q hq).trans (h.ports q hq),
    g.rest.trans h.rest⟩

theorem each {α : Type} {l : List α} {f : Device → α → Device} (h : ∀ d, ∀ a ∈ l, MacOnly p d (f d a)) (d : Device) :
    MacOnly p d (d.each l f) := by
  induction l generalizing d with
  | nil => exact refl p d
  | cons a l ih => exact (h d a List.mem_cons_self).trans (ih (fun d b hb => h d b (List.mem_cons_of_mem _ hb)) (f d a))

/-- A change of registers and outputs has only its registers to show. -/
theorem of_hidden (h : e.hidden = d.hidden)
    (hr : ∀ k, k ≠ Reg.MAC_FC_STATUS (tileOf p) (laneIn p) → ¬ macStatWord p k → ¬ pmcWord k → e.rd k = d.rd k) : MacOnly p d e :=
  ⟨hr, fun q _ => by rw [Device.port, Device.hidden_ports h, Device.port], by rw [h]⟩

/-! ### The operations of flow control -/

theorem updPort (p : Nat) (d : Device) (u : Port → Port) : MacOnly p d (d.updPort p u) :=
  ⟨fun k _ _ _ => d.updPort_rd p k u, fun q hq => by rw [Device.updPort_port, if_neg hq], rfl⟩

theorem macStat (p : Nat) (d : Device) {i : Nat} (hi : i < 128) (n : Nat := 1) : MacOnly p d (d.macStat p i n) :=
  of_hidden (d.hidden_macStat p i n) fun _ _ hm _ => d.rd_macStat p i n hi hm

/-- A store of a field of MAC_FC_STATUS. -/
theorem setFcStatus (p : Nat) (d : Device) {hi : Nat} (h : hi < 32) (lo v : Nat) :
    MacOnly p d (d.set ⟨Reg.MAC_FC_STATUS (tileOf p) (laneIn p), hi, lo⟩ v) :=
  of_hidden (d.hidden_set _ v) fun _ hs _ _ => d.rd_set_ne _ v hs (.inl h)

theorem sendXoff (p : Nat) (d : Device) (mode on off : Nat) : MacOnly p d (d.sendXoff p mode on off) :=
  of_hidden (d.hidden_sendXoff p mode on off) fun _ _ hm hc => d.rd_sendXoff p mode on off hm hc

theorem pauseLoad (p : Nat) (d : Device) {i : Nat} (hi : i < 8) (q : Nat) : MacOnly p d (d.pauseLoad p i q) := by
  obtain ⟨-, hregs, hrest, hports⟩ := d.pauseLoad_spec p i q hi
  exact ⟨fun k hs _ _ => hregs k hs, fun x hx => (hports x).trans (if_neg hx), by rw [hrest]⟩

theorem popCtrl {op : Nat} {bs : List Byte} (h : d.popCtrl p op = some (bs, e)) : MacOnly p d e := by
  unfold Device.popCtrl at h
  split at h
  · cases h
  · split at h
    · cases h
      exact updPort p d _
    · cases h

/-- A pause timer loaded where a condition lets it be. -/
theorem pauseLoad_unless (p : Nat) (d : Device) (c : Prop) [Decidable c] {i : Nat} (hi : i < 8) (q : Nat) :
    MacOnly p d (if c then d else d.pauseLoad p i q) := by
  split
  · exact refl p d
  · exact pauseLoad p d hi q

/-- A new TX_XOFF with the frame that tells the partner. -/
theorem setXoff_sendXoff (p : Nat) (d : Device) (v mode on off : Nat) : MacOnly p d ((d.setXoff p v).sendXoff p mode on off) :=
  (setFcStatus p d (by decide) 16 v).trans (sendXoff p _ mode on off)

theorem xoffLook (p : Nat) (d : Device) : MacOnly p d (d.xoffLook p) := updPort p d _

/-! ### The commands -/

theorem pauseExpire (p : Nat) (d : Device) (i : Fin 8) : MacOnly p d (d.pauseExpire p i) := by
  unfold Device.pauseExpire
  split
  · exact pauseLoad p d i.isLt 0
  · exact refl p d

theorem wdTrip (p : Nat) (d : Device) (i : Nat) : MacOnly p d (d.wdTrip p i) := by
  unfold Device.wdTrip
  dsimp only
  split
  · exact ((setFcStatus p d (by decide) 0 _).trans (setFcStatus p _ (by decide) 8 _)).trans (macStat p _ (by decide))
  · exact refl p d

theorem wdEnd (p : Nat) (d : Device) (i : Fin 8) : MacOnly p d (d.wdEnd p i) := by
  unfold Device.wdEnd
  dsimp only
  split
  · exact (setFcStatus p d (by decide) 8 _).trans (pauseLoad p _ i.isLt 0)
  · exact refl p d

theorem rxPause (p : Nat) (d : Device) : MacOnly p d (d.rxPause p) := by
  unfold Device.rxPause
  split
  · exact refl p d
  · next bs e h =>
    exact ((popCtrl h).trans (macStat p e (by decide))).trans (pauseLoad_unless p _ _ (by decide) _)

theorem rxPfc (p : Nat) (d : Device) : MacOnly p d (d.rxPfc p) := by
  unfold Device.rxPfc
  split
  · exact refl p d
  · next bs e h =>
    refine ((popCtrl h).trans (macStat p e (by decide))).trans (each (fun c i hmem => ?_) _)
    have hi : i < 8 := by simpa using (List.mem_filter.mp hmem).1
    have hcount : MacOnly p c (if be16 bs (18 + 2 * i) = 0 then c else c.macStat p (36 + i)) := by
      split
      · exact refl p c
      · exact macStat p c (by omega)
    exact hcount.trans (pauseLoad_unless p _ _ hi _)

theorem xoffAssert (p : Nat) (d : Device) : MacOnly p d (d.xoffAssert p) := by
  unfold Device.xoffAssert
  dsimp only
  split
  · exact xoffLook p d
  · exact (xoffLook p d).trans (setXoff_sendXoff p _ _ _ _ _)

theorem xoffRelease (p : Nat) (d : Device) : MacOnly p d (d.xoffRelease p) := by
  unfold Device.xoffRelease
  dsimp only
  split
  · exact xoffLook p d
  · exact (xoffLook p d).trans (setXoff_sendXoff p _ _ _ _ _)

theorem xoffRefresh (p : Nat) (d : Device) : MacOnly p d (d.xoffRefresh p) := by
  unfold Device.xoffRefresh
  dsimp only
  split
  · exact refl p d
  · exact sendXoff p d _ _ _

/-- A command whose effect stays within the MAC of a port goes on, and its end leaves the rest of the block as well. -/
theorem goes {c : Instr} {s : State} (f : Device → Device) (hc : exec c s = s.run f) (h : MacOnly p s.dev (f s.dev)) :
    Goes (exec c s) fun t =>
      keepsRegs s.dev t.dev (fun k => k = Reg.MAC_FC_STATUS (tileOf p) (laneIn p) ∨ macStatWord p k) ∧
      (∀ q, q ≠ p → t.dev.port q = s.dev.port q) ∧ t.dev.hidden = { s.dev.hidden with ports := t.dev.ports } := by
  rw [hc]
  refine goes_run ⟨fun k hk hshown hpmc => ?_, fun q hq => ?_, ?_⟩
  · rw [Device.rd_settle _ hshown]
    exact h.regs k (fun hs => hk (.inl hs)) (fun hm => hk (.inr hm)) hpmc
  · rw [Device.settle_port]
    exact h.ports q hq
  · rw [Device.hidden_settle, Device.settle_ports]
    exact congrArg (fun x : Device => { x with ports := (f s.dev).ports }) h.rest

end MacOnly

/-- Settles O3: each command is an effect that stays within the MAC of its port. -/
theorem flowControlFrame : Obligations.FlowControlFrame := by
  unfold Obligations.FlowControlFrame
  intro s p i c hc
  simp only [List.mem_cons, List.not_mem_nil, or_false] at hc
  obtain rfl | rfl | rfl | rfl | rfl | rfl | rfl | rfl := hc
  · exact MacOnly.goes (·.pauseExpire p i) rfl (.pauseExpire p s.dev i)
  · exact MacOnly.goes (·.wdTrip p i) rfl (.wdTrip p s.dev i)
  · exact MacOnly.goes (·.wdEnd p i) rfl (.wdEnd p s.dev i)
  · exact MacOnly.goes (·.rxPause p) rfl (.rxPause p s.dev)
  · exact MacOnly.goes (·.rxPfc p) rfl (.rxPfc p s.dev)
  · exact MacOnly.goes (·.xoffAssert p) rfl (.xoffAssert p s.dev)
  · exact MacOnly.goes (·.xoffRelease p) rfl (.xoffRelease p s.dev)
  · exact MacOnly.goes (·.xoffRefresh p) rfl (.xoffRefresh p s.dev)

end Sys2Proof.Machine
end

section
/-!
PROOF. What accounting leaves of the frame path: charges, credits, freed stitches and counters move no frame (R246, R249, R317).
-/
namespace Sys2Proof.Machine

/-! ### Lists kept by key -/

@[simp] theorem lget_lset_same {α : Type} [DecidableEq α] (m : Map (List α)) (k : Nat) (l : List α) : lget (lset m k l) k = l :=
  mget_mset_same _ m k l

@[simp] theorem lget_lpush_same {α : Type} [DecidableEq α] (m : Map (List α)) (k : Nat) (a : α) :
    lget (lpush m k a) k = lget m k ++ [a] := lget_lset_same m k _

/-! ### Counters -/

@[simp] theorem Device.put_path (d : Device) (f : Field) (b : Bool) : (d.put f b).path = d.path := d.set_path f _
@[simp] theorem Device.inc_path (d : Device) (f : Field) (n : Nat) : (d.inc f n).path = d.path := d.set_path f _
@[simp] theorem Device.pmc_path (d : Device) (event inst n : Nat) : (d.pmc event inst n).path = d.path :=
  Device.hidden_path (d.hidden_pmc event inst n)
@[simp] theorem Device.pmc_ports (d : Device) (event inst n : Nat) : (d.pmc event inst n).ports = d.ports :=
  Device.hidden_ports (d.hidden_pmc event inst n)

@[simp] theorem Device.heldAdd_path (d : Device) (src k n : Nat) (add : Bool) : (d.heldAdd src k n add).path = d.path := by
  unfold Device.heldAdd
  split
  · exact d.set_path _ _
  · rfl

@[simp] theorem Device.doubleFree_path (d : Device) (i : Nat) : (d.doubleFree i).path = d.path := by
  unfold Device.doubleFree
  rw [Device.set_path, Device.put_path, Device.inc_path]

/-! ### The frame path beside the accounts of the Skein -/

/-- The frame path without the accounts of the Skein: the state of the stitches, their free list and the counts of the pools. -/
def Device.carried (d : Device) : Path := { d.path with stitch := [], free := [], flight := [], qcnt := [] }

section
variable {d e : Device}

theorem Device.carried_of_path (h : e.path = d.path) : e.carried = d.carried := by rw [Device.carried, h, Device.carried]
theorem Device.carried_nextId (h : e.carried = d.carried) : e.path.nextId = d.path.nextId := congrArg (·.nextId) h
theorem Device.carried_transit (h : e.carried = d.carried) : e.path.transit = d.path.transit := congrArg (·.transit) h
theorem Device.carried_dep (h : e.carried = d.carried) : e.path.dep = d.path.dep := congrArg (·.dep) h
theorem Device.carried_egr (h : e.carried = d.carried) : e.path.egr = d.path.egr := congrArg (·.egr) h

end

theorem Device.carried_freeStitch (d : Device) (i : Nat) : (d.freeStitch i).carried = d.carried := by
  unfold Device.freeStitch
  dsimp only
  split
  · exact Device.carried_of_path (d.doubleFree_path i)
  · refine (Device.when_keeps Device.carried _ _ (fun _ => ?_) _).trans ?_ <;> rfl

theorem Device.carried_charge (d : Device) (c : Charge) (n : Nat) : (d.charge c n).carried = d.carried := by
  cases c with
  | control => exact Device.carried_of_path (d.set_path _ _)
  | mc s => exact Device.carried_of_path (d.set_path _ _)
  | _ => rfl

theorem Device.carried_credit (d : Device) (c : Charge) (n : Nat) : (d.credit c n).carried = d.carried := by
  cases c with
  | control => exact Device.carried_of_path (d.set_path _ _)
  | mc s => exact Device.carried_of_path (d.set_path _ _)
  | _ => rfl

theorem Device.carried_uncharge (d : Device) (c : Charge × Nat × Option (Nat × Nat)) : (d.uncharge c).carried = d.carried := by
  obtain ⟨c, n, _ | ⟨src, k⟩⟩ := c
  · exact d.carried_credit c n
  · exact (Device.carried_of_path (Device.heldAdd_path _ _ _ _ _)).trans (d.carried_credit c n)

/-! ### The departure store -/

/-- The release of a departure frame's slots changes of the frame path the departure store and accounts. -/
theorem Device.carried_depCleanup (d : Device) (t id : Nat) :
    (d.depCleanup t id).carried = { d.carried with dep := (d.depCleanup t id).path.dep } := by
  have h := Device.each_keeps Device.carried (((d.dep t).filter fun f => f.frame.id == id && f.spent).flatMap (·.out)) Device.uncharge
    (fun d c _ => d.carried_uncharge c)
    (d.onPath fun p => { p with dep := lset p.dep t ((lget p.dep t).filter fun f => f.frame.id != id || !f.spent) })
  rw [show (d.depCleanup t id).path.dep = _ from Device.carried_dep h]
  exact h

@[simp] theorem Device.depCleanup_transit (d : Device) (t id : Nat) : (d.depCleanup t id).path.transit = d.path.transit :=
  congrArg (·.transit) (d.carried_depCleanup t id)
@[simp] theorem Device.depCleanup_egr (d : Device) (t id : Nat) : (d.depCleanup t id).path.egr = d.path.egr :=
  congrArg (·.egr) (d.carried_depCleanup t id)

@[simp] theorem Device.onDep_transit (d : Device) (t id : Nat) (g : DepFrame → DepFrame) :
    (d.onDep t id g).path.transit = d.path.transit := rfl
@[simp] theorem Device.onDep_egr (d : Device) (t id : Nat) (g : DepFrame → DepFrame) : (d.onDep t id g).path.egr = d.path.egr := rfl

/-- A frame of a departure store after a change of it that keeps its number. -/
theorem Device.depFrame_onDep (d : Device) (t id : Nat) {g : DepFrame → DepFrame} (h : ∀ x, (g x).frame.id = x.frame.id) :
    (d.onDep t id g).depFrame t id = (d.depFrame t id).map g := by
  have hid : ((fun x : DepFrame => x.frame.id == id) ∘ fun x => if x.frame.id = id then g x else x) = fun x => x.frame.id == id := by
    funext x
    by_cases hx : x.frame.id = id <;> simp [hx, h]
  simp only [Device.depFrame, Device.dep, Device.onDep, Device.onPath_path, lget_lset_same, List.find?_map, hid]
  refine Option.map_congr fun x hx => ?_
  rw [if_pos (by simpa using List.find?_some hx)]

/-- The departure frames are those of the store. -/
theorem Device.depFrame_of_dep {d e : Device} (h : e.path.dep = d.path.dep) (t id : Nat) : e.depFrame t id = d.depFrame t id := by
  rw [Device.depFrame, Device.dep, h, Device.depFrame, Device.dep]

/-! ### Egress queues -/

/-- A changed egress queue. -/
@[simp] theorem Device.onEgr_egr_same (d : Device) (q : Nat) (f : List EgrEntry → List EgrEntry) :
    lget (d.onEgr q f).path.egr q = f (lget d.path.egr q) := lget_lset_same _ _ _

@[simp] theorem Device.onEgr_transit (d : Device) (q : Nat) (f : List EgrEntry → List EgrEntry) :
    (d.onEgr q f).path.transit = d.path.transit := rfl

end Sys2Proof.Machine
end

section
/-!
PROOF. The commands of the Yoke (R278 to R286): the match of a lone request, the arrival of a first stitch, a record expanded on die, and
the older version of a group drained.
-/
namespace Sys2Proof.Machine

/-- What is left to show about a command made of an effect is about the effect and the end of the command. -/
theorem goes_exec {c : Instr} {s : State} {P : State → Prop} (f : Device → Device) (hc : exec c s = s.run f)
    (h : P { dev := (f s.dev).settle, pending := s.pending }) : Goes (exec c s) P := by
  rw [hc]
  exact goes_run h

/-! ### A lone request is matched (R278) -/

section
variable {d : Device} {r : Req}

/-- An iteration moves pointers and counters only: no stitch is in transit for it. -/
theorem Device.iterate_transit (d : Device) (plane i : Nat) (reqs ms : List Req) :
    (d.iterate plane i reqs ms).2.path.transit = d.path.transit := by
  unfold Device.iterate
  dsimp only
  split
  · refine (Device.each_keeps (·.path.transit) _ _ (fun _ _ _ => ?_) _).trans ?_
    · rfl
    · rw [Device.inc_path, Device.inc_path]
  · rw [Device.inc_path, Device.inc_path]

/-- A start that finds room is granted and accepted: nothing else asks. -/
theorem Device.iterate_lone (plane i : Nat) (hc : r.cont = false) (hroom : r.count ≤ d.depFree r.o) :
    ∃ e, d.iterate plane i [r] [] = ([r], e) ∧ e.path.transit = d.path.transit := by
  have hgrant : d.grant plane r.o [r] = some r := by simp [Device.grant, firstAfter, hc, hroom]
  have haccept : d.acceptGrant plane r.u [r] = some r := by simp [Device.acceptGrant, firstAfter, hc]
  exact ⟨_, Prod.ext (by simp [Device.iterate, List.eraseDups_cons, hgrant, haccept]) rfl, d.iterate_transit plane i [r] []⟩

/-- A request that is matched already is not matched again. -/
theorem Device.iterate_matched (d : Device) (plane i : Nat) (r : Req) :
    ∃ e, d.iterate plane i [r] [r] = ([r], e) ∧ e.path.transit = d.path.transit :=
  ⟨_, Prod.ext (by simp [Device.iterate]) rfl, d.iterate_transit plane i [r] [r]⟩

/-- Further iterations leave the lone match as it is. -/
theorem Device.iterations_matched (d : Device) (plane : Nat) (r : Req) (l : List Nat) :
    ∃ e, l.foldl (fun (md : List Req × Device) i => md.2.iterate plane (i + 1) [r] md.1) ([r], d) = ([r], e) ∧
      e.path.transit = d.path.transit := by
  induction l generalizing d with
  | nil => exact ⟨d, rfl, rfl⟩
  | cons i l ih =>
    obtain ⟨e, he, ht⟩ := d.iterate_matched plane (i + 1) r
    obtain ⟨e', he', ht'⟩ := ih e
    exact ⟨e', by rw [List.foldl_cons, he, he'], ht'.trans ht⟩

/-- Any number of iterations from one on match a lone start that finds room. -/
theorem Device.iterations_lone (plane : Nat) {n : Nat} (hn : n ≠ 0) (hc : r.cont = false) (hroom : r.count ≤ d.depFree r.o) :
    ∃ e, (List.range n).foldl (fun (md : List Req × Device) i => md.2.iterate plane (i + 1) [r] md.1) ([], d) = ([r], e) ∧
      e.path.transit = d.path.transit := by
  obtain ⟨n, rfl⟩ := Nat.exists_eq_succ_of_ne_zero hn
  obtain ⟨e, he, ht⟩ := Device.iterate_lone plane (0 + 1) hc hroom
  obtain ⟨e', he', ht'⟩ := e.iterations_matched plane r ((List.range n).map Nat.succ)
  exact ⟨e', by rw [List.range_succ_eq_map, List.foldl_cons, he, he'], ht'.trans ht⟩

/-- The stitch sent is in transit on the plane of its output. -/
theorem Device.sendStitch_transit (d : Device) (plane u o : Nat) (c : Crossing) :
    (d.sendStitch plane u o c).path.transit = lpush d.path.transit (4 * o + plane) ⟨c.frame, c.sent, c.mc⟩ := by
  unfold Device.sendStitch
  dsimp only
  rw [Device.inc_path, Device.onPath_path]
  dsimp only
  split
  · next i _ => rw [Device.carried_transit (d.carried_freeStitch i)]
  · rfl

/-- A start sends the first stitch of its frame. -/
theorem Device.startFrame_transit (d : Device) (plane : Nat) (s : Start) :
    (d.startFrame plane s).path.transit = lpush d.path.transit (4 * s.o + plane) ⟨s.frame, 0, s.mc⟩ := by
  unfold Device.startFrame
  dsimp only
  rw [Device.sendStitch_transit, Device.onPath_path]
  dsimp only
  split <;> rfl

/-- A cell time of a plane with a lone start that finds room sends that start's first stitch. -/
theorem Device.yokeCell_lone {st : Start} (plane : Nat) (hr : d.requests = [r]) (hc : r.cont = false) (hs : r.start = some st)
    (hroom : r.count ≤ d.depFree r.o) :
    (d.yokeCell plane).path.transit = lpush d.path.transit (4 * st.o + plane) ⟨st.frame, 0, st.mc⟩ := by
  have hheld : ([r].filter fun r => !r.cont && decide (d.depFree r.o < r.count)) = [] := by simp [hc, hroom]
  have hn : (if d.get Reg.XBR_CFG_ITER = 0 then 3 else d.get Reg.XBR_CFG_ITER) ≠ 0 := by split <;> omega
  obtain ⟨e, he, ht⟩ := Device.iterations_lone plane hn hc hroom
  have htransfer : (d.yokeCell plane) = e.transfer plane r := by
    simp only [Device.yokeCell, hr, hheld, Device.each, List.foldl_nil, he, List.foldl_cons]
  rw [htransfer, Device.transfer, hs, ← ht]
  exact e.startFrame_transit plane st

end

/-! ### The first stitch of a unicast frame arrives (R28, R30, R281) -/

/-- A frame whose epoch is current enters its queue in the order of its ingress port (R37). -/
theorem Device.enterQueue_of_fresh {d : Device} {t : Nat} {f : Frame} (h : d.stale f.hdr.dest (unicastEntry t f) = false) :
    d.enterQueue t f = d.onEgr (qIdx f.hdr.dest f.hdr.queue) (joinQueue (unicastEntry t f)) := by
  simp [Device.enterQueue, h]

/-- Staleness looks at the ports only. -/
theorem Device.stale_of_ports {d e : Device} (h : e.ports = d.ports) (l : Nat) (x : EgrEntry) : e.stale l x = d.stale l x := by
  rw [Device.stale, Device.epoch, Device.port, h, Device.stale, Device.epoch, Device.port]

/-- Tile `t` takes a stitch off its plane: `rest` is still on the way. -/
def Device.stitchTaken (d : Device) (t plane : Nat) (rest : List Transit) : Device :=
  (d.onPath fun p => { p with transit := lset p.transit (4 * t + plane) rest }).pmc 8 t

/-- Stitch `idx` of a departure frame, with no error in it, is in the departure store. -/
def Device.stitchStored (d : Device) (t id idx : Nat) : Device :=
  (d.onDep t id fun f => { f with bad := f.bad || false }).onDep t id fun f => { f with arrived := f.arrived ++ [idx] }

section
variable {d : Device} {t plane err : Nat} {x : Transit} {rest : List Transit} {f : DepFrame}

theorem Device.depFrame_stitchTaken (d : Device) (t plane id : Nat) (rest : List Transit) :
    (d.stitchTaken t plane rest).depFrame t id = d.depFrame t id :=
  Device.depFrame_of_dep (by rw [Device.stitchTaken, Device.pmc_path]; rfl) t id

theorem Device.ports_stitchTaken (d : Device) (t plane : Nat) (rest : List Transit) : (d.stitchTaken t plane rest).ports = d.ports :=
  Device.pmc_ports _ _ _ _

theorem Device.transit_stitchTaken (d : Device) (t plane : Nat) (rest : List Transit) :
    (d.stitchTaken t plane rest).path.transit = lset d.path.transit (4 * t + plane) rest := by
  rw [Device.stitchTaken, Device.pmc_path]; rfl

theorem Device.egr_stitchTaken (d : Device) (t plane : Nat) (rest : List Transit) :
    (d.stitchTaken t plane rest).path.egr = d.path.egr := by
  rw [Device.stitchTaken, Device.pmc_path]; rfl

/-- Storing a stitch leaves a live frame alive. -/
theorem Device.depFrame_stitchStored {id idx : Nat} (hf : d.depFrame t id = some f) (hdead : f.dead = false) :
    ∃ g, (d.stitchStored t id idx).depFrame t id = some g ∧ g.dead = false := by
  refine ⟨{ f with bad := f.bad || false, arrived := f.arrived ++ [idx] }, ?_, hdead⟩
  rw [Device.stitchStored, Device.depFrame_onDep, Device.depFrame_onDep, hf]
  · rfl
  all_goals exact fun _ => rfl

/-- A stitch of a live frame that passes its checks is stored; the first one of a unicast frame brings the frame into its queue. -/
theorem Device.stitchArrive_passed (hx : lget d.path.transit (4 * t + plane) = x :: rest)
    (hf : d.depFrame t x.frame.id = some f) (hdead : f.dead = false)
    (hok : headerOk (leBytes 16 (leNat (x.frame.hdr.stitch x.idx f.total) ^^^ err)) = true) :
    d.stitchArrive t plane err true true =
      (((d.stitchTaken t plane rest).stitchStored t x.frame.id x.idx).when (x.idx == 0 && !x.mc) fun e =>
        e.enterQueue t x.frame).depCleanup t x.frame.id := by
  have htaken := (d.depFrame_stitchTaken t plane x.frame.id rest).trans hf
  obtain ⟨g, hg, hlive⟩ := Device.depFrame_stitchStored (idx := x.idx) htaken hdead
  simp only [Device.stitchTaken] at htaken
  simp only [Device.stitchStored, Device.stitchTaken] at hg
  simp only [Device.stitchArrive, hx, Device.when, Bool.not_true, Bool.false_eq_true, if_false, htaken, hdead, hok, hg, hlive,
    Bool.not_false, Bool.true_and, Device.stitchStored, Device.stitchTaken]

/-- The first stitch of a unicast frame that passes its checks leaves its plane and brings the frame into its queue (R37). -/
theorem Device.stitchArrive_first (hx : lget d.path.transit (4 * t + plane) = x :: rest)
    (hf : d.depFrame t x.frame.id = some f) (hdead : f.dead = false)
    (hok : headerOk (leBytes 16 (leNat (x.frame.hdr.stitch x.idx f.total) ^^^ err)) = true)
    (hidx : x.idx = 0) (hmc : x.mc = false) (hfresh : d.stale x.frame.hdr.dest (unicastEntry t x.frame) = false) :
    let q := qIdx x.frame.hdr.dest x.frame.hdr.queue
    let e := d.stitchArrive t plane err true true
    lget e.path.transit (4 * t + plane) = rest ∧ lget e.path.egr q = joinQueue (unicastEntry t x.frame) (lget d.path.egr q) := by
  intro q e
  have hports : ((d.stitchTaken t plane rest).stitchStored t x.frame.id x.idx).ports = d.ports := d.ports_stitchTaken t plane rest
  have he : e = (((d.stitchTaken t plane rest).stitchStored t x.frame.id x.idx).onEgr q
      (joinQueue (unicastEntry t x.frame))).depCleanup t x.frame.id := by
    have hfirst : (x.idx == 0 && !x.mc) = true := by simp [hidx, hmc]
    rw [show e = _ from Device.stitchArrive_passed hx hf hdead hok, hfirst, Device.when, if_pos rfl,
      Device.enterQueue_of_fresh ((Device.stale_of_ports hports _ _).trans hfresh)]
  rw [he]
  constructor
  · simp [Device.stitchStored, Device.transit_stitchTaken]
  · simp [Device.stitchStored, Device.egr_stitchTaken]

end

/-! ### A record of a tile copy is expanded (R286) -/

/-- The entry that member record `r` makes of a tile copy (R283, R286): `ord` is its place in the order of admission. -/
def Device.copyEntry (d : Device) (t : Nat) (f : Frame) (r : Nat) (c : Charge) (ord : Nat) : EgrEntry :=
  let port := bits r 29 20
  let len := copyLen f.hdr.len (bits r 18 17) f.parse.jarlis.isSome (d.jarlisPort port)
  { tile := t, id := f.id, hdr := { f.hdr with dtype := 0, dest := port, epoch := d.epoch port, len := len },
    vidOp := bits r 18 17, vid := bits r 16 5, jarlis := d.jarlisPort port, len := len, n := stitchCount len, charge := c,
    arrival := f.arrival, ord := ord, rep := true }

/-- A frame admitted on die is charged, and nothing moves for it. -/
theorem Device.admitQ_onDie {d : Device} {q n colour : Nat} {control : Bool} {c : Charge}
    (h : d.admitTest q n colour control = (.onDie c, false)) : d.admitQ q n colour control = (.onDie c, (d.charge c n).pmc 5 q) := by
  simp [Device.admitQ, h, Device.when]

/-- A record of a tile copy that admission holds on die becomes the last entry of its port's queue. -/
theorem Device.expandOne_onDie {d : Device} {t : Nat} {f : Frame} {r : Nat} {c : Charge}
    (hsrc : bit r 19 = false) (hhops : f.hops0 = false)
    (hlen : copyLen f.hdr.len (bits r 18 17) f.parse.jarlis.isSome (d.jarlisPort (bits r 29 20)) ≤ 16383)
    (hadm : d.admitTest (qIdx (bits r 29 20) f.hdr.queue)
      (stitchCount (copyLen f.hdr.len (bits r 18 17) f.parse.jarlis.isSome (d.jarlisPort (bits r 29 20)))) f.hdr.colour f.control =
        (.onDie c, false)) :
    ∃ ord, lget (d.expandOne t f r).path.egr (qIdx (bits r 29 20) f.hdr.queue) =
      lget d.path.egr (qIdx (bits r 29 20) f.hdr.queue) ++ [d.copyEntry t f r c ord] := by
  have hshort := Nat.not_lt.mpr hlen
  refine ⟨d.path.nextId, ?_⟩
  simp only [Device.expandOne, hsrc, hhops, hshort, Bool.false_and, Bool.false_eq_true, if_false, Device.admitQ_onDie hadm,
    Device.freshId, Device.inc_path]
  refine (congrArg (lget · _) (Device.when_keeps (·.path.egr) _ _ (fun e => ?_) _)).trans ?_
  · rw [Device.heldAdd_path]
  · rw [Device.onEgr_egr_same, Device.onDep_egr, Device.onPath_path, Device.pmc_path, Device.carried_egr (d.carried_charge c _),
      Device.carried_nextId (d.carried_charge c _)]
    rfl

/-- A tile copy with further records to come has one record expanded. -/
theorem Device.mcExpand_next {d : Device} {t : Nat} {x : DepFrame} (hx : d.expandable t = some x)
    (hmore : x.recIdx + 1 < (d.groupList t x.frame.hdr.dest x.frame.hdr.gver).2) :
    d.mcExpand t = (d.expandOne t x.frame (d.member t ((d.groupList t x.frame.hdr.dest x.frame.hdr.gver).1 + x.recIdx))).onDep t
      x.frame.id fun y => { y with recIdx := y.recIdx + 1 } := by
  simp only [Device.mcExpand, hx, Nat.lt_of_succ_lt hmore, Nat.not_le.mpr hmore, if_true, if_false]

/-! ### The older version of a group (R284) -/

@[simp] theorem Device.oldBusy_settle (d : Device) (g : Nat) : d.settle.oldBusy g = d.oldBusy g := by
  rw [Device.oldBusy, Device.settle_path, Device.oldBusy]

/-- A group's older version is busy no longer when no frame in flight names it; every other group is left alone. -/
theorem Device.oldBusy_oldDrained (d : Device) (g h : Nat) :
    (d.oldDrained g).oldBusy h = (d.oldBusy h && (h != g || d.groupInflight g (1 - d.groupCur g) != 0)) := by
  unfold Device.oldDrained
  split
  · next hn =>
    simp only [Device.oldBusy, Device.onPath_path, mget_mset, hn]
    by_cases hg : h = g <;> simp [hg]
  · next hn => simp [hn]

/-- Settles O6: each command is brought down to its effect, and the effect to the lemma about it. That an arriving frame goes before the
later frames of its ingress port is the model's place for the order that R37 asks (log 60, DESIGN CHOICE). -/
theorem yokeMoves : Obligations.YokeMoves := by
  unfold Obligations.YokeMoves
  intro s plane tile err g
  refine ⟨fun r st hr hc hs _ _ _ ho hroom => ?_, fun x rest f hx hf hdead _ hidx hmc hok hfresh => ?_, fun x c hx => ?_, ?_⟩
  · refine goes_exec (·.yokeCell plane) rfl ?_
    rw [Device.settle_path, Device.yokeCell_lone plane hr hc hs hroom, ho, lget_lpush_same]
  · refine goes_exec (·.stitchArrive tile plane err.toNat true true) rfl ?_
    rw [Device.settle_path]
    exact Device.stitchArrive_first hx hf hdead hok hidx hmc hfresh
  · intro l r port len hmore hsrc hhops hlen hadm
    obtain ⟨ord, hentry⟩ := Device.expandOne_onDie (t := tile) hsrc hhops hlen hadm
    refine goes_exec (·.mcExpand tile) rfl ⟨s.dev.copyEntry tile x.frame r c ord, ?_, rfl, rfl, rfl, rfl, rfl⟩
    rw [Device.settle_path, Device.mcExpand_next hx hmore]
    exact hentry
  · refine goes_exec (·.oldDrained g) rfl ⟨?_, fun h hne => ?_⟩
    · simp [Device.oldBusy_oldDrained]
    · simp [Device.oldBusy_oldDrained, hne]

end Sys2Proof.Machine
end
